-- ==== Sys2Proof/Word.lean ====
section
/-! DEFINITION. The word types of the hub and its unit constants (01 section 1.1, 11 section 11.1). -/

namespace Sys2Proof

/-- One byte of a serial line or of a frame. -/
abbrev Byte := BitVec 8

/-- Row seconds: a 48-bit count that wraps (01 section 1.1). -/
abbrev RowSec := BitVec 48

/-- The generation: an 8-bit count of steps that wraps (01 R11). -/
abbrev Gen := BitVec 8

/-- Nanoseconds in a second. -/
abbrev nsPerSec : Nat := 1000000000

/-- Fraction units in a nanosecond: 2^32 (01 section 1.1). -/
abbrev unitsPerNs : Nat := 4294967296

/-- A captured time: row seconds and whole nanoseconds, the fraction dropped (01 R3). -/
structure Time where
  sec : RowSec
  ns : Nat
  deriving DecidableEq, Repr

end Sys2Proof
end

