-- ==== Sys2Proof/Config.lean ====
section
/-! DEFINITION. What the part fixes once: its capacities and identity (00_scope.md, 09 R162, 11 R182), and the code
bytes that no table of the spec gives, as free values (log entries 13 and 48). -/

namespace Sys2Proof.Config

/-- Counters of every block but the wide ones stop here (conventions; 02, 04, 05, 06, 09). -/
abbrev counterMax : Nat := 65535

/-- Counts of 32 bits stop here (01 R8, 04 R73, 07 R126). -/
abbrev countMax : Nat := 4294967295

/-- The limit of the total rate in ppt (01 R2). -/
abbrev totalRateMax : Int := 200000000

/-- The signed 32-bit limit to which step amounts are saturated (01 R11, 07 R126). -/
abbrev amountMax : Int := 2147483647

/-- Places of the stamp queue (07 R131). -/
abbrev queuePlaces : Nat := 1024

/-- Places that ordinary records may fill (07 R131). -/
abbrev ordinaryPlaces : Nat := 1008

/-- Places of a port's mark buffer (06 R115). -/
abbrev markPlaces : Nat := 24

/-- Entries of a departure log (04 R64). -/
abbrev logPlaces : Nat := 16

/-- Values of a history ring (05 R93). -/
abbrev historyPlaces : Nat := 16

/-- Rates of the holdover ring (01 R7). -/
abbrev ringPlaces : Nat := 64

/-- Steps of the step history (01 R11). -/
abbrev stepPlaces : Nat := 4

/-- The vendor code of IDENTIFY (11 R182). -/
abbrev vendorCode : Nat := 0x0031

/-- The part number of IDENTIFY (11 R182). -/
abbrev partNumber : Nat := 0x0668

/-- The code byte of the n-th slew end cause in the order of 01 R18. No table of 11 section 11.1 gives it: a free
value (UNVERIFIED, safe; log entry 13). That NONE has a code byte is log entry 66's. -/
opaque slewEndCode : Nat → Byte

/-- The code byte of the n-th sample outcome in the order of 05 section 5.1: a free value (UNVERIFIED, safe; log
entry 13). -/
opaque outcomeCode : Nat → Byte

/-- The code byte of the n-th line latch state in the order of 06 section 6.1: a free value (UNVERIFIED, safe; log
entry 13). -/
opaque latchCode : Nat → Byte

/-- The code byte of a compensation target's source, 0 DELAY and 1 INITIAL as 03 R53 names them: a free value
(UNVERIFIED, safe; log entry 13). -/
opaque targetSourceCode : Nat → Byte

/-- The code byte of the selection, 0 NONE, 1 A, 2 B as 02 R31 lists them: a free value (UNVERIFIED, safe; log
entry 13). That NONE has a code byte is log entry 66's. -/
opaque selectionCode : Nat → Byte

/-- The four bytes that stand for a raw offset o outside a signed 32-bit item in a READ RACK reply: a free value
(UNVERIFIED, safe; log entry 48). -/
opaque wideOffset : Int → BitVec 32

end Sys2Proof.Config
end

