-- ==== Sys2Proof/Syntax.lean ====
section
/-! DEFINITION. The commands of the hub: one constructor per row of spec/opcode_table.json, with the operands that the
rules give the row (log entry 10). -/

namespace Sys2Proof

/-- A rack port, 0..15. -/
abbrev Port := Fin 16

/-- A local event line, EVT0..EVT7. -/
abbrev Line := Fin 8

/-- An index of the edge schedule, 0..31 (03 section 3.1). -/
abbrev EntryIx := Fin 32

/-- A reference input (02). -/
inductive Input where
  | a
  | b
  deriving DecidableEq, Repr

/-- The levels of the five strap pins, true for high (09 R150). -/
structure Straps where
  lrate : Bool
  lmode : Bool
  addr0 : Bool
  addr1 : Bool
  addr2 : Bool
  deriving DecidableEq, Repr

/-- A management frame that passed CRC, direction and address (09 R154): whether it was addressed to 15 (broadcast)
or to the hub, its request id and its payload. The kind is the command's constructor. -/
structure Req where
  broadcast : Bool
  id : Byte
  payload : List Byte
  deriving DecidableEq, Repr

/-- A byte of an asynchronous line whose stop bit has just been sampled (02 R21, 09 R152). -/
structure SerialByte where
  value : Byte
  stopHigh : Bool
  deriving DecidableEq, Repr

/-- What an asynchronous line shows at an oscillator tick: the byte, if any, whose stop bit ends there, and whether a
start bit falls there (09 R151, R153). A byte that ends comes before the next one's start bit. -/
structure SerialLine where
  ended : Option SerialByte
  starts : Bool
  deriving DecidableEq, Repr

/-- What the input pins show at an oscillator tick: the levels of EVT0..EVT7 (bit n for line n) and of HSTB, what
LINK_RX, REFA_TOD and REFB_TOD show, and the ports on whose link lines a frame is being received that does not end at that
tick (bit p for port p, 04 R66). -/
structure Pins where
  lines : BitVec 8
  hstb : Bool
  linkRx : SerialLine
  todA : SerialLine
  todB : SerialLine
  receiving : BitVec 16
  deriving DecidableEq, Repr

/-- What a second boundary takes from outside: whether DRM's work comes before a step there (05 R100), and the ports on
whose link lines a frame is being received at its tick that does not end there (bit p for port p, 04 R66). -/
structure RollInputs where
  drmFirst : Bool
  receiving : BitVec 16
  deriving DecidableEq, Repr

/-- The check of 04 R59 that a rack link frame failed. -/
inductive RackCheck where
  | framing
  | kind
  | count
  | crc
  deriving DecidableEq, Repr

/-- The commands. An event command reports that its event occurs; a request command is the receipt of that request's
frame. -/
inductive Instr where
  -- resets (09 R168)
  | powerOn (straps : Straps)
  | pinReset
  -- the timescale (01 R4, R5)
  | secondBoundary (roll : RollInputs)
  | suppressedRoll
  | cycleStart (sec : RowSec) (cycle : Nat)
  -- reference inputs (02 R20 to R24); the message is bytes 1 to 18 of 11 section 11.5
  | referencePulse (i : Input)
  | messageArrival (i : Input) (body : Vector Byte 18)
  | messageFramingError (i : Input)
  | messageGapTimeout (i : Input)
  | messageWindowExpiry (i : Input)
  | missingPulseExpiry (i : Input)
  -- emissions (03 R47, R51)
  | edgeEmission (p : Port) (entry : EntryIx) (sec : RowSec)
  | tickEmission (entry : EntryIx) (sec : RowSec)
  -- rack link (04)
  | cycleCompensatedInstant (p : Port) (sec : RowSec) (cycle : Nat) (receiving : Bool)
  | echoReceived (p : Port) (frame : List Byte) (edgeAgo : Nat)
  | callReceived (p : Port)
  | rackFrameRejected (p : Port) (check : RackCheck)
  | replyWindowExpiry (p : Port) (receiving : Bool)
  -- local lines and strobe (06 R108, R109; 08 R142)
  | lineEdge (l : Line) (level : Bool)
  | qualificationExpiry (l : Line)
  | strobeEdge
  -- the stamp queue's arbiter (07 R129)
  | admission
  -- the link receiver (09 R152 to R158)
  | linkFramingError
  | lengthError
  | interByteTimeout
  | crcError
  | otherFrame
  | busyDiscard
  | unknownRequest (r : Req)
  | broadcastQuery
  -- the request catalogue (09 section 9.5)
  | identify (r : Req)
  | status (r : Req)
  | restart (r : Req)
  | readTime (r : Req)
  | latch (r : Req)
  | readStrobe (r : Req)
  | setTime (r : Req)
  | adjust (r : Req)
  | setLeap (r : Req)
  | readLoop (r : Req)
  | setReference (r : Req)
  | readReference (r : Req)
  | setLoop (r : Req)
  | scheduleEdit (r : Req)
  | scheduleCommit (r : Req)
  | scheduleDiscard (r : Req)
  | readSchedule (r : Req)
  | setCycle (r : Req)
  | setPort (r : Req)
  | readPort (r : Req)
  | setDrift (r : Req)
  | readRack (r : Req)
  | readRow (r : Req)
  | setLine (r : Req)
  | readLines (r : Req)
  | setQueue (r : Req)
  | stamps (r : Req)
  | setNotices (r : Req)
  | poll (r : Req)
  -- the transmitter (09 R160, R161)
  | replyStart
  | replyCompletion
  | noticeCompletion
  -- oscillator, RESETN, LINK_DE and the rack receivers
  | oscillatorTick (quietTicks : Nat) (pins : Pins)
  | resetnRelease (straps : Straps)
  | linkDeDeassert
  | rackReceiverReopen (p : Port)
  deriving DecidableEq, Repr

end Sys2Proof
end

