-- ==== Sys2Proof/WellFormed.lean ====
section
/-! DEFINITION. Which commands something outside the hub can send: the checks that the operand types do not already
make. A command that fails them names no frame or event of the spec. -/

namespace Sys2Proof

/-- A management frame's payload has at most 248 bytes (09 section 9.2). -/
def Req.wf (r : Req) : Bool := r.payload.length ≤ 248

/-- An ECHO has at most 112 bytes from its kind byte through its CRC (11 section 11.4). -/
def rackFrameWf (frame : List Byte) : Bool := frame.length ≤ 112

/-- A cycle number lies in 0..63, the largest divisor being 64 (01 R5). -/
def cycleWf (cycle : Nat) : Bool := cycle < 64

/-- Whether a command's operands lie where a frame or event of the spec can put them. -/
def Instr.wf : Instr → Bool
  | .cycleStart _ k => cycleWf k
  | .cycleCompensatedInstant _ _ k _ => cycleWf k
  | .echoReceived _ frame _ => rackFrameWf frame
  | .unknownRequest r => r.wf
  | .identify r => r.wf
  | .status r => r.wf
  | .restart r => r.wf
  | .readTime r => r.wf
  | .latch r => r.wf
  | .readStrobe r => r.wf
  | .setTime r => r.wf
  | .adjust r => r.wf
  | .setLeap r => r.wf
  | .readLoop r => r.wf
  | .setReference r => r.wf
  | .readReference r => r.wf
  | .setLoop r => r.wf
  | .scheduleEdit r => r.wf
  | .scheduleCommit r => r.wf
  | .scheduleDiscard r => r.wf
  | .readSchedule r => r.wf
  | .setCycle r => r.wf
  | .setPort r => r.wf
  | .readPort r => r.wf
  | .setDrift r => r.wf
  | .readRack r => r.wf
  | .readRow r => r.wf
  | .setLine r => r.wf
  | .readLines r => r.wf
  | .setQueue r => r.wf
  | .stamps r => r.wf
  | .setNotices r => r.wf
  | .poll r => r.wf
  | .powerOn _ => true
  | .pinReset => true
  | .secondBoundary _ => true
  | .suppressedRoll => true
  | .referencePulse _ => true
  | .messageArrival _ _ => true
  | .messageFramingError _ => true
  | .messageGapTimeout _ => true
  | .messageWindowExpiry _ => true
  | .missingPulseExpiry _ => true
  | .edgeEmission _ _ _ => true
  | .tickEmission _ _ => true
  | .callReceived _ => true
  | .rackFrameRejected _ _ => true
  | .replyWindowExpiry _ _ => true
  | .lineEdge _ _ => true
  | .qualificationExpiry _ => true
  | .strobeEdge => true
  | .admission => true
  | .linkFramingError => true
  | .lengthError => true
  | .interByteTimeout => true
  | .crcError => true
  | .otherFrame => true
  | .busyDiscard => true
  | .broadcastQuery => true
  | .replyStart => true
  | .replyCompletion => true
  | .noticeCompletion => true
  | .oscillatorTick _ _ => true
  | .resetnRelease _ => true
  | .linkDeDeassert => true
  | .rackReceiverReopen _ => true

end Sys2Proof
end

