-- ==== Sys2Proof/Machine/Types.lean ====
section
/-! DEFINITION. The data types of the hub's state, unit by unit: one structure per unit of 00_scope.md's block table, with
the parts its chapter lists. Reset values stand in Machine/ResetValues.lean. -/

namespace Sys2Proof.Machine

/-! ### TSU, the row timescale (01) -/

/-- The timescale value (01 section 1.1): row seconds, nanoseconds, and the fraction in 2^-32 ns. -/
structure Ts where
  sec : RowSec
  ns : Nat
  frac : Nat
  deriving DecidableEq, Repr

/-- Timescale states (01 section 1.3), in the code order of 11 section 11.1. -/
inductive TsState where
  | freerun
  | acquiring
  | locked
  | holdover
  deriving DecidableEq, Repr

/-- Grades, A best (01 section 1.3, 06 section 6.4). -/
inductive Grade where
  | a
  | b
  | c
  | d
  deriving DecidableEq, Repr

/-- Step policies (02 R33). -/
inductive StepPolicy where
  | never
  | acquireOnly
  | always
  deriving DecidableEq, Repr

/-- The pending leap, with its effective row second (01 section 1.8). -/
inductive Leap where
  | none
  | insert (e : RowSec)
  | delete (e : RowSec)
  deriving DecidableEq, Repr

/-- What ended the latest slew, in the order of 01 R18. -/
inductive SlewEnd where
  | none
  | completed
  | replaced
  | selection
  | setTime
  | restart
  deriving DecidableEq, Repr

/-- The loop configuration of SET LOOP (02 R39). Rates are in ppt, thresholds in ns, the limit in s. -/
structure LoopCfg where
  kp : Nat
  ki : Nat
  fmax : Int
  freerun : Int
  lockThr : Nat
  unlockThr : Nat
  stepThr : Nat
  policy : StepPolicy
  holdLimit : Nat
  deriving DecidableEq, Repr

/-- A phase error in ns, exact, with its gross flag (02 R23). -/
structure PhaseErr where
  e : Int
  gross : Bool
  deriving DecidableEq, Repr

/-- An entry of the step history: the generation the step began and its full amount in ns (01 R11). -/
structure StepEntry where
  gen : Gen
  amount : Int
  deriving DecidableEq, Repr

/-- The slew (01 section 1.6): remainder in ns, term in ppb, rate in ppb, boost factor, latest end cause. -/
structure Slew where
  remainder : Int
  term : Int
  rate : Nat
  boost : Nat
  ended : SlewEnd
  deriving DecidableEq, Repr

/-- A cycle start that was raised (01 R5), with its quiet flag (01 R12). -/
structure CycleStart where
  sec : RowSec
  cycle : Nat
  quiet : Bool
  deriving DecidableEq, Repr

/-- The timescale unit. -/
structure Tsu where
  ts : Ts
  state : TsState
  lockedSince : Bool
  fLoop : Int
  integ : Int
  fTotal : Int
  cfg : LoopCfg
  ring : List Int
  holdRate : Int
  holdCount : Nat
  holdExpired : Bool
  gen : Gen
  hist : List StepEntry
  utc : Int
  leap : Leap
  slew : Slew
  staged : Option RowSec
  mark : Option RowSec
  quiet : Bool
  lastErr : Option PhaseErr
  lockRun : Nat
  unlockRun : Nat
  lastCycle : Option CycleStart
  deriving DecidableEq, Repr

/-! ### REF, the reference inputs (02) -/

/-- Input states (02 section 2.2), in code order. -/
inductive InputState where
  | off
  | absent
  | checking
  | qualified
  | disqualified
  deriving DecidableEq, Repr

/-- Verdict causes (02 R22, R24), in code order. -/
inductive Cause where
  | good
  | interval
  | noMessage
  | checksum
  | content
  | sequence
  | quality
  | missingPulse
  deriving DecidableEq, Repr

/-- One input's settings (02 R36): delays and tolerance in ns. -/
structure RefSettings where
  enable : Bool
  cable : Nat
  tol : Nat
  qmax : Nat
  deriving DecidableEq, Repr

/-- The last pulse: its capture, generation and exempt mark (02 R20, R27), the tolerance in force at it (02 R24), and
the elapsed time at it (02 section 2.1). -/
structure Pulse where
  cap : Time
  gen : Gen
  exempt : Bool
  tol : Nat
  stamp : Nat
  deriving DecidableEq, Repr

/-- The open observation (02 R20): the pulse it belongs to, the interval to it, whether the interval is exempt, and the
missing count m recorded with it. -/
structure Obs where
  cap : Time
  gen : Gen
  interval : Int
  exempt : Bool
  missed : Nat
  stamp : Nat
  deriving DecidableEq, Repr

/-- A reference message as its bytes give it (11 section 11.5). -/
structure RefMessage where
  sec : RowSec
  utc : Int
  warn : Byte
  eff : RowSec
  quality : Nat
  source : BitVec 16
  sumGood : Bool
  deriving DecidableEq, Repr

/-- A verdict in the slot, with what 02 R22 lets it carry: its cause (GOOD or why it is bad), the generation of its
pulse, and the phase error and message of a checksum-good message. -/
structure Verdict where
  cause : Cause
  gen : Gen
  err : Option PhaseErr
  msg : Option RefMessage
  deriving DecidableEq, Repr

/-- The ten counters of an input, in the order of 02 R38. -/
structure RefCounters where
  interval : Nat
  missingPulses : Nat
  missingMessages : Nat
  stray : Nat
  framing : Nat
  checksum : Nat
  content : Nat
  sequence : Nat
  quality : Nat
  superseded : Nat
  deriving DecidableEq, Repr

/-- REF's record of one input (02 section 2.1). `assembling`: the bytes of the message in assembly, the start byte first;
`inByte`: a byte of the message line is under way; `lastTick`: the oscillator tick at which its last byte ended (R21). -/
structure InputRec where
  state : InputState
  set : RefSettings
  staged : Option RefSettings
  pulse : Option Pulse
  obs : Option Obs
  missed : Nat
  expected : Option RowSec
  msg : Option RefMessage
  err : Option PhaseErr
  slot : Option Verdict
  cause : Cause
  goodRun : Nat
  badRun : Nat
  holdOff : Nat
  ctr : RefCounters
  assembling : List Byte
  inByte : Bool
  lastTick : Nat
  deriving DecidableEq, Repr

/-- The A/B spread with the row second it was worked out for (02 R32). -/
structure AbSpread where
  ns : Int
  sec : RowSec
  deriving DecidableEq, Repr

/-- The reference unit. -/
structure Ref where
  a : InputRec
  b : InputRec
  sel : Option Input
  preferred : Input
  revertive : Bool
  stagedPreferred : Option Input
  stagedRevertive : Option Bool
  spread : Option AbSpread
  deriving DecidableEq, Repr

/-! ### EDS, the edge schedule (03) -/

/-- Schedule actions (03 section 3.1), in code order. -/
inductive Action where
  | rise
  | fall
  | tick
  deriving DecidableEq, Repr

/-- A schedule entry (03 section 3.1): bit p of `ports` for port p, bit r of `mask` for residue r. -/
structure Entry where
  used : Bool
  offset : Nat
  ports : BitVec 16
  action : Action
  mask : BitVec 4
  deriving DecidableEq, Repr

/-- The edge scheduler. `level` is true for HIGH. `earlyBelow` is C_old of 03 R48: an emission of this
second with an offset below it was an early one of the second before. -/
structure Eds where
  active : Vector Entry 32
  pend : Vector Entry 32
  armed : Bool
  lastAct : Option RowSec
  comp : Vector Nat 16
  level : Vector Bool 16
  compStep : Nat
  earlyBelow : Vector Nat 16
  deriving DecidableEq, Repr

/-! ### RLE, the rack link (04) -/

/-- Port states (04 section 4.4), in code order. -/
inductive PortState where
  | down
  | seeking
  | up
  | faulted
  deriving DecidableEq, Repr

/-- Port modes (04 section 4.5), in code order. -/
inductive Mode where
  | polled
  | quiet
  deriving DecidableEq, Repr

/-- The tag of a cycle: row seconds modulo 16 and the cycle number (04 R60). -/
structure Tag where
  sec : BitVec 4
  cycle : BitVec 6
  deriving DecidableEq, Repr

/-- An entry of a departure log (04 R62, R64). -/
structure LogEntry where
  tag : Tag
  left : Time
  gen : Gen
  comp : Nat
  deriving DecidableEq, Repr

/-- An open exchange (04 R62): the awaited departure's entry, its reply window in ns, the elapsed time at the
departure, and whether its expiry is deferred to a frame being received (04 R69). -/
structure Exchange where
  entry : LogEntry
  window : Nat
  stamp : Nat
  deferred : Bool
  deriving DecidableEq, Repr

/-- What RLE keeps of the latest valid ECHO (04 R67). -/
structure LastEcho where
  arrival : Time
  turnaround : Nat
  rxSec : BitVec 16
  rxNs : Nat
  stepped : Bool
  holdover : Bool
  deriving DecidableEq, Repr

/-- A port's nine counters, in the order of 04's opening. -/
structure PortCounters where
  departures : Nat
  echoes : Nat
  missing : Nat
  late : Nat
  crc : Nat
  framing : Nat
  tag : Nat
  count : Nat
  protocol : Nat
  deriving DecidableEq, Repr

/-- A port's receiver (04 R58): closed while the hub transmits or the port is DOWN, waiting for 16 idle bit times,
looking for a start symbol, or receiving a frame. -/
inductive RackRx where
  | closed
  | waitIdle
  | looking
  | receiving
  deriving DecidableEq, Repr

/-- RLE's record of one port (04's opening), its receiver, and the TIME frame it is sending. -/
structure PortRec where
  state : PortState
  secs : Nat
  mode : Mode
  frozen : Option Mode
  staged : Option Mode
  loss : Nat
  initComp : Nat
  solicited : Bool
  exch : Option Exchange
  missRun : Nat
  log : List LogEntry
  lastEcho : Option LastEcho
  ctr : PortCounters
  rx : RackRx
  tx : Option (List Byte)
  deriving DecidableEq, Repr

/-- A cycle divisor with its reply window in ns (04 R77). -/
structure CycleCfg where
  divisor : Nat
  window : Nat
  deriving DecidableEq, Repr

/-- The rack link engine. -/
structure Rle where
  ports : Vector PortRec 16
  cycle : CycleCfg
  staged : Option CycleCfg
  deriving DecidableEq, Repr

/-! ### DRM, the drift monitor (05) -/

/-- Rack record states (05 R82), in code order. -/
inductive RackState where
  | unseen
  | settling
  | settled
  | watch
  | drifting
  | lost
  deriving DecidableEq, Repr

/-- Causes of a record's change of state (05 R83), in code order. -/
inductive RackCause where
  | enable
  | loss
  | recover
  | disable
  | gross
  | evaluation
  deriving DecidableEq, Repr

/-- Outcomes of a sample, in the order 05 section 5.1 names them. -/
inductive Outcome6 where
  | accepted
  | seeded
  | reseeded
  | outlier
  | implausible
  | stale
  deriving DecidableEq, Repr

/-- The last sample of a record (05 section 5.1), each part absent where it was not formed. -/
structure LastSample where
  tag : Tag
  trt : Option Int
  d : Option Int
  o : Option Int
  outcome : Outcome6
  deriving DecidableEq, Repr

/-- A record's five counters, in the order of 05 section 5.1. -/
structure RackCounters where
  implausible : Nat
  stale : Nat
  outliers : Nat
  reseeds : Nat
  gross : Nat
  deriving DecidableEq, Repr

/-- A rack record (05 section 5.1): `delay` is D, `offset` is O, `rate` is R. `holdFresh` notes that the step hold was
set at the boundary of the step (05 R100). -/
structure RackRec where
  state : RackState
  delay : Int
  delayCount : Nat
  delaySeed : Bool
  offset : Int
  offsetSeed : Bool
  rate : Int
  history : List Int
  accepted : Bool
  outlierRun : Nat
  watchRun : Nat
  alarmRun : Nat
  quietRun : Nat
  stepHold : Nat
  holdFresh : Bool
  alarmIn : Nat
  last : Option LastSample
  ctr : RackCounters
  deriving DecidableEq, Repr

/-- The drift configuration of SET DRIFT (05 R104) but for the compensation step, which EDS owns. -/
structure DriftCfg where
  offWatch : Nat
  offAlarm : Nat
  rateWatch : Nat
  rateAlarm : Nat
  gate : Nat
  rtMax : Nat
  kd : Nat
  ko : Nat
  spreadLimit : Nat
  deriving DecidableEq, Repr

/-- The row spread with its two ports and its row second (05 R102). -/
structure RowSpread where
  ns : Int
  high : Port
  low : Port
  sec : RowSec
  deriving DecidableEq, Repr

/-- The drift monitor. `counted` is the number of records counted for the row spread (05 R102, R107), `high` the
spread-high flag (R103). -/
structure Drm where
  recs : Vector RackRec 16
  cfg : DriftCfg
  spread : Option RowSpread
  counted : Nat
  high : Bool
  deriving DecidableEq, Repr

/-! ### ECU, event capture (06) -/

/-- Line modes (06 section 6.1), in code order. -/
inductive LineMode where
  | off
  | rise
  | fall
  | both
  | high
  | low
  deriving DecidableEq, Repr

/-- One line's configuration (06 section 6.1): width and delay in ns. -/
structure LineCfg where
  mode : LineMode
  width : Nat
  delay : Nat
  runt : Bool
  deriving DecidableEq, Repr

/-- What an edge records (06 R108): its capture, its kind (`rising` or FALLING), the grade and generation at the edge,
and the elapsed time that times the width. -/
structure EdgeCapture where
  cap : Time
  rising : Bool
  grade : Grade
  gen : Gen
  stamp : Nat
  deriving DecidableEq, Repr

/-- A local record held by a latch (06 R109). -/
structure LocalRec where
  time : Time
  rising : Bool
  grade : Grade
  gen : Gen
  runt : Bool
  deriving DecidableEq, Repr

/-- A line's capture latch (06 section 6.1). -/
inductive Latch where
  | empty
  | qualifying (c : EdgeCapture)
  | held (r : LocalRec)
  | waitRelease
  deriving DecidableEq, Repr

/-- A line's four counters, in the order of 06's opening. -/
structure LineCounters where
  qualified : Nat
  runts : Nat
  overruns : Nat
  discards : Nat
  deriving DecidableEq, Repr

/-- ECU's record of one line. `sample` is the latest sample, true for high. -/
structure LineRec where
  cfg : LineCfg
  latch : Latch
  sample : Bool
  ctr : LineCounters
  deriving DecidableEq, Repr

/-- The flags of a rack record (06 R119). -/
structure MarkFlags where
  stepCorrected : Bool
  seqGap : Bool
  clamped : Bool
  unreferenced : Bool
  deriving DecidableEq, Repr

/-- A dated mark (06 R119's record). -/
structure MarkRec where
  time : Time
  grade : Grade
  gen : Gen
  shelf : BitVec 5
  kind : BitVec 4
  seq : Byte
  flags : MarkFlags
  deriving DecidableEq, Repr

/-- A port's seven mark counters, in the order of 06's opening. -/
structure MarkCounters where
  accepted : Nat
  duplicates : Nat
  gaps : Nat
  fullStops : Nat
  unreferenced : Nat
  clamped : Nat
  corrected : Nat
  deriving DecidableEq, Repr

/-- ECU's record of one port: mark buffer, oldest first, next-expected and counters. -/
structure PortMarks where
  buf : List MarkRec
  nextExp : Option Byte
  ctr : MarkCounters
  deriving DecidableEq, Repr

/-- The event capture unit. -/
structure Ecu where
  lines : Vector LineRec 8
  marks : Vector PortMarks 16
  deriving DecidableEq, Repr

/-! ### SQ, the stamp queue (07) -/

/-- Reset causes (09 R162), in code order. -/
inductive ResetCause where
  | powerOn
  | pin
  | request
  deriving DecidableEq, Repr

/-- Causes of a LEAP marker or notice (10 section 10.1), in the code order of 11's notice payload. -/
inductive LeapCause where
  | adopt
  | pending
  | insert
  | delete
  deriving DecidableEq, Repr

/-- A marker with its detail and value (07 R126, section 7.6). -/
inductive Marker where
  | restart (cause : ResetCause) (emptied : Nat)
  | step (count : Nat) (amount : Int)
  | tstate (state : TsState) (count : Nat)
  | leap (cause : LeapCause) (utc : Int)
  | gap (lost : Nat)
  | tick (count : Nat)
  | rack (p : Port) (state : RackState) (count : Nat)
  deriving DecidableEq, Repr

/-- The time, grade and generation a record is given when it is made (07 R124). -/
structure Hdr where
  time : Time
  grade : Grade
  gen : Gen
  deriving DecidableEq, Repr

/-- What a stamp record reports, by type (07 R124). -/
inductive Body where
  | localLine (l : Line) (rising : Bool) (runt : Bool)
  | rackMark (p : Port) (shelf : BitVec 5) (kind : BitVec 4) (seq : Byte) (flags : MarkFlags)
  | marker (m : Marker)
  deriving DecidableEq, Repr

/-- A stamp record of the queue (07 R124). -/
structure Stamp where
  seq : BitVec 32
  hdr : Hdr
  body : Body
  deriving DecidableEq, Repr

/-- A waiting STEP entry: occurrences merged and net amount (07 R126, R127). -/
structure StepWait where
  hdr : Hdr
  count : Nat
  amount : Int
  deriving DecidableEq, Repr

/-- A waiting TSTATE entry. -/
structure TstateWait where
  hdr : Hdr
  state : TsState
  count : Nat
  deriving DecidableEq, Repr

/-- A waiting LEAP entry. -/
structure LeapWait where
  hdr : Hdr
  cause : LeapCause
  utc : Int
  deriving DecidableEq, Repr

/-- A waiting GAP or TICK entry: the header of its first occurrence and its count. -/
structure CountWait where
  hdr : Hdr
  count : Nat
  deriving DecidableEq, Repr

/-- A waiting RACK entry. -/
structure RackWait where
  hdr : Hdr
  state : RackState
  count : Nat
  deriving DecidableEq, Repr

/-- The marker backlog: at most one entry per kind, and per port for RACK (07 R126). -/
structure Backlog where
  step : Option StepWait
  tstate : Option TstateWait
  leap : Option LeapWait
  gap : Option CountWait
  tick : Option CountWait
  rack : Vector (Option RackWait) 16
  deriving DecidableEq, Repr

/-- Overflow policies (07 section 7.4), in code order. -/
inductive Policy where
  | keepOldest
  | keepNewest
  deriving DecidableEq, Repr

/-- The stamp queue, head first. `prior`: the policy that a SET QUEUE replaced, with the oscillator tick at which it did;
that policy still governs that tick (07 R139). -/
structure Sq where
  queue : List Stamp
  nextSeq : BitVec 32
  backlog : Backlog
  rotation : Fin 24
  policy : Policy
  prior : Option (Policy × Nat)
  watermark : Nat
  deriving DecidableEq, Repr

/-! ### STL, the strobe latch (08) -/

/-- Where a strobe came from (08 R143), in code order. -/
inductive StrobeSource where
  | hstb
  | latch
  deriving DecidableEq, Repr

/-- The latched record's five items (08 R143). -/
structure Strobe where
  time : Time
  gen : Gen
  state : TsState
  grade : Grade
  source : StrobeSource
  deriving DecidableEq, Repr

/-- The strobe latch: EMPTY is `latched = none`. `hstb` is absent until the first sample after a reset (08 R142). -/
structure Stl where
  latched : Option Strobe
  ignored : Nat
  hstb : Option Bool
  deriving DecidableEq, Repr

/-! ### NTU, notices (10) -/

/-- Causes of a PORT notice (04 R73), in code order. -/
inductive PortCause where
  | enable
  | disable
  | echo
  | loss
  deriving DecidableEq, Repr

/-- A place of the pending set: a notice kind with its source (10 section 10.1). -/
inductive Place where
  | tstate
  | step
  | holdoverLimit
  | ref (i : Input)
  | rack (p : Port)
  | path (p : Port)
  | spread
  | port (p : Port)
  | queueLevel
  | queueGap
  | strobe
  | leap
  deriving DecidableEq, Repr

/-- The value a notice carries, by kind (10 section 10.1). -/
inductive NoticeValue where
  | tstate (state : TsState)
  | step (amount : Int)
  | holdoverLimit (count limit : Nat)
  | ref (state : InputState) (selected : Bool) (cause : Cause)
  | rack (state : RackState) (cause : RackCause) (offset rate : Int)
  | path (newD oldD : Int)
  | spread (above : Bool) (spread : Option RowSpread) (limit : Nat)
  | port (state : PortState) (cause : PortCause)
  | queueLevel (fill watermark : Nat)
  | queueGap (lost fill : Nat)
  | strobe (source : StrobeSource) (time : Time)
  | leap (cause : LeapCause) (utc : Int) (leap : Leap)
  deriving DecidableEq, Repr

/-- An entry of the pending set (10 R169). -/
structure Notice where
  value : NoticeValue
  count : Nat
  sec : RowSec
  deriving DecidableEq, Repr

/-- The notice unit. Bit i of `masks` masks the kind of code i (11, SET NOTICES). -/
structure Ntu where
  entries : Vector (Option Notice) 58
  masks : BitVec 12
  pointers : Vector Nat 6
  attn : Bool
  deriving DecidableEq, Repr

/-! ### MLC, the management link (09) -/

/-- Link modes (09 R150), in code order. -/
inductive LinkMode where
  | point
  | shared
  deriving DecidableEq, Repr

/-- Receiver states (09 R152). -/
inductive RxPhase where
  | hunt
  | header
  | body
  deriving DecidableEq, Repr

/-- The receiver: its state, the bytes of the frame in assembly after the start byte, whether a byte is under way whose
start bit fell while bytes were taken (09 R151, R168), and the oscillator tick at which its last byte ended (R152,
R153). -/
structure Receiver where
  phase : RxPhase
  bytes : List Byte
  inByte : Bool
  lastTick : Nat
  deriving DecidableEq, Repr

/-- A formed reply: kind byte, request id, payload from the result byte on (09 R156, 11 R182). -/
structure Reply where
  kind : Byte
  id : Byte
  payload : List Byte
  deriving DecidableEq, Repr

/-- The transmitter's owner (09 section 9.4). -/
inductive Owner where
  | free
  | reply
  | notice
  deriving DecidableEq, Repr

/-- The ten link counters, in the order of 09 R164. -/
structure LinkCounters where
  requests : Nat
  replies : Nat
  notices : Nat
  refusals : Nat
  crc : Nat
  framing : Nat
  length : Nat
  timeouts : Nat
  busy : Nat
  other : Nat
  deriving DecidableEq, Repr

/-- The link controller. `begun`: the reply that owns the transmitter is being sent. `tx`: the frame on LINK_TX.
`restartDue`: an addressed RESTART waits for its reply completion. `held`: RESETN is low. -/
structure Mlc where
  rateHigh : Bool
  mode : LinkMode
  addr : BitVec 3
  rx : Receiver
  service : Bool
  reply : Option Reply
  owner : Owner
  begun : Bool
  tx : Option (List Byte)
  linkDE : Bool
  noticeNo : Byte
  lastCause : ResetCause
  ctr : LinkCounters
  restartDue : Bool
  held : Bool
  deriving DecidableEq, Repr

/-! ### The model's own clock (log entries 3 to 5) -/

/-- What was already taken at the latest tick: timed events, so that one pass of an instant makes each once (03 R48); the
compensated instant and the second of an emission that drove a port's line, for the order of R49; a departure made with
the port's receiver open and no frame in reception, with the exchange it closed: a frame that ends at this tick may still be
taken (06 R114; log entry 50); the arbiter's act; the sample of one line, of HSTB, or of all pins, which are sampled once a
tick (06 R108, 08 R142). -/
inductive TickEvent where
  | cycle (sec : RowSec) (k : Nat)
  | edge (p : Port) (entry : EntryIx) (sec : RowSec)
  | tick (entry : EntryIx) (sec : RowSec)
  | departure (p : Port) (sec : RowSec) (k : Nat)
  | drive (p : Port) (instant : Time) (sec : RowSec)
  | overtaken (p : Port) (x : Option Exchange)
  | arbiter
  | line (l : Line)
  | hstb
  | pins
  deriving DecidableEq, Repr

/-- The passing of time: the sum of tick advances in 2^-32 ns (02 section 2.1), the oscillator ticks (09 R153), the
capture from which the latest tick, or the step taken at it, moved the timescale on (log entry 45), the row second a roll at
the latest tick began, the elapsed time at the latest step, and the events taken at the latest tick. -/
structure Clock where
  elapsed : Nat
  ticks : Nat
  tickFrom : Time
  rolled : Option RowSec
  stepStamp : Nat
  taken : List TickEvent
  deriving DecidableEq, Repr

end Sys2Proof.Machine
end

