-- ==== Sys2Proof/Machine/ResetValues.lean ====
section
/-! DEFINITION. Each unit's values after reset: 01 R19, 02 R40 and R41, 03 R57, 04 R80, 05 R107, 06 R123, 07 R140,
08 R149, 10 R178, 09 R168. RESTART builds on the same values (Machine/Resets.lean). -/

namespace Sys2Proof.Machine

/-- Default loop configuration (02 R39). -/
def LoopCfg.default : LoopCfg where
  kp := 3
  ki := 8
  fmax := 10000000
  freerun := 0
  lockThr := 100
  unlockThr := 1000
  stepThr := 1000000
  policy := .acquireOnly
  holdLimit := 14400

/-- No slew (01 R19). -/
def Slew.idle : Slew where
  remainder := 0
  term := 0
  rate := 0
  boost := 1
  ended := .none

/-- TSU after power-on and pin reset (01 R19, 02 R41). -/
def Tsu.initial : Tsu where
  ts := ⟨0, 0, 0⟩
  state := .freerun
  lockedSince := false
  fLoop := 0
  integ := 0
  fTotal := 0
  cfg := LoopCfg.default
  ring := []
  holdRate := 0
  holdCount := 0
  holdExpired := false
  gen := 0
  hist := []
  utc := 0
  leap := .none
  slew := Slew.idle
  staged := none
  mark := none
  quiet := false
  lastErr := none
  lockRun := 0
  unlockRun := 0
  lastCycle := none

/-- Default settings of an input (02 R36, R40). -/
def RefSettings.default : RefSettings where
  enable := true
  cable := 0
  tol := 1000
  qmax := 7

/-- Counters at 0. -/
def RefCounters.zero : RefCounters := ⟨0, 0, 0, 0, 0, 0, 0, 0, 0, 0⟩

/-- An input after every reset (02 R40). A byte under way on its message line is dropped with it (DESIGN CHOICE, unsafe; log
entry 53). -/
def InputRec.initial : InputRec where
  state := .absent
  set := RefSettings.default
  staged := none
  pulse := none
  obs := none
  missed := 0
  expected := none
  msg := none
  err := none
  slot := none
  cause := .good
  goodRun := 0
  badRun := 0
  holdOff := 0
  ctr := RefCounters.zero
  assembling := []
  inByte := false
  lastTick := 0

/-- REF after every reset (02 R40). -/
def Ref.initial : Ref where
  a := InputRec.initial
  b := InputRec.initial
  sel := none
  preferred := .a
  revertive := false
  stagedPreferred := none
  stagedRevertive := none
  spread := none

/-- A schedule entry after every reset (03 R57). -/
def Entry.clear : Entry where
  used := false
  offset := 0
  ports := 0
  action := .rise
  mask := 0

/-- EDS after every reset (03 R57). -/
def Eds.initial : Eds where
  active := Vector.replicate 32 Entry.clear
  pend := Vector.replicate 32 Entry.clear
  armed := false
  lastAct := none
  comp := Vector.replicate 16 0
  level := Vector.replicate 16 false
  compStep := 50
  earlyBelow := Vector.replicate 16 0

/-- Counters at 0. -/
def PortCounters.zero : PortCounters := ⟨0, 0, 0, 0, 0, 0, 0, 0, 0⟩

/-- A port after every reset (04 R80). -/
def PortRec.initial : PortRec where
  state := .down
  secs := 0
  mode := .polled
  frozen := none
  staged := none
  loss := 8
  initComp := 0
  solicited := false
  exch := none
  missRun := 0
  log := []
  lastEcho := none
  ctr := PortCounters.zero
  rx := .closed
  tx := none

/-- RLE after every reset (04 R80). -/
def Rle.initial : Rle where
  ports := Vector.replicate 16 PortRec.initial
  cycle := ⟨16, 200000⟩
  staged := none

/-- Counters at 0. -/
def RackCounters.zero : RackCounters := ⟨0, 0, 0, 0, 0⟩

/-- A rack record after every reset (05 section 5.1). -/
def RackRec.initial : RackRec where
  state := .unseen
  delay := 0
  delayCount := 0
  delaySeed := true
  offset := 0
  offsetSeed := true
  rate := 0
  history := []
  accepted := false
  outlierRun := 0
  watchRun := 0
  alarmRun := 0
  quietRun := 0
  stepHold := 0
  holdFresh := false
  alarmIn := 65535
  last := none
  ctr := RackCounters.zero

/-- Default drift configuration (05 R104). -/
def DriftCfg.default : DriftCfg where
  offWatch := 500
  offAlarm := 2000
  rateWatch := 50000
  rateAlarm := 200000
  gate := 200
  rtMax := 20000
  kd := 3
  ko := 2
  spreadLimit := 1000

/-- DRM after every reset (05 R107). -/
def Drm.initial : Drm where
  recs := Vector.replicate 16 RackRec.initial
  cfg := DriftCfg.default
  spread := none
  counted := 0
  high := false

/-- A line after every reset (06 R123); the sample given is kept across RESTART and low at first (log entry 2). -/
def LineRec.initial (sample : Bool) : LineRec where
  cfg := ⟨.off, 0, 0, false⟩
  latch := .empty
  sample := sample
  ctr := ⟨0, 0, 0, 0⟩

/-- A port's marks after every reset (06 R123). -/
def PortMarks.initial : PortMarks where
  buf := []
  nextExp := none
  ctr := ⟨0, 0, 0, 0, 0, 0, 0⟩

/-- ECU after power-on and pin reset (06 R123). -/
def Ecu.initial : Ecu where
  lines := Vector.replicate 8 (LineRec.initial false)
  marks := Vector.replicate 16 PortMarks.initial

/-- The empty backlog. -/
def Backlog.empty : Backlog where
  step := none
  tstate := none
  leap := none
  gap := none
  tick := none
  rack := Vector.replicate 16 none

/-- SQ after power-on or pin reset (07 R140): one RESTART record of sequence 0, time 0, grade D, generation 0. -/
def Sq.initial (cause : ResetCause) : Sq where
  queue := [⟨0, ⟨⟨0, 0⟩, .d, 0⟩, .marker (.restart cause 0)⟩]
  nextSeq := 1
  backlog := Backlog.empty
  rotation := 23
  policy := .keepOldest
  prior := none
  watermark := 768

/-- STL after every reset (08 R149). -/
def Stl.initial : Stl where
  latched := none
  ignored := 0
  hstb := none

/-- NTU after power-on and pin reset (10 R178). -/
def Ntu.initial : Ntu where
  entries := Vector.replicate 58 none
  masks := 0
  pointers := Vector.replicate 6 0
  attn := false

/-- The receiver hunting, no frame in assembly (09 R168). -/
def Receiver.hunting : Receiver := ⟨.hunt, [], false, 0⟩

/-- Counters at 0. -/
def LinkCounters.zero : LinkCounters := ⟨0, 0, 0, 0, 0, 0, 0, 0, 0, 0⟩

/-- The link mode that LMODE straps: low POINT, high SHARED (09 R150). -/
def strapMode (st : Straps) : LinkMode := if st.lmode then .shared else .point

/-- The hub address ADDR0 + 2 ADDR1 + 4 ADDR2 (09 R150). -/
def strapAddress (st : Straps) : BitVec 3 :=
  BitVec.ofNat 3 (st.addr0.toNat + 2 * st.addr1.toNat + 4 * st.addr2.toNat)

/-- MLC at power-on, or at the release of RESETN (09 R150, R168). -/
def Mlc.initial (cause : ResetCause) (st : Straps) : Mlc where
  rateHigh := st.lrate
  mode := strapMode st
  addr := strapAddress st
  rx := Receiver.hunting
  service := false
  reply := none
  owner := .free
  begun := false
  tx := none
  linkDE := !st.lmode
  noticeNo := 0
  lastCause := cause
  ctr := LinkCounters.zero
  restartDue := false
  held := false

/-- The model's clock at reset (log entry 3). -/
def Clock.initial : Clock where
  elapsed := 0
  ticks := 0
  tickFrom := ⟨0, 0⟩
  rolled := none
  stepStamp := 0
  taken := []

end Sys2Proof.Machine
end

