-- ==== Sys2Proof/Machine/State.lean ====
section
/-! DEFINITION. The state of the hub, the reasons a step could stop, and the state right after power-on. -/

namespace Sys2Proof.Machine

/-- Why the machine could stop with a fault. No command of the hub does: every row of the table has an effect, or
leaves the state as it is, in every state. -/
inductive Fault where
  /-- Raised by no meaning; it stands so that the type has a value. Safe. -/
  | never
  deriving DecidableEq, Repr

/-- Why a command could be refused. -/
inductive Refusal where
  /-- Raised only by an arm of `exec` for a command without a meaning; there is none. Safe. -/
  | notModelled (mnemonic : String)
  deriving DecidableEq, Repr

/-- The hub: its ten units (00_scope.md), the model's clock, and the queue of commands that wait, first in first
out. -/
structure State where
  tsu : Tsu
  ref : Ref
  eds : Eds
  rle : Rle
  drm : Drm
  ecu : Ecu
  sq : Sq
  stl : Stl
  ntu : Ntu
  mlc : Mlc
  clk : Clock
  pending : List Instr
  deriving DecidableEq, Repr

/-- What every outcome of a step is made of. -/
abbrev Outcome := Host.Outcome State Fault Refusal

def State.setTsu (s : State) (x : Tsu) : State := { s with tsu := x }
def State.setRef (s : State) (x : Ref) : State := { s with ref := x }
def State.setEds (s : State) (x : Eds) : State := { s with eds := x }
def State.setRle (s : State) (x : Rle) : State := { s with rle := x }
def State.setDrm (s : State) (x : Drm) : State := { s with drm := x }
def State.setEcu (s : State) (x : Ecu) : State := { s with ecu := x }
def State.setSq (s : State) (x : Sq) : State := { s with sq := x }
def State.setStl (s : State) (x : Stl) : State := { s with stl := x }
def State.setNtu (s : State) (x : Ntu) : State := { s with ntu := x }
def State.setMlc (s : State) (x : Mlc) : State := { s with mlc := x }
def State.setClk (s : State) (x : Clock) : State := { s with clk := x }
def State.setPending (s : State) (x : List Instr) : State := { s with pending := x }

/-- Every unit at its values after power-on or pin reset, with the straps sampled and the queue of commands given. -/
def State.initial (cause : ResetCause) (st : Straps) (q : List Instr) : State where
  tsu := Tsu.initial
  ref := Ref.initial
  eds := Eds.initial
  rle := Rle.initial
  drm := Drm.initial
  ecu := Ecu.initial
  sq := Sq.initial cause
  stl := Stl.initial
  ntu := Ntu.initial
  mlc := Mlc.initial cause st
  clk := Clock.initial
  pending := q

/-- All strap pins low: 115,200 bit/s, POINT, address 0 (DESIGN CHOICE, log entry 1). -/
def strapsLow : Straps := ⟨false, false, false, false, false⟩

/-- The hub right after power-on with all straps low and no command waiting. -/
def State.reset : State := State.initial .powerOn strapsLow []

end Sys2Proof.Machine
end

