-- ==== Sys2Proof/Machine/Arith.lean ====
section
/-! DEFINITION. The arithmetic of the conventions (00_scope.md): rounding, clamping, saturating counts, serial comparison,
and the arithmetic of times and of the timescale (01 R1). -/

namespace Sys2Proof

/-- The signed difference `a − b` of two row seconds, in −2^47..2^47−1 (conventions, Times). -/
def secDiff (a b : RowSec) : Int := (a - b).toInt

/-- The signed difference `a − b` of two times in ns (conventions, Times). -/
def Time.diff (a b : Time) : Int := secDiff a.sec b.sec * nsPerSec + (a.ns - b.ns)

/-- The time `d` ns after `t`, borrowing and carrying, row seconds wrapping modulo 2^48 (01 R11, 06 R109, R117). -/
def Time.plus (t : Time) (d : Int) : Time :=
  let x : Int := t.ns + d
  ⟨t.sec + BitVec.ofInt 48 (x / nsPerSec), (x % nsPerSec).toNat⟩

end Sys2Proof

namespace Sys2Proof.Machine

/-- `n / d` rounded to nearest, halves away from zero, for `d > 0` (conventions, Rounding). -/
def roundDiv (n d : Int) : Int :=
  if 0 ≤ n then (2 * n + d) / (2 * d) else -((2 * (-n) + d) / (2 * d))

/-- `v` clamped to `lo..hi` (conventions, Clamping). -/
def clamp (lo hi v : Int) : Int := if v < lo then lo else if hi < v then hi else v

/-- `v` clamped to `lo..hi`, for counts. -/
def clampNat (lo hi v : Nat) : Nat := if v < lo then lo else if hi < v then hi else v

/-- A step amount saturated to ±2,147,483,647 (01 R11). -/
def saturateAmount (v : Int) : Int := clamp (-Config.amountMax) Config.amountMax v

/-- A count raised by `k` that stops at `top` (conventions, Counts and counters). -/
def raiseBy (top k n : Nat) : Nat := if n + k ≤ top then n + k else top

/-- A 16-bit counter raised by 1. -/
def bump (n : Nat) : Nat := raiseBy Config.counterMax 1 n

/-- `x` is before `y` for 32-bit sequence numbers (conventions, Sequence comparison). -/
def seqBefore (x y : BitVec 32) : Bool := 1 ≤ (y - x).toNat && (y - x).toNat ≤ 2147483647

/-- How far `y` is ahead of `x` for 8-bit sequence numbers. -/
def ahead8 (x y : Byte) : Nat := (y - x).toNat

/-- The tick increment in fraction units for a total rate in ppt (01 R1). -/
def tickIncrement (fTotal : Int) : Nat :=
  (34359738368 + roundDiv (34359738368 * fTotal) 1000000000000).toNat

/-- The place of a timescale value inside its second, in fraction units. -/
def Ts.units (t : Ts) : Nat := t.ns * unitsPerNs + t.frac

/-- The timescale value after an advance of `units` fraction units: whole nanoseconds carry out of the fraction, and
each 1,000,000,000 of them into row seconds (01 R1). -/
def Ts.advance (t : Ts) (units : Nat) : Ts :=
  let x := t.units + units
  ⟨t.sec + BitVec.ofNat 48 (x / (nsPerSec * unitsPerNs)), x / unitsPerNs % nsPerSec, x % unitsPerNs⟩

/-- The capture of a timescale value: the fraction is dropped (01 R3). -/
def Ts.capture (t : Ts) : Time := ⟨t.sec, t.ns⟩

/-- The number of ticks, each of `inc` units, after which at least `units` have passed. -/
def ticksFor (units inc : Nat) : Nat := (units + inc - 1) / inc

/-- The mean of a list of rates, rounded to nearest (01 R8). -/
def meanOf (xs : List Int) : Int := roundDiv xs.sum xs.length

/-- The 16 ports in port order. -/
def allPorts : List Port := [0, 1, 2, 3, 4, 5, 6, 7, 8, 9, 10, 11, 12, 13, 14, 15]

/-- The 8 lines in line order. -/
def allLines : List Line := [0, 1, 2, 3, 4, 5, 6, 7]

/-- The 32 schedule indexes in order. -/
def allEntries : List EntryIx :=
  [0, 1, 2, 3, 4, 5, 6, 7, 8, 9, 10, 11, 12, 13, 14, 15, 16, 17, 18, 19, 20, 21, 22, 23, 24, 25, 26, 27, 28, 29, 30, 31]

/-- The 24 ordinary sources of the stamp queue in order (07 section 7.3). -/
def allSources : List (Fin 24) :=
  [0, 1, 2, 3, 4, 5, 6, 7, 8, 9, 10, 11, 12, 13, 14, 15, 16, 17, 18, 19, 20, 21, 22, 23]

/-- One piece of work for every port, in port order. -/
def overPorts (f : Port → State → State) (s : State) : State := allPorts.foldl (fun s p => f p s) s

end Sys2Proof.Machine
end

