-- ==== Sys2Proof/Machine/Flags.lean ====
section
/-! DEFINITION. What the hub says of a time and of itself by flags and grades: the timescale grade (01 section 1.3), the
rack grade and its lowering (06 section 6.4), the quiet interval's suppression (03 R52, 04 R65), deliverability (10 R171)
and the backlog flags (07 R138). -/

namespace Sys2Proof.Machine

/-- The order of grades: A is 0, D is 3 (11 section 11.1). -/
def Grade.code : Grade → Nat
  | .a => 0
  | .b => 1
  | .c => 2
  | .d => 3

/-- The worse of two grades (06 R120). -/
def Grade.worse (g h : Grade) : Grade := if g.code ≤ h.code then h else g

/-- A grade lowered one level, D staying D (06 R120). -/
def Grade.lower : Grade → Grade
  | .a => .b
  | .b => .c
  | .c => .d
  | .d => .d

/-- The timescale grade: A LOCKED, B ACQUIRING, C HOLDOVER, D FREERUN and expired HOLDOVER (01 section 1.3, R8). -/
def Tsu.grade (t : Tsu) : Grade :=
  match t.state with
  | .freerun => .d
  | .acquiring => .b
  | .locked => .a
  | .holdover => if t.holdExpired then .d else .c

/-- The rack grade of a record's state (06 section 6.4). A record in UNSEEN hands on no marks. -/
def RackState.grade : RackState → Grade
  | .settled => .a
  | .watch => .b
  | .settling => .c
  | .drifting => .c
  | .lost => .d
  | .unseen => .d

/-- Whether O is carried as valid (05 R83, 04 R63). -/
def RackState.offsetValid : RackState → Bool
  | .settled => true
  | .watch => true
  | .drifting => true
  | .settling => false
  | .lost => false
  | .unseen => false

/-- Whether D is valid (05 R86). -/
def RackRec.delayValid (r : RackRec) : Bool := r.delayCount == 8

/-- Whether TSU holds a selected reference: exactly in ACQUIRING and LOCKED (01 R6). -/
def TsState.referenced : TsState → Bool
  | .acquiring => true
  | .locked => true
  | .freerun => false
  | .holdover => false

/-- The present capture of the timescale (01 R3). -/
def State.now (s : State) : Time := s.tsu.ts.capture

/-- What a record made now is given: capture, timescale grade, generation (07 R124). -/
def State.hdr (s : State) : Hdr := ⟨s.now, s.tsu.grade, s.tsu.gen⟩

/-- Whether an emission or departure that belongs to row second `sec` is suppressed after a step: the quiet interval is
open, and `sec` is not the second that the closing boundary begins. The next roll closes the interval unless it is the
suppressed one (01 R12, 03 R52, 04 R65). A second that comes round again after the interval is not suppressed (DESIGN
CHOICE, unsafe; log entry 54). -/
def State.suppressed (s : State) (sec : RowSec) : Bool :=
  s.tsu.quiet && !(sec == s.tsu.ts.sec + 1 && s.tsu.mark != some sec)

/-- Whether the second mask of an entry has the flag of the residue of `sec` set (03 R42). -/
def Entry.fires (e : Entry) (sec : RowSec) : Bool := e.mask.getLsbD (sec.toNat % 4)

/-- Whether port `p` is in an entry's port set. -/
def Entry.has (e : Entry) (p : Port) : Bool := e.ports.getLsbD p.val

/-- Whether an entry drives pulse lines: RISE or FALL (03 section 3.1). -/
def Entry.drives (e : Entry) : Bool := e.action != .tick

/-- Whether two entries conflict: both used, both RISE or FALL, equal offsets, a port shared (03 R44). -/
def Entry.conflicts (e f : Entry) : Bool :=
  e.used && f.used && e.drives && f.drives && e.offset == f.offset && (e.ports &&& f.ports) != 0

/-- The kind code of a place, which is also its mask bit (11, Notice payload). -/
def Place.code : Place → Nat
  | .tstate => 0
  | .step => 1
  | .holdoverLimit => 2
  | .ref _ => 3
  | .rack _ => 4
  | .path _ => 5
  | .spread => 6
  | .port _ => 7
  | .queueLevel => 8
  | .queueGap => 9
  | .strobe => 10
  | .leap => 11

/-- The source byte of a place (10 section 10.1). -/
def Place.source : Place → Nat
  | .ref .a => 0
  | .ref .b => 1
  | .rack p => p.val
  | .path p => p.val
  | .port p => p.val
  | _ => 0

/-- The place's index in the pending set: the classes one after another, positions in order (10 section 10.1). -/
def Place.index : Place → Fin 58
  | .tstate => 0
  | .step => 1
  | .holdoverLimit => 2
  | .ref .a => 3
  | .ref .b => 4
  | .rack p => ⟨5 + p.val, by omega⟩
  | .path p => ⟨21 + p.val, by omega⟩
  | .spread => 37
  | .port p => ⟨38 + p.val, by omega⟩
  | .queueLevel => 54
  | .queueGap => 55
  | .strobe => 56
  | .leap => 57

/-- The places of the six priority classes, lowest class first, each in position order (10 section 10.1). -/
def noticeClasses : List (Fin 6 × List Place) :=
  [(0, [.tstate, .step, .holdoverLimit]),
   (1, [.ref .a, .ref .b]),
   (2, allPorts.map .rack ++ allPorts.map .path ++ [.spread]),
   (3, allPorts.map .port),
   (4, [.queueLevel, .queueGap]),
   (5, [.strobe, .leap])]

/-- The entry at a place. -/
def Ntu.at (n : Ntu) (p : Place) : Option Notice := n.entries[p.index]

/-- Whether the entry at a place is deliverable: present, its kind unmasked (10 R171). -/
def Ntu.deliverable (n : Ntu) (p : Place) : Bool := (n.at p).isSome && !n.masks.getLsbD p.code

/-- All 58 places. -/
def allPlaces : List Place := noticeClasses.flatMap (·.2)

/-- Whether any entry is deliverable: what ATTN shows (10 R177). -/
def Ntu.anyDeliverable (n : Ntu) : Bool := allPlaces.any n.deliverable

/-- The number of entries in the pending set. -/
def Ntu.count (n : Ntu) : Nat := allPlaces.countP (fun p => (n.at p).isSome)

/-- The number of deliverable entries. -/
def Ntu.deliverableCount (n : Ntu) : Nat := allPlaces.countP n.deliverable

/-- Whether the backlog holds any RACK entry. -/
def Backlog.anyRack (b : Backlog) : Bool := allPorts.any (fun p => b.rack[p].isSome)

/-- The backlog flags byte: STEP, TSTATE, LEAP, GAP, TICK, any RACK from bit 0 up (07 R138, 11 STAMPS reply). -/
def Backlog.flags (b : Backlog) : Byte :=
  BitVec.ofNat 8 (b.step.isSome.toNat + 2 * b.tstate.isSome.toNat + 4 * b.leap.isSome.toNat + 8 * b.gap.isSome.toNat
    + 16 * b.tick.isSome.toNat + 32 * b.anyRack.toNat)

/-- The sequence of the queue's head, or the next sequence when the queue is empty (07 R138). -/
def Sq.headSeq (q : Sq) : BitVec 32 :=
  match q.queue with
  | [] => q.nextSeq
  | r :: _ => r.seq

/-- The level that is active for a mode, in the modes that have one (06 section 6.1). -/
def LineMode.activeEdge (m : LineMode) (level : Bool) : Bool :=
  match m with
  | .off => false
  | .rise => level
  | .fall => !level
  | .both => true
  | .high => level
  | .low => !level

/-- Whether a mode is a level mode (06 section 6.1). -/
def LineMode.isLevel : LineMode → Bool
  | .high => true
  | .low => true
  | .off => false
  | .rise => false
  | .fall => false
  | .both => false

end Sys2Proof.Machine
end

