-- ==== Sys2Proof/Machine/Formats.lean ====
section
/-! DEFINITION. The byte formats of chapter 11: fields (R181), codes, the CRC and the checksum (R183, R184), management
frames, the reference message, rack link frames, the stamp record and the notice payload. -/

namespace Sys2Proof.Machine

/-! ### Fields (R181) -/

/-- An unsigned field of `w` bytes, most significant byte first. -/
def beNat : Nat → Nat → List Byte
  | 0, _ => []
  | w + 1, v => BitVec.ofNat 8 (v / 256 ^ w) :: beNat w v

/-- A signed field of `w` bytes, two's complement. -/
def beInt (w : Nat) (v : Int) : List Byte := beNat w (v % (256 ^ w : Nat)).toNat

/-- The value of bytes, most significant first. -/
def readBe (bs : List Byte) : Nat := bs.foldl (fun a b => a * 256 + b.toNat) 0

/-- The `len` bytes from byte `at` on, as an unsigned value. -/
def field (bs : List Byte) (start len : Nat) : Nat := readBe ((bs.drop start).take len)

/-- The `len` bytes from byte `at` on, as a signed value. -/
def fieldS (bs : List Byte) (start len : Nat) : Int :=
  let v := field bs start len
  if v < 256 ^ len / 2 then v else (v : Int) - (256 ^ len : Nat)

/-- Bit `i` of the byte at `start`. -/
def fieldBit (bs : List Byte) (start i : Nat) : Bool := (field bs start 1).testBit i

/-- A flag or code in one byte. -/
def byte (v : Nat) : List Byte := [BitVec.ofNat 8 v]

/-- A flag in one byte. -/
def flagByte (b : Bool) : List Byte := byte b.toNat

/-- The level of a line or pin in one byte: 1 for high or asserted, 0 for low or deasserted (DESIGN CHOICE, unsafe; log
entry 47). -/
def levelByte (high : Bool) : List Byte := byte high.toNat

/-- A row second in 6 bytes. -/
def secBytes (s : RowSec) : List Byte := beNat 6 s.toNat

/-- A time in 10 bytes. -/
def timeBytes (t : Time) : List Byte := secBytes t.sec ++ beNat 4 t.ns

/-- The zero bytes of an absent item. -/
def zeros (w : Nat) : List Byte := List.replicate w 0

/-- An item of `w` bytes that may be absent: a presence byte, then the item, all zero when absent (R182). Which parts of a
reply make one item is log entry 65's where the spec leaves it open, and which items have no presence byte log entry 66's. -/
def presence (w : Nat) : Option (List Byte) → List Byte
  | none => zeros (w + 1)
  | some bs => byte 1 ++ bs

/-! ### Codes (11 section 11.1) -/

def TsState.code : TsState → Nat
  | .freerun => 0
  | .acquiring => 1
  | .locked => 2
  | .holdover => 3

def InputState.code : InputState → Nat
  | .off => 0
  | .absent => 1
  | .checking => 2
  | .qualified => 3
  | .disqualified => 4

def Cause.code : Cause → Nat
  | .good => 0
  | .interval => 1
  | .noMessage => 2
  | .checksum => 3
  | .content => 4
  | .sequence => 5
  | .quality => 6
  | .missingPulse => 7

def inputCode : Input → Nat
  | .a => 0
  | .b => 1

/-- The place of the selection in the order NONE, A, B (02 R31). -/
def selectionIndex : Option Input → Nat
  | none => 0
  | some .a => 1
  | some .b => 2

def StepPolicy.code : StepPolicy → Nat
  | .never => 0
  | .acquireOnly => 1
  | .always => 2

/-- The step policy of a code (02 R39). -/
def StepPolicy.ofCode : Nat → Option StepPolicy
  | 0 => some .never
  | 1 => some .acquireOnly
  | 2 => some .always
  | _ => none

/-- The place of a slew end cause in the order of 01 R18. -/
def SlewEnd.index : SlewEnd → Nat
  | .none => 0
  | .completed => 1
  | .replaced => 2
  | .selection => 3
  | .setTime => 4
  | .restart => 5

/-- The kind code of a pending leap. -/
def Leap.code : Leap → Nat
  | .none => 0
  | .insert _ => 1
  | .delete _ => 2

/-- E of a pending leap, 0 when NONE. -/
def Leap.second : Leap → RowSec
  | .none => 0
  | .insert e => e
  | .delete e => e

/-- The leap of a kind code and an effective second; no leap has another code (01 R17, 11 section 11.5). -/
def Leap.ofCode (e : RowSec) : Nat → Option Leap
  | 0 => some .none
  | 1 => some (.insert e)
  | 2 => some (.delete e)
  | _ => Option.none

def Action.code : Action → Nat
  | .rise => 0
  | .fall => 1
  | .tick => 2

def Action.ofCode : Nat → Option Action
  | 0 => some .rise
  | 1 => some .fall
  | 2 => some .tick
  | _ => none

def PortState.code : PortState → Nat
  | .down => 0
  | .seeking => 1
  | .up => 2
  | .faulted => 3

def Mode.code : Mode → Nat
  | .polled => 0
  | .quiet => 1

def Mode.ofCode : Nat → Option Mode
  | 0 => some .polled
  | 1 => some .quiet
  | _ => none

def RackState.code : RackState → Nat
  | .unseen => 0
  | .settling => 1
  | .settled => 2
  | .watch => 3
  | .drifting => 4
  | .lost => 5

def RackCause.code : RackCause → Nat
  | .enable => 0
  | .loss => 1
  | .recover => 2
  | .disable => 3
  | .gross => 4
  | .evaluation => 5

/-- The place of an outcome in the order of 05 section 5.1. -/
def Outcome6.index : Outcome6 → Nat
  | .accepted => 0
  | .seeded => 1
  | .reseeded => 2
  | .outlier => 3
  | .implausible => 4
  | .stale => 5

def PortCause.code : PortCause → Nat
  | .enable => 0
  | .disable => 1
  | .echo => 2
  | .loss => 3

def LineMode.code : LineMode → Nat
  | .off => 0
  | .rise => 1
  | .fall => 2
  | .both => 3
  | .high => 4
  | .low => 5

def LineMode.ofCode : Nat → Option LineMode
  | 0 => some .off
  | 1 => some .rise
  | 2 => some .fall
  | 3 => some .both
  | 4 => some .high
  | 5 => some .low
  | _ => none

/-- The place of a latch state in the order of 06 section 6.1. -/
def Latch.index : Latch → Nat
  | .empty => 0
  | .qualifying _ => 1
  | .held _ => 2
  | .waitRelease => 3

def Policy.code : Policy → Nat
  | .keepOldest => 0
  | .keepNewest => 1

def Policy.ofCode : Nat → Option Policy
  | 0 => some .keepOldest
  | 1 => some .keepNewest
  | _ => none

def StrobeSource.code : StrobeSource → Nat
  | .hstb => 0
  | .latch => 1

def ResetCause.code : ResetCause → Nat
  | .powerOn => 0
  | .pin => 1
  | .request => 2

/-- Causes of a LEAP marker or notice (11, Notice payload). -/
def LeapCause.code : LeapCause → Nat
  | .adopt => 0
  | .pending => 1
  | .insert => 2
  | .delete => 3

/-- The kind code of RISING or FALLING. -/
def edgeCode (rising : Bool) : Nat := if rising then 0 else 1

/-! ### CRC and checksum (R183, R184) -/

/-- One shift of the CRC register. -/
def crcShift (r : BitVec 16) : BitVec 16 := if r.msb then (r <<< 1) ^^^ 0x1021#16 else r <<< 1

/-- One byte taken into the CRC register. -/
def crcByte (r : BitVec 16) (b : Byte) : BitVec 16 :=
  (List.range 8).foldl (fun r _ => crcShift r) (r ^^^ (b.setWidth 16 <<< 8))

/-- The CRC of bytes in frame order. -/
def crc16 (bs : List Byte) : BitVec 16 := bs.foldl crcByte 0xFFFF#16

/-- The CRC's two bytes, high byte first. -/
def crcBytes (bs : List Byte) : List Byte := beNat 2 (crc16 bs).toNat

/-- Bytes followed by their CRC. -/
def withCrc (bs : List Byte) : List Byte := bs ++ crcBytes bs

/-- Whether the last two bytes are the CRC of those before them. -/
def crcGood (bs : List Byte) : Bool :=
  bs.drop (bs.length - 2) == crcBytes (bs.take (bs.length - 2))

/-! ### The management frame (11 section 11.2) -/

/-- The start byte of a management frame. -/
abbrev startByte : Byte := 0xA7

/-- The kind byte of a NOTICE frame. -/
abbrev noticeKind : Byte := 0xE0

/-- The kind byte of a reply of result UNKNOWN. -/
abbrev unknownKind : Byte := 0xFF

/-- A frame that the hub sends: direction hub to host, the strapped address, kind, id, length, payload, CRC. -/
def hubFrame (addr : BitVec 3) (kind id : Byte) (payload : List Byte) : List Byte :=
  startByte :: withCrc ([BitVec.ofNat 8 (128 + addr.toNat), kind, id, BitVec.ofNat 8 payload.length] ++ payload)

/-! ### The reference message (11 section 11.5) -/

/-- The start byte of a reference message. -/
abbrev refStart : Byte := 0x3C

/-- The message that bytes 1 to 18 spell. -/
def refMessage (bs : List Byte) : RefMessage where
  sec := BitVec.ofNat 48 (field bs 0 6)
  utc := fieldS bs 6 1
  warn := BitVec.ofNat 8 (field bs 7 1)
  eff := BitVec.ofNat 48 (field bs 8 6)
  quality := field bs 14 1 % 16
  source := BitVec.ofNat 16 (field bs 15 2)
  sumGood := (bs.map BitVec.toNat).sum % 256 == 0

/-- The pending leap a message names; none where its warning byte is outside the three codes. -/
def RefMessage.leap (m : RefMessage) : Option Leap := Leap.ofCode m.eff m.warn.toNat

/-! ### Rack link frames (11 section 11.4) -/

/-- A mark as an ECHO carries it (06 section 6.2): `ref` is its reference tag, `m` its offset in ns. -/
structure MarkIn where
  shelf : BitVec 5
  kind : BitVec 4
  ref : Tag
  seq : Byte
  m : Nat
  deriving DecidableEq, Repr

/-- What a received ECHO carries. -/
structure Echo where
  tag : Tag
  rxSec : BitVec 16
  rxNs : Nat
  turn : Nat
  stepped : Bool
  holdover : Bool
  marks : List MarkIn
  deriving DecidableEq, Repr

/-- What the receiver makes of a rack link frame (04 R59). -/
inductive RackVerdict where
  | echo (e : Echo)
  | call
  | bad (c : RackCheck)
  deriving DecidableEq, Repr

/-- The mark of 8 bytes; reserved bits are ignored. -/
def readMark (bs : List Byte) : MarkIn where
  shelf := BitVec.ofNat 5 (field bs 0 1)
  kind := BitVec.ofNat 4 (field bs 1 1 / 16)
  ref := ⟨BitVec.ofNat 4 (field bs 1 1), BitVec.ofNat 6 (field bs 3 1)⟩
  seq := BitVec.ofNat 8 (field bs 2 1)
  m := field bs 4 4 % 1073741824

/-- The first `c` marks of bytes. -/
def readMarks : Nat → List Byte → List MarkIn
  | 0, _ => []
  | c + 1, bs => readMark (bs.take 8) :: readMarks c (bs.drop 8)

/-- The ECHO that bytes spell; a turnaround above 1,000,000 ns is kept as 1,000,000 (04 R67). -/
def readEcho (bs : List Byte) : Echo where
  tag := ⟨BitVec.ofNat 4 (field bs 1 1), BitVec.ofNat 6 (field bs 2 1)⟩
  rxSec := BitVec.ofNat 16 (field bs 3 2)
  rxNs := field bs 5 4
  turn := min (field bs 9 3) 1000000
  stepped := fieldBit bs 12 0
  holdover := fieldBit bs 12 1
  marks := readMarks (field bs 13 1) (bs.drop 14)

/-- The checks of 04 R59 over the bytes from the kind byte on. Bytes that end before the frame does are a frame inside
which the line idles: a framing failure. Bytes after the frame's end are no part of it. -/
def judgeRack (bs : List Byte) : RackVerdict :=
  match bs with
  | [] => .bad .framing
  | k :: _ =>
    if k == 0x33 then
      if bs.length < 3 then .bad .framing
      else if crcGood (bs.take 3) then .call else .bad .crc
    else if k == 0x32 then
      if bs.length < 14 then .bad .framing
      else if 12 < field bs 13 1 then .bad .count
      else if bs.length < 16 + 8 * field bs 13 1 then .bad .framing
      else if crcGood (bs.take (16 + 8 * field bs 13 1)) then .echo (readEcho bs) else .bad .crc
    else .bad .kind

/-- A mark's 8 bytes. -/
def markBytes (k : MarkIn) : List Byte :=
  byte k.shelf.toNat ++ byte (k.kind.toNat * 16 + k.ref.sec.toNat) ++ [k.seq] ++ byte k.ref.cycle.toNat ++ beNat 4 k.m

/-- The ECHO frame an adapter sends. -/
def echoBytes (e : Echo) : List Byte :=
  withCrc (byte 0x32 ++ byte e.tag.sec.toNat ++ byte e.tag.cycle.toNat ++ beNat 2 e.rxSec.toNat ++ beNat 4 e.rxNs
    ++ beNat 3 e.turn ++ byte (e.stepped.toNat + 2 * e.holdover.toNat) ++ byte e.marks.length
    ++ e.marks.flatMap markBytes)

/-- The fields of a TIME frame (04 R63); `offset` and `ack` are absent where not valid. -/
structure TimeFrame where
  tag : Tag
  sec : RowSec
  utc : Int
  leap : Leap
  grade : Grade
  gen : Gen
  next : Mode
  offset : Option Int
  comp : Nat
  ack : Option Byte
  deriving DecidableEq, Repr

/-- The 27 bytes of a TIME frame. -/
def TimeFrame.bytes (f : TimeFrame) : List Byte :=
  withCrc (byte 0x31
    ++ byte (f.tag.sec.toNat + 16 * f.grade.code + 64 * f.next.code)
    ++ byte (f.tag.cycle.toNat + 64 * f.offset.isSome.toNat + 128 * f.ack.isSome.toNat)
    ++ secBytes f.sec ++ beInt 1 f.utc ++ byte f.leap.code ++ secBytes f.leap.second ++ [f.gen]
    ++ beInt 4 (f.offset.getD 0) ++ beNat 2 f.comp ++ [f.ack.getD 0])

/-! ### The stamp record (11 section 11.3) -/

def Marker.code : Marker → Nat
  | .restart _ _ => 0
  | .step _ _ => 1
  | .tstate _ _ => 2
  | .leap _ _ => 3
  | .gap _ => 4
  | .tick _ => 5
  | .rack _ _ _ => 6

/-- A marker's detail. -/
def Marker.detail : Marker → Nat
  | .restart c _ => c.code
  | .step n _ => n
  | .tstate st _ => st.code
  | .leap c _ => c.code
  | .gap _ => 0
  | .tick _ => 0
  | .rack p _ _ => p.val

/-- A marker's value, 4 bytes. -/
def Marker.value : Marker → List Byte
  | .restart _ n => beNat 4 n
  | .step _ a => beInt 4 a
  | .tstate _ n => beNat 4 n
  | .leap _ u => beInt 4 u
  | .gap n => beNat 4 n
  | .tick n => beNat 4 n
  | .rack _ st n => zeros 2 ++ byte n ++ byte st.code

/-- A rack mark's flags byte. -/
def MarkFlags.code (f : MarkFlags) : Nat :=
  f.stepCorrected.toNat + 2 * f.seqGap.toNat + 4 * f.clamped.toNat + 8 * f.unreferenced.toNat

/-- A body's type code. -/
def Body.typeCode : Body → Nat
  | .localLine _ _ _ => 0
  | .rackMark _ _ _ _ _ => 1
  | .marker _ => 2

/-- A body's kind code. -/
def Body.kindCode : Body → Nat
  | .localLine _ rising _ => edgeCode rising
  | .rackMark _ _ kind _ _ => kind.toNat
  | .marker m => m.code

/-- A body's source bytes. -/
def Body.source : Body → List Byte
  | .localLine l _ _ => byte l.val ++ byte 0
  | .rackMark p shelf _ _ _ => byte p.val ++ byte shelf.toNat
  | .marker m => beNat 2 m.detail

/-- A body's flags byte. -/
def Body.flags : Body → Nat
  | .localLine _ _ runt => 16 * runt.toNat
  | .rackMark _ _ _ _ f => f.code
  | .marker _ => 0

/-- A body's extra bytes. -/
def Body.extra : Body → List Byte
  | .localLine _ _ _ => zeros 4
  | .rackMark _ _ _ seq _ => zeros 3 ++ [seq]
  | .marker m => m.value

/-- The 24 bytes of a stamp record. -/
def Stamp.bytes (r : Stamp) : List Byte :=
  beNat 4 r.seq.toNat ++ byte (64 * r.body.typeCode + 16 * r.hdr.grade.code + r.body.kindCode) ++ r.body.source
    ++ [r.hdr.gen] ++ timeBytes r.hdr.time ++ byte r.body.flags ++ byte 0 ++ r.body.extra

/-! ### The notice payload (11, Notice payload) -/

/-- A notice's value, before the zero bytes that fill it up to 12. A SPREAD notice of an absent spread has zeros in the
places of the spread and its ports (DESIGN CHOICE, unsafe; log entry 63). -/
def NoticeValue.bytes : NoticeValue → List Byte
  | .tstate st => byte st.code
  | .step a => beInt 4 a
  | .holdoverLimit n limit => beNat 4 n ++ beNat 4 limit
  | .ref st sel c => byte st.code ++ flagByte sel ++ byte c.code
  | .rack st c o r => byte st.code ++ byte c.code ++ beInt 4 o ++ beInt 4 r
  | .path d e => beInt 4 d ++ beInt 4 e
  | .spread above sp limit =>
    byte (if above then 0 else 1) ++
      (match sp with
       | none => zeros 7
       | some x => byte 1 ++ beInt 4 x.ns ++ byte x.high.val ++ byte x.low.val) ++ beNat 4 limit
  | .port st c => byte st.code ++ byte c.code
  | .queueLevel fill w => beNat 2 fill ++ beNat 2 w
  | .queueGap lost fill => beNat 4 lost ++ beNat 2 fill
  | .strobe src t => byte src.code ++ timeBytes t
  | .leap c u l => byte c.code ++ beInt 1 u ++ byte l.code ++ secBytes l.second

/-- The 21 bytes of a notice. -/
def noticeBytes (p : Place) (n : Notice) : List Byte :=
  byte p.code ++ byte p.source ++ byte n.count ++ secBytes n.sec
    ++ (n.value.bytes ++ zeros (12 - n.value.bytes.length))

end Sys2Proof.Machine
end

