-- ==== Sys2Proof/Machine/Operands.lean ====
section
/-! DEFINITION. The operand forms: the fields of every request payload (11 section 11.2, Request payloads), read from its
bytes. `length` is the one permitted payload length of a kind. -/

namespace Sys2Proof.Machine

/-- The clear flag: bit 0 of a flag byte, the other bits reserved (R181). -/
def clearFlag (bs : List Byte) (start : Nat) : Bool := fieldBit bs start 0

/-- ADJUST (01 R13). -/
structure AdjustReq where
  amount : Int
  rate : Nat
  boost : Nat
  deriving DecidableEq, Repr

def AdjustReq.read (bs : List Byte) : AdjustReq := ⟨fieldS bs 0 4, field bs 4 4, field bs 8 1⟩

def AdjustReq.bytes (q : AdjustReq) : List Byte := beInt 4 q.amount ++ beNat 4 q.rate ++ byte q.boost

/-- SET TIME's row second T (01 R15). -/
def readSetTime (bs : List Byte) : RowSec := BitVec.ofNat 48 (field bs 0 6)

/-- SET LEAP (01 R17). -/
structure LeapReq where
  utc : Int
  kind : Nat
  second : RowSec
  deriving DecidableEq, Repr

def LeapReq.read (bs : List Byte) : LeapReq := ⟨fieldS bs 0 2, field bs 2 1, BitVec.ofNat 48 (field bs 3 6)⟩

/-- SET REFERENCE (02 R36). -/
structure ReferenceReq where
  input : Nat
  enable : Bool
  revertive : Bool
  priority : Nat
  cable : Nat
  tol : Nat
  qmax : Nat
  deriving DecidableEq, Repr

def ReferenceReq.read (bs : List Byte) : ReferenceReq :=
  ⟨field bs 0 1, fieldBit bs 1 0, fieldBit bs 1 1, field bs 2 1, field bs 3 4, field bs 7 4, field bs 11 1⟩

/-- SET LOOP (02 R39). -/
structure LoopReq where
  kp : Nat
  ki : Nat
  fmax : Nat
  freerun : Int
  lockThr : Nat
  unlockThr : Nat
  stepThr : Nat
  policy : Nat
  holdLimit : Nat
  deriving DecidableEq, Repr

def LoopReq.read (bs : List Byte) : LoopReq :=
  ⟨field bs 0 1, field bs 1 1, field bs 2 4, fieldS bs 6 4, field bs 10 4, field bs 14 4, field bs 18 4, field bs 22 1,
    field bs 23 4⟩

/-- The layout of SET LOOP, for its reply (R182). -/
def LoopCfg.bytes (c : LoopCfg) : List Byte :=
  byte c.kp ++ byte c.ki ++ beInt 4 c.fmax ++ beInt 4 c.freerun ++ beNat 4 c.lockThr ++ beNat 4 c.unlockThr
    ++ beNat 4 c.stepThr ++ byte c.policy.code ++ beNat 4 c.holdLimit

/-- SCHEDULE EDIT (03 R43): the entry's reserved flag bits 6..4 are ignored. -/
structure EditReq where
  index : Nat
  action : Nat
  used : Bool
  mask : BitVec 4
  offset : Nat
  ports : BitVec 16
  deriving DecidableEq, Repr

def EditReq.read (bs : List Byte) : EditReq :=
  ⟨field bs 0 1, field bs 1 1, fieldBit bs 2 7, BitVec.ofNat 4 (field bs 2 1), field bs 3 4,
    BitVec.ofNat 16 (field bs 7 2)⟩

def EditReq.bytes (q : EditReq) : List Byte :=
  byte q.index ++ byte q.action ++ byte (128 * q.used.toNat + q.mask.toNat) ++ beNat 4 q.offset ++ beNat 2 q.ports.toNat

/-- READ SCHEDULE (03 R56). -/
structure ScheduleReq where
  view : Nat
  first : Nat
  count : Nat
  deriving DecidableEq, Repr

def ScheduleReq.read (bs : List Byte) : ScheduleReq := ⟨field bs 0 1, field bs 1 1, field bs 2 1⟩

/-- SET CYCLE (04 R77). -/
structure CycleReq where
  divisor : Nat
  window : Nat
  deriving DecidableEq, Repr

def CycleReq.read (bs : List Byte) : CycleReq := ⟨field bs 0 1, field bs 1 4⟩

/-- SET PORT (04 R78). -/
structure PortReq where
  port : Nat
  enable : Bool
  mode : Nat
  loss : Nat
  comp : Nat
  deriving DecidableEq, Repr

def PortReq.read (bs : List Byte) : PortReq :=
  ⟨field bs 0 1, fieldBit bs 1 0, field bs 2 1, field bs 3 1, field bs 4 2⟩

def PortReq.bytes (q : PortReq) : List Byte :=
  byte q.port ++ flagByte q.enable ++ byte q.mode ++ byte q.loss ++ beNat 2 q.comp

/-- READ PORT and READ RACK: a port index and a clear flag (04 R79, 05 R105). -/
structure PortRead where
  port : Nat
  clear : Bool
  deriving DecidableEq, Repr

def PortRead.read (bs : List Byte) : PortRead := ⟨field bs 0 1, clearFlag bs 1⟩

/-- SET DRIFT (05 R104). -/
structure DriftReq where
  offWatch : Nat
  offAlarm : Nat
  rateWatch : Nat
  rateAlarm : Nat
  gate : Nat
  rtMax : Nat
  kd : Nat
  ko : Nat
  spreadLimit : Nat
  compStep : Nat
  deriving DecidableEq, Repr

def DriftReq.read (bs : List Byte) : DriftReq :=
  ⟨field bs 0 4, field bs 4 4, field bs 8 4, field bs 12 4, field bs 16 2, field bs 18 4, field bs 22 1, field bs 23 1,
    field bs 24 4, field bs 28 2⟩

def DriftReq.bytes (q : DriftReq) : List Byte :=
  beNat 4 q.offWatch ++ beNat 4 q.offAlarm ++ beNat 4 q.rateWatch ++ beNat 4 q.rateAlarm ++ beNat 2 q.gate
    ++ beNat 4 q.rtMax ++ byte q.kd ++ byte q.ko ++ beNat 4 q.spreadLimit ++ beNat 2 q.compStep

/-- SET LINE (06 R121). -/
structure LineReq where
  line : Nat
  mode : Nat
  width : Nat
  delay : Nat
  runt : Nat
  deriving DecidableEq, Repr

def LineReq.read (bs : List Byte) : LineReq :=
  ⟨field bs 0 1, field bs 1 1, field bs 2 2, field bs 4 2, field bs 6 1⟩

/-- READ LINES (06 R122). -/
structure LinesReq where
  view : Nat
  port : Nat
  clear : Bool
  deriving DecidableEq, Repr

def LinesReq.read (bs : List Byte) : LinesReq := ⟨field bs 0 1, field bs 1 1, clearFlag bs 2⟩

/-- SET QUEUE (07 R139). -/
structure QueueReq where
  policy : Nat
  watermark : Nat
  deriving DecidableEq, Repr

def QueueReq.read (bs : List Byte) : QueueReq := ⟨field bs 0 1, field bs 1 2⟩

def QueueReq.bytes (q : QueueReq) : List Byte := byte q.policy ++ beNat 2 q.watermark

/-- STAMPS (07 R136). -/
structure StampsReq where
  before : BitVec 32
  maximum : Nat
  deriving DecidableEq, Repr

def StampsReq.read (bs : List Byte) : StampsReq := ⟨BitVec.ofNat 32 (field bs 0 4), field bs 4 1⟩

def StampsReq.bytes (q : StampsReq) : List Byte := beNat 4 q.before.toNat ++ byte q.maximum

/-- SET NOTICES (10 R176): the mask bits 15..12 are reserved. -/
def readMasks (bs : List Byte) : BitVec 12 := BitVec.ofNat 12 (field bs 0 2)

end Sys2Proof.Machine
end

