-- ==== Sys2Proof/Machine/Ops.lean ====
section
/-! DEFINITION. The operations that many commands share: access to one port, record or line; the passing of oscillator
time; raising a notice or a marker; the transmitter; and serving a request. -/

namespace Sys2Proof.Machine

/-! ### Access -/

def State.port (s : State) (p : Port) : PortRec := s.rle.ports[p]

def State.setPort (s : State) (p : Port) (r : PortRec) : State :=
  s.setRle { s.rle with ports := s.rle.ports.set p r }

def State.rack (s : State) (p : Port) : RackRec := s.drm.recs[p]

def State.setRack (s : State) (p : Port) (r : RackRec) : State :=
  s.setDrm { s.drm with recs := s.drm.recs.set p r }

def State.marks (s : State) (p : Port) : PortMarks := s.ecu.marks[p]

def State.setMarks (s : State) (p : Port) (m : PortMarks) : State :=
  s.setEcu { s.ecu with marks := s.ecu.marks.set p m }

def State.line (s : State) (l : Line) : LineRec := s.ecu.lines[l]

def State.setLine (s : State) (l : Line) (r : LineRec) : State :=
  s.setEcu { s.ecu with lines := s.ecu.lines.set l r }

def Ref.input (r : Ref) : Input → InputRec
  | .a => r.a
  | .b => r.b

def Ref.setInput (r : Ref) (i : Input) (x : InputRec) : Ref :=
  match i with
  | .a => { r with a := x }
  | .b => { r with b := x }

def State.input (s : State) (i : Input) : InputRec := s.ref.input i

def State.setInput (s : State) (i : Input) (x : InputRec) : State := s.setRef (s.ref.setInput i x)

/-- The applied compensation C_p in force (03 R55). -/
def State.comp (s : State) (p : Port) : Nat := s.eds.comp[p]

def Eds.setLevel (e : Eds) (p : Port) (high : Bool) : Eds := { e with level := e.level.set p high }

def Eds.setComp (e : Eds) (p : Port) (c : Nat) : Eds := { e with comp := e.comp.set p c }

/-! ### What time alone ends on the serial lines (02 R21, 09 R153) -/

/-- The longest silence inside a message or frame, in oscillator ticks: 2 ms at 125 MHz (02 R21, 09 R153). -/
abbrev longestGap : Nat := 250000

/-- A message in assembly is abandoned and counted (02 R21). -/
def InputRec.abandon (r : InputRec) : InputRec :=
  { r with assembling := [], ctr := { r.ctr with framing := bump r.ctr.framing } }

/-- Whether the silence after the last byte of a message in assembly is longer than 2 ms by tick `n` (02 R21). -/
def InputRec.gapPassed (r : InputRec) (n : Nat) : Bool :=
  !r.assembling.isEmpty && !r.inByte && r.lastTick + longestGap < n

/-- A message whose next byte is overdue is abandoned (02 R21). -/
def State.gapTimeout (s : State) (i : Input) : State :=
  if (s.input i).gapPassed s.clk.ticks then s.setInput i (s.input i).abandon else s

/-- The receiver in HUNT at a byte's end or in a silence. -/
def Receiver.hunt (r : Receiver) : Receiver := { r with phase := .hunt, bytes := [], inByte := false }

/-- The frame in assembly is gone and the counters are `c`. -/
def State.dropFrame (s : State) (c : LinkCounters) : State := s.setMlc { s.mlc with rx := s.mlc.rx.hunt, ctr := c }

/-- Whether the inter-byte timeout of a frame in assembly has passed by tick `n` (09 R153). -/
def Receiver.gapPassed (r : Receiver) (n : Nat) : Bool := r.phase != .hunt && !r.inByte && r.lastTick + longestGap < n

/-- A frame whose next start bit is overdue is abandoned (09 R153). -/
def State.linkTimeout (s : State) : State :=
  if s.mlc.rx.gapPassed s.clk.ticks then s.dropFrame { s.mlc.ctr with timeouts := bump s.mlc.ctr.timeouts } else s

/-- What the passing of ticks ends on the three lines. -/
def State.lapse (s : State) : State := ((s.gapTimeout .a).gapTimeout .b).linkTimeout

/-! ### The passing of oscillator time (01 R1; log entries 3 to 5) -/

/-- The fraction units that each tick adds now (01 R1). -/
def State.tickUnits (s : State) : Nat := tickIncrement s.tsu.fTotal

/-- The timescale and the clock `m + 1` ticks on. -/
def State.advance (s : State) (m : Nat) : State :=
  (s.setTsu { s.tsu with ts := s.tsu.ts.advance ((m + 1) * s.tickUnits) }).setClk
    { s.clk with
      elapsed := s.clk.elapsed + (m + 1) * s.tickUnits
      ticks := s.clk.ticks + (m + 1)
      tickFrom := (s.tsu.ts.advance (m * s.tickUnits)).capture
      rolled := none
      taken := [] }

/-- `n` oscillator ticks at the rate in force, none of which rolls but perhaps the last: time advances, and a message or
frame in assembly that stays silent too long is abandoned in its course. -/
def State.runTicks (s : State) : Nat → State
  | 0 => s
  | m + 1 => (s.advance m).lapse

/-- How many ticks it takes until one rolls the nanoseconds past 999,999,999 (01 R4). -/
def State.ticksToRoll (s : State) : Nat := ticksFor (nsPerSec * unitsPerNs - s.tsu.ts.units) s.tickUnits

/-- Whether the latest tick's advance first brought the timescale to or past `t`. -/
def State.atTick (s : State) (t : Time) : Bool := 0 < t.diff s.clk.tickFrom && t.diff s.now ≤ 0

/-- The state at the tick that first brings the timescale to or past `t`: the present one, or a later one of the current
second; none where no such tick lies in the current second (log entry 4). -/
def State.reach (s : State) (t : Time) : Option State :=
  if s.atTick t then some s
  else if t.sec = s.now.sec ∧ 0 < t.diff s.now then
    if ticksFor (t.ns * unitsPerNs - s.tsu.ts.units) s.tickUnits < s.ticksToRoll then
      some (s.runTicks (ticksFor (t.ns * unitsPerNs - s.tsu.ts.units) s.tickUnits))
    else none
  else none

/-- The state at the tick at which the elapsed time since `stamp` has reached `ns`: the present one if it has, or a
later one of the current second (02 section 2.1). The tick of the next roll is reached by the roll alone, so an expiry
there is taken after REF's work (DESIGN CHOICE, unsafe; log entry 49). -/
def State.reachElapsed (s : State) (stamp ns : Nat) : Option State :=
  if stamp + ns * unitsPerNs ≤ s.clk.elapsed then some s
  else if ticksFor (stamp + ns * unitsPerNs - s.clk.elapsed) s.tickUnits < s.ticksToRoll then
    some (s.runTicks (ticksFor (stamp + ns * unitsPerNs - s.clk.elapsed) s.tickUnits))
  else none

/-- The state at oscillator tick `n`: the present one if that has come, or a later one of the current second. -/
def State.reachTick (s : State) (n : Nat) : Option State :=
  if n ≤ s.clk.ticks then some s
  else if n - s.clk.ticks < s.ticksToRoll then some (s.runTicks (n - s.clk.ticks))
  else none

/-- The state one tick on, where that tick does not roll. -/
def State.nextTick (s : State) : Option State := s.reachTick (s.clk.ticks + 1)

/-- Whether an event was already taken at the latest tick. -/
def State.hasTaken (s : State) (e : TickEvent) : Bool := s.clk.taken.contains e

/-- `s` with an event noted as taken at the latest tick. -/
def State.note (s : State) (e : TickEvent) : State := s.setClk { s.clk with taken := e :: s.clk.taken }

/-- The state at the next tick free for what happens at most once a tick: the present one unless it has happened here
(log entry 29). -/
def State.freeTick (s : State) (taken : Bool) : Option State := if taken then s.nextTick else some s

/-- The nominal instant of cycle `k` of second `sec` under divisor `n` (01 R5). -/
def cycleInstant (sec : RowSec) (k n : Nat) : Time := ⟨sec, k * (nsPerSec / n)⟩

/-! ### Notices (10) -/

/-- The position of a place in its class and the class, counted from 0 (10 section 10.1). -/
def Place.position : Place → Fin 6 × Nat
  | .tstate => (0, 0)
  | .step => (0, 1)
  | .holdoverLimit => (0, 2)
  | .ref .a => (1, 0)
  | .ref .b => (1, 1)
  | .rack p => (2, p.val)
  | .path p => (2, 16 + p.val)
  | .spread => (2, 32)
  | .port p => (3, p.val)
  | .queueLevel => (4, 0)
  | .queueGap => (4, 1)
  | .strobe => (5, 0)
  | .leap => (5, 1)

/-- How many places a class has. -/
def classSize : Fin 6 → Nat
  | 0 => 3
  | 1 => 2
  | 2 => 33
  | 3 => 16
  | 4 => 2
  | 5 => 2

/-- ATTN as the pending set stands (10 R177). -/
def Ntu.settle (n : Ntu) : Ntu := { n with attn := n.anyDeliverable }

def Ntu.setAt (n : Ntu) (p : Place) (e : Option Notice) : Ntu := { n with entries := n.entries.set p.index e }

/-- The entry that a raise leaves at its place (10 R169). -/
def Notice.merge (v : NoticeValue) (sec : RowSec) : Option Notice → Notice
  | none => ⟨v, 1, sec⟩
  | some o => ⟨v, raiseBy 255 1 o.count, sec⟩

/-- A notice raised into the pending set (10 R169). -/
def Ntu.raise (n : Ntu) (p : Place) (v : NoticeValue) (sec : RowSec) : Ntu :=
  (n.setAt p (some (Notice.merge v sec (n.at p)))).settle

/-- A list searched from position `k` on, wrapping. -/
def rotated {α : Type} (xs : List α) (k : Nat) : List α := xs.drop k ++ xs.take k

/-- The choice of 10 R172. -/
def Ntu.choose (n : Ntu) : Option Place :=
  noticeClasses.findSome? (fun c => (rotated c.2 n.pointers[c.1]).find? n.deliverable)

/-- The pending set after a delivery of the entry at `p`, with its class pointer moved (10 R173). -/
def Ntu.remove (n : Ntu) (p : Place) : Ntu :=
  let m := n.setAt p none
  Ntu.settle { m with
    pointers := m.pointers.set p.position.1 ((p.position.2 + 1) % classSize p.position.1) }

/-- A delivery: the chosen entry, or none, and the pending set after it (10 R173). -/
def Ntu.deliver (n : Ntu) : Option (Place × Notice) × Ntu :=
  match n.choose with
  | none => (none, n)
  | some p =>
    match n.at p with
    | none => (none, n)
    | some e => (some (p, e), n.remove p)

/-- A NOTICE frame begins (09 R161). -/
def Mlc.beginNotice (m : Mlc) (p : Place) (e : Notice) : Mlc :=
  { m with
    owner := .notice
    tx := some (hubFrame m.addr noticeKind m.noticeNo (noticeBytes p e))
    noticeNo := m.noticeNo + 1 }

/-- Whether a free transmitter would take a notice (09 R159, R161). -/
def Mlc.offers (m : Mlc) : Bool := m.mode == .point && m.owner == .free && !m.held

/-- The free transmitter asks the notice unit for a notice (09 R159, 10 R174). -/
def State.handOut (s : State) : State :=
  if s.mlc.offers then
    match s.ntu.deliver with
    | (none, _) => s
    | (some (p, e), n) => (s.setNtu n).setMlc (s.mlc.beginNotice p e)
  else s

/-- A block raises a notice at the present tick (10 R169, R174). A frame that it begins comes before a POLL of the tick (R175;
DESIGN CHOICE, unsafe; log entry 59). -/
def State.raiseNotice (s : State) (p : Place) (v : NoticeValue) : State :=
  (s.setNtu (s.ntu.raise p v s.now.sec)).handOut

/-! ### Markers (07 R126, R127) -/

/-- A marker raised into the backlog: an entry is created, or the occurrence merges into the entry of its kind. The
counts in `m` are those of the occurrence. A RESTART marker never enters the backlog. -/
def Backlog.raise (b : Backlog) (h : Hdr) : Marker → Backlog
  | .restart _ _ => b
  | .step k a =>
    match b.step with
    | none => { b with step := some ⟨h, k, saturateAmount a⟩ }
    | some e => { b with step := some ⟨h, raiseBy 255 k e.count, saturateAmount (e.amount + saturateAmount a)⟩ }
  | .tstate st k =>
    match b.tstate with
    | none => { b with tstate := some ⟨h, st, k⟩ }
    | some e => { b with tstate := some ⟨h, st, raiseBy Config.countMax k e.count⟩ }
  | .leap c u => { b with leap := some ⟨h, c, u⟩ }
  | .gap k =>
    match b.gap with
    | none => { b with gap := some ⟨h, k⟩ }
    | some e => { b with gap := some ⟨e.hdr, raiseBy Config.countMax k e.count⟩ }
  | .tick k =>
    match b.tick with
    | none => { b with tick := some ⟨h, k⟩ }
    | some e => { b with tick := some ⟨e.hdr, raiseBy Config.countMax k e.count⟩ }
  | .rack p st k =>
    match b.rack[p] with
    | none => { b with rack := b.rack.set p (some ⟨h, st, k⟩) }
    | some e => { b with rack := b.rack.set p (some ⟨h, st, raiseBy 255 k e.count⟩) }

/-- A block raises a marker with the time, grade and generation it gives. -/
def State.raiseMarker (s : State) (h : Hdr) (m : Marker) : State :=
  s.setSq { s.sq with backlog := s.sq.backlog.raise h m }

/-! ### Changes of a rack record's state (05 R82, R83) -/

/-- A record on an entry to SETTLING (05 R82). -/
def RackRec.toSettling (r : RackRec) : RackRec :=
  { r with
    state := .settling
    history := []
    delayCount := 0
    delaySeed := true
    offsetSeed := true
    rate := 0
    alarmIn := 65535
    outlierRun := 0
    watchRun := 0
    alarmRun := 0
    quietRun := 0
    accepted := false }

/-- A record on an entry to UNSEEN: its reset values, the counters kept (05 R82). -/
def RackRec.toUnseen (r : RackRec) : RackRec := { RackRec.initial with ctr := r.ctr }

/-- A record takes a new state: its RACK marker and RACK notice are raised (05 R83). The notice carries the O and R that the
change leaves (DESIGN CHOICE, unsafe; log entry 57). -/
def State.changeRecord (s : State) (p : Port) (r : RackRec) (c : RackCause) : State :=
  ((s.setRack p r).raiseMarker s.hdr (.rack p r.state 1)).raiseNotice (.rack p) (.rack r.state c r.offset r.rate)

/-! ### The rack link (04) -/

/-- A port takes a new state; its seconds in state start again (04 R73). -/
def PortRec.enter (r : PortRec) (st : PortState) : PortRec := { r with state := st, secs := 0 }

/-- An UP port enters FAULTED, its record LOST (04 R73, 05 R82). -/
def State.portFaulted (s : State) (p : Port) : State :=
  ((s.setPort p ((s.port p).enter .faulted)).changeRecord p { s.rack p with state := .lost } .loss).raiseNotice
    (.port p) (.port .faulted .loss)

/-- An exchange ends with a missing echo (04 R69). -/
def PortRec.miss (r : PortRec) : PortRec :=
  { r with
    exch := none
    missRun := raiseBy 255 1 r.missRun
    ctr := { r.ctr with missing := bump r.ctr.missing } }

/-- A port's exchange ends by expiry, and an UP port may enter FAULTED (04 R69). -/
def State.missEcho (s : State) (p : Port) : State :=
  if (s.port p).state = .up ∧ (s.port p).loss ≤ (s.port p).miss.missRun then
    (s.setPort p (s.port p).miss).portFaulted p
  else s.setPort p (s.port p).miss

/-- Part 1 of 04 R74: the frozen mode comes into force. -/
def PortRec.modeFirst (r : PortRec) : PortRec :=
  match r.frozen with
  | none => r
  | some m => { r with mode := m, frozen := none }

/-- Part 2 of 04 R74: the staged mode is frozen. -/
def PortRec.modeLast (r : PortRec) : PortRec :=
  match r.staged with
  | none => r
  | some m => { r with frozen := some m, staged := none }

/-- The TIME frame of a departure, filled at the departure tick (04 R63, R76). -/
def State.timeFrame (s : State) (p : Port) (sec : RowSec) (k : Nat) : TimeFrame where
  tag := ⟨sec.setWidth 4, BitVec.ofNat 6 k⟩
  sec := sec
  utc := s.tsu.utc
  leap := s.tsu.leap
  grade := s.tsu.grade
  gen := s.tsu.gen
  next := if k + 1 = s.rle.cycle.divisor then (s.port p).frozen.getD (s.port p).mode else (s.port p).mode
  offset := if (s.rack p).state.offsetValid then some (s.rack p).offset else none
  comp := s.comp p
  ack := (s.marks p).nextExp.map (· - 1)

/-- The departure log's new entry (04 R62). -/
def State.logEntry (s : State) (p : Port) (sec : RowSec) (k : Nat) (left : Time) : LogEntry :=
  ⟨⟨sec.setWidth 4, BitVec.ofNat 6 k⟩, left, s.tsu.gen, s.comp p⟩

/-- What a departure does to its port (04 R62): the frame on the line, the log, the exchange, the flag, the counter, the
receiver closed while the hub transmits (R58). A TIME frame still being sent there is replaced at once by the new one
(DESIGN CHOICE, unsafe; log entry 62). -/
def State.departPort (s : State) (p : Port) (sec : RowSec) (k : Nat) (left : Time) : PortRec :=
  let r := s.port p
  { r with
    log := (s.logEntry p sec k left :: r.log).take Config.logPlaces
    exch := some ⟨s.logEntry p sec k left, s.rle.cycle.window, s.clk.elapsed, false⟩
    solicited := false
    ctr := { r.ctr with departures := bump r.ctr.departures }
    rx := .closed
    tx := some (s.timeFrame p sec k).bytes }

/-- Whether the receiver of a port can be taking a frame (04 R58). -/
def PortRec.canReceive (r : PortRec) : Bool := r.state != .down && (r.rx == .looking || r.rx == .receiving)

/-- A departure on a port whose exchange is still open first closes it as an expiry would, and a frame being received
is abandoned as a framing error (04 R66; log entry 23). `receiving`: a frame is being received then that does not end at
this tick (log entry 50). -/
def State.closeForDeparture (s : State) (p : Port) (receiving : Bool) : State :=
  match (s.port p).exch with
  | none => s
  | some _ =>
    if receiving && (s.port p).canReceive then
      let t := s.missEcho p
      t.setPort p { t.port p with ctr := { (t.port p).ctr with framing := bump (t.port p).ctr.framing } }
    else s.missEcho p

/-- What a departure notes for a frame whose frame-end falls at its tick and is taken after it: that there may be one, and
the exchange the departure closed (06 R114; log entry 50). -/
def State.noteOvertaken (s : State) (p : Port) (receiving : Bool) (t : State) : State :=
  if (s.port p).canReceive && !receiving then t.note (.overtaken p (s.port p).exch) else t

/-- A departure of cycle `k` of second `sec` on port `p`, whose timing point is `left` (04 R62, R66). -/
def State.depart (s : State) (p : Port) (sec : RowSec) (k : Nat) (left : Time) (receiving : Bool) : State :=
  let t := s.closeForDeparture p receiving
  s.noteOvertaken p receiving (t.setPort p (t.departPort p sec k left))

/-- Whether cycle `k` gets a departure by the mode in force (04 R60). -/
def PortRec.due (r : PortRec) (k : Nat) : Bool := r.mode == .polled || k == 0 || r.solicited

/-! ### Compensation (03 R53) -/

/-- A port's compensation target: its value, whether its source is DELAY, and the target-limited flag. -/
structure Target where
  ns : Nat
  fromDelay : Bool
  limited : Bool
  deriving DecidableEq, Repr

/-- The target formed from a rack record and an initial compensation (03 R53, 05 R101). -/
def compTarget (r : RackRec) (initComp : Nat) : Target :=
  if r.delayValid then ⟨(clamp 0 20000 r.delay).toNat, true, 20000 < r.delay⟩ else ⟨initComp, false, false⟩

/-- A compensation moved toward its target by at most `step` (03 R53). -/
def moveToward (step c target : Nat) : Nat :=
  if c ≤ target then c + min step (target - c) else c - min step (c - target)

/-! ### Serving a request (09 R154 to R160) -/

/-- Results of a reply (09 R157). -/
inductive Result where
  | done
  | doneClamped
  | unknown
  | malformed
  | invalid
  | wrongState
  | conflict
  deriving DecidableEq, Repr

/-- Result codes (11 R182). -/
def Result.code : Result → Nat
  | .done => 0
  | .doneClamped => 1
  | .unknown => 2
  | .malformed => 3
  | .invalid => 4
  | .wrongState => 5
  | .conflict => 6

/-- Whether a result refuses its request (09 R164). -/
def Result.refuses : Result → Bool
  | .done => false
  | .doneClamped => false
  | .unknown => true
  | .malformed => true
  | .invalid => true
  | .wrongState => true
  | .conflict => true

/-- DONE_CLAMPED when something was clamped, else DONE. -/
def Result.ofClamp (clamped : Bool) : Result := if clamped then .doneClamped else .done

/-- What an owning block gives back: its state, the result and the reply's content after the result byte. -/
structure Served where
  state : State
  result : Result
  body : List Byte
  deriving DecidableEq, Repr

/-- A refusal: no state of any block changes (09 R156). -/
def Served.refuse (s : State) (r : Result) : Served := ⟨s, r, []⟩

/-- A request kind: its code, whether it is a query, and its one payload length (11, Request payloads; 09 R158). -/
structure ReqKind where
  code : Byte
  query : Bool
  length : Nat
  deriving DecidableEq, Repr

/-- Whether the hub takes no byte of the link: RESETN is low, or LINK_DE is asserted in SHARED mode (09 R151, R168). -/
def Mlc.deaf (m : Mlc) : Bool := m.held || (m.mode == .shared && m.linkDE)

def State.setCtr (s : State) (c : LinkCounters) : State := s.setMlc { s.mlc with ctr := c }

/-- A reply that claims the transmitter: in POINT mode it begins at once, in SHARED mode it waits for LINK_DE
(09 R159, R160). -/
def Mlc.claim (m : Mlc) (r : Reply) : Mlc :=
  match m.mode with
  | .point => { m with owner := .reply, begun := true, tx := some (hubFrame m.addr r.kind r.id r.payload) }
  | .shared => { m with owner := .reply, begun := false }

/-- The formed reply goes into the reply buffer; it begins unless a notice frame is being sent (09 R156, R159). -/
def Mlc.answer (m : Mlc) (r : Reply) : Mlc :=
  match m.owner with
  | .notice => { m with reply := some r }
  | .reply => Mlc.claim { m with reply := some r } r
  | .free => Mlc.claim { m with reply := some r } r

/-- An answered request opens service; a reply claims a free transmitter before any notice (09 R155, R159). -/
def Mlc.openService (m : Mlc) : Mlc :=
  { m with service := true, owner := if m.owner = .notice then .notice else .reply }

def LinkCounters.takeRequest (c : LinkCounters) : LinkCounters := { c with requests := bump c.requests }

def LinkCounters.takeRefusal (c : LinkCounters) (r : Result) : LinkCounters :=
  if r.refuses then { c with refusals := bump c.refusals } else c

/-- The state to which the owning block's act is applied: the request counted, and service opened if an answer is
due. -/
def State.taken (s : State) (r : Req) : State :=
  if r.broadcast then s.setCtr s.mlc.ctr.takeRequest
  else s.setMlc { s.mlc.openService with ctr := s.mlc.ctr.takeRequest }

/-- The effect of a judged request: what its block did, the refusal counted, the reply formed (09 R156 to R158). -/
def State.conclude (s : State) (replyKind : Byte) (r : Req) (x : Served) : State :=
  let t := if x.result.refuses then s.taken r else x.state
  let u := t.setCtr (t.mlc.ctr.takeRefusal x.result)
  if r.broadcast then u
  else u.setMlc (u.mlc.answer ⟨replyKind, r.id, BitVec.ofNat 8 x.result.code :: x.body⟩)

/-- A complete frame of a request's kind: the service check, the broadcast rule, then the judgement (09 R154 to R158).
The receiver enters HUNT. -/
def State.receive (s : State) (query : Bool) (replyKind : Byte) (r : Req) (judge : State → Served) : State :=
  let h := s.setMlc { s.mlc with rx := s.mlc.rx.hunt }
  if h.mlc.service then h.setCtr { h.mlc.ctr with busy := bump h.mlc.ctr.busy }
  else if query && r.broadcast then h.setCtr { h.mlc.ctr with other := bump h.mlc.ctr.other }
  else h.conclude replyKind r (judge (h.taken r))

/-- Whether the link takes a frame at all, and what a length above 248 does (09 R151, R153). -/
def State.throughLink (s : State) (r : Req) (f : State → State) : State :=
  if s.mlc.deaf then s
  else if 248 < r.payload.length then
    s.dropFrame { s.mlc.ctr with length := bump s.mlc.ctr.length }
  else f s

/-- A request of a catalogued kind: a wrong length is MALFORMED, else its block judges it (09 R156). -/
def State.serve (s : State) (k : ReqKind) (r : Req) (act : Req → State → Served) : State :=
  s.throughLink r (fun s =>
    s.receive k.query (k.code + 0x80) r (fun t =>
      if r.payload.length = k.length then act r t else Served.refuse t .malformed))

end Sys2Proof.Machine
end

