-- ==== Sys2Proof/Machine/Capture.lean ====
section
/-! DEFINITION. The event capture unit (06): local lines, the acceptance and dating of rack marks, and its requests. -/

namespace Sys2Proof.Machine

/-! ### Local lines (06 section 6.1) -/

/-- The record a capture gives at the input delay in force (06 R109, R110). -/
def EdgeCapture.record (c : EdgeCapture) (delay : Nat) (runt : Bool) : LocalRec :=
  ⟨c.cap.plus (-(delay : Int)), c.rising, c.grade, c.gen, runt⟩

/-- The width has been held: the latch becomes HELD (06 R109). -/
def LineRec.qualify (r : LineRec) (c : EdgeCapture) : LineRec :=
  { r with
    latch := .held (c.record r.cfg.delay false)
    ctr := { r.ctr with qualified := bump r.ctr.qualified } }

/-- An active edge finds the latch EMPTY (06 R108). -/
def LineRec.start (r : LineRec) (c : EdgeCapture) : LineRec :=
  if r.cfg.width = 0 then r.qualify c else { r with latch := .qualifying c }

/-- The line leaves the active level during qualification (06 R110). -/
def LineRec.runt (r : LineRec) (c : EdgeCapture) : LineRec :=
  { r with
    latch := if r.cfg.runt then .held (c.record r.cfg.delay true) else .empty
    ctr := { r.ctr with runts := bump r.ctr.runts } }

/-- An active edge is lost (06 R111). -/
def LineRec.overrun (r : LineRec) : LineRec := { r with ctr := { r.ctr with overruns := bump r.ctr.overruns } }

/-- An active edge, whose capture is `c`, as the latch finds it (06 R108, R111). -/
def LineRec.activeEdge (r : LineRec) (c : EdgeCapture) : LineRec :=
  match r.latch with
  | .empty => r.start c
  | .qualifying _ => r.overrun
  | .held _ => r.overrun
  | .waitRelease => r

/-- An edge to `level` (06 R108, R110 to R112): a runt comes before the opposite active edge of BOTH, and an edge to the
inactive level releases WAIT_RELEASE. -/
def LineRec.takeEdge (r : LineRec) (level : Bool) (c : EdgeCapture) : LineRec :=
  let x := { r with sample := level }
  match x.latch with
  | .qualifying q =>
    if q.rising = level then (if x.cfg.mode.activeEdge level then x.activeEdge c else x)
    else if x.cfg.mode.activeEdge level then (x.runt q).activeEdge c else x.runt q
  | .waitRelease => if x.cfg.mode.activeEdge level then x else { x with latch := .empty }
  | .empty => if x.cfg.mode.activeEdge level then x.activeEdge c else x
  | .held _ => if x.cfg.mode.activeEdge level then x.activeEdge c else x

/-- The capture of an edge to `level` at the present tick. -/
def State.edgeCapture (s : State) (level : Bool) : EdgeCapture :=
  ⟨s.now, level, s.tsu.grade, s.tsu.gen, s.clk.elapsed⟩

/-- A sample of a line at the present tick: an edge where it differs from the sample before (06 R108). -/
def State.sampleLine (s : State) (l : Line) (level : Bool) : State :=
  if (s.line l).sample = level then s else s.setLine l ((s.line l).takeEdge level (s.edgeCapture level))

/-- LINE_EDGE: the line's sample differs from the one before (06 R108, R110, R111). A line has one sample a tick: where
it has been sampled at this tick the edge falls at the next (log entry 42). -/
def execLineEdge (l : Line) (level : Bool) (s : State) : Outcome :=
  if s.mlc.held || (s.line l).sample == level then .next s
  else match s.freeTick (s.hasTaken .pins || s.hasTaken (.line l)) with
    | none => .next s
    | some t => .next ((t.sampleLine l level).note (.line l))

/-- QUALIFICATION_EXPIRY: the elapsed time since the edge tick reaches the width (06 R108, R109). -/
def execQualificationExpiry (l : Line) (s : State) : Outcome :=
  if s.mlc.held then .next s
  else match (s.line l).latch with
    | .qualifying c =>
      match s.reachElapsed c.stamp (s.line l).cfg.width with
      | none => .next s
      | some t => .next (t.setLine l ((t.line l).qualify c))
    | .empty => .next s
    | .held _ => .next s
    | .waitRelease => .next s

/-- The latch of a line in a mode, once its contents have gone (06 R112, R121): a level mode at its active level waits
for release. -/
def LineMode.freedLatch (m : LineMode) (sample : Bool) : Latch :=
  if m.isLevel && m.activeEdge sample then .waitRelease else .empty

/-- The stamp queue takes a line's record (06 R112). -/
def LineRec.release (r : LineRec) : LineRec := { r with latch := r.cfg.mode.freedLatch r.sample }

/-! ### Rack marks (06 sections 6.2 to 6.4) -/

/-- The newest departure log entry with a tag (04 R64). -/
def findTag (log : List LogEntry) (t : Tag) : Option LogEntry := log.find? (fun e => e.tag == t)

/-- The sum of the full amounts of the `k` newest steps, where the step history tells it (01 R11; 06 R118; 08 R147). -/
def stepCorrection (hist : List StepEntry) (k : Nat) : Option Int :=
  if k = 0 then some 0
  else if k ≤ 4 ∧ k ≤ hist.length then some ((hist.take k).map (·.amount)).sum
  else none

/-- The time that 06 R117 forms for a mark, with a step correction. -/
def markTime (left : Time) (delay rate : Int) (m : Nat) (correction : Int) : Time :=
  left.plus (delay + (m - roundDiv (m * rate) 1000000000000) + correction)

/-- A mark's time and its flags, SEQ_GAP aside (06 R117 to R119). `hist` and `gen` are TSU's, `a` is the arrival time. -/
def dateMark (log : List LogEntry) (gen : Gen) (hist : List StepEntry) (delay rate : Int) (a : Time) (k : MarkIn) :
    Time × MarkFlags :=
  match findTag log k.ref with
  | none => (a, ⟨false, false, false, true⟩)
  | some e =>
    match stepCorrection hist (gen - e.gen).toNat with
    | none => (a, ⟨false, false, false, true⟩)
    | some c =>
      let t := markTime e.left delay rate k.m c
      if 0 < t.diff a then (a, ⟨e.gen != gen, false, true, false⟩) else (t, ⟨e.gen != gen, false, false, false⟩)

/-- A rack mark's grade (06 R120). -/
def markGrade (scale : Grade) (rack : RackState) (f : MarkFlags) : Grade :=
  if f.unreferenced || f.clamped then .d
  else if f.stepCorrected then (scale.worse rack.grade).lower
  else scale.worse rack.grade

/-- What one ECHO's marks are dated with: the log, TSU's generation and history, D, R and the record state before the
ECHO's own sample, the arrival time and the timescale grade (06 R117, R120). -/
structure Dating where
  log : List LogEntry
  gen : Gen
  hist : List StepEntry
  delay : Int
  rate : Int
  rack : RackState
  scale : Grade
  arrival : Time
  deriving DecidableEq, Repr

/-- A mark accepted, `gap` telling whether sequences were skipped (06 R113, R117 to R120). -/
def PortMarks.accept (x : PortMarks) (d : Dating) (k : MarkIn) (skipped : Nat) : PortMarks :=
  let (t, f0) := dateMark d.log d.gen d.hist d.delay d.rate d.arrival k
  let f := { f0 with seqGap := 0 < skipped }
  { buf := x.buf ++ [⟨t, markGrade d.scale d.rack f, d.gen, k.shelf, k.kind, k.seq, f⟩]
    nextExp := some (k.seq + 1)
    ctr :=
      { x.ctr with
        accepted := bump x.ctr.accepted
        gaps := raiseBy Config.counterMax skipped x.ctr.gaps
        unreferenced := if f.unreferenced then bump x.ctr.unreferenced else x.ctr.unreferenced
        clamped := if f.clamped then bump x.ctr.clamped else x.ctr.clamped
        corrected := if f.stepCorrected then bump x.ctr.corrected else x.ctr.corrected } }

/-- How a mark's sequence stands to next-expected: none for a duplicate, else the sequences skipped (06 R113). -/
def PortMarks.candidate (x : PortMarks) (seq : Byte) : Option Nat :=
  match x.nextExp with
  | none => some 0
  | some n => if (seq - n).toNat ≤ 126 then some (seq - n).toNat else none

/-- The ECHO's marks are judged in turn; a candidate that finds the buffer full stops acceptance (06 R113, R114). -/
def PortMarks.takeMarks (d : Dating) : List MarkIn → PortMarks → PortMarks
  | [], x => x
  | k :: ks, x =>
    match x.candidate k.seq with
    | none => takeMarks d ks { x with ctr := { x.ctr with duplicates := bump x.ctr.duplicates } }
    | some skipped =>
      if Config.markPlaces ≤ x.buf.length then { x with ctr := { x.ctr with fullStops := bump x.ctr.fullStops } }
      else takeMarks d ks (x.accept d k skipped)

/-- A port's marks emptied at an enable, a disable or a reset (06 R116): the counters are kept. -/
def PortMarks.empty (x : PortMarks) : PortMarks := { x with buf := [], nextExp := none }

/-! ### Requests (06 section 6.5) -/

/-- SET LINE: every accepted one abandons the latch's contents (06 R121). -/
def actSetLine (r : Req) (s : State) : Served :=
  let q := LineReq.read r.payload
  if h : q.line < 8 then
    match LineMode.ofCode q.mode with
    | none => .refuse s .invalid
    | some m =>
      if 1 < q.runt then .refuse s .invalid
      else
        let l : Line := ⟨q.line, h⟩
        let x := s.line l
        ⟨s.setLine l { x with
            cfg := ⟨m, clampNat 0 10000 q.width, q.delay, q.runt == 1⟩
            latch := m.freedLatch x.sample },
          .ofClamp (10000 < q.width), []⟩
  else .refuse s .invalid

/-- The 14-byte latch slot (R182). A QUALIFYING latch shows its edge capture and kind; R182 and 06 R122 give its slot's
grade, generation and RUNT bytes no content, and they are sent as zero (DESIGN CHOICE, unsafe; log entry 60). -/
def Latch.slot : Latch → List Byte
  | .empty => zeros 14
  | .waitRelease => zeros 14
  | .qualifying c => timeBytes c.cap ++ byte (edgeCode c.rising) ++ zeros 3
  | .held r => timeBytes r.time ++ byte (edgeCode r.rising) ++ byte r.grade.code ++ [r.gen] ++ flagByte r.runt

/-- One line's 30 bytes of the LINES view (R182). -/
def LineRec.bytes (r : LineRec) : List Byte :=
  byte r.cfg.mode.code ++ beNat 2 r.cfg.width ++ beNat 2 r.cfg.delay ++ flagByte r.cfg.runt ++ levelByte r.sample
    ++ [Config.latchCode r.latch.index] ++ r.latch.slot ++ beNat 2 r.ctr.qualified ++ beNat 2 r.ctr.runts
    ++ beNat 2 r.ctr.overruns ++ beNat 2 r.ctr.discards

/-- The MARKS view (06 R122). The oldest mark's sequence and time share one presence byte (DESIGN CHOICE, unsafe; log entry
65). -/
def PortMarks.bytes (x : PortMarks) : List Byte :=
  beNat 2 x.buf.length ++ presence 1 (x.nextExp.map (fun n => [n]))
    ++ presence 11 (x.buf.head?.map (fun k => [k.seq] ++ timeBytes k.time))
    ++ [x.ctr.accepted, x.ctr.duplicates, x.ctr.gaps, x.ctr.fullStops, x.ctr.unreferenced, x.ctr.clamped,
        x.ctr.corrected].flatMap (beNat 2)

/-- The four counters of every line set to 0. -/
def State.clearLines (s : State) : State :=
  allLines.foldl (fun s l => s.setLine l { s.line l with ctr := ⟨0, 0, 0, 0⟩ }) s

/-- READ LINES (06 R122). -/
def actReadLines (r : Req) (s : State) : Served :=
  let q := LinesReq.read r.payload
  match q.view with
  | 0 => ⟨if q.clear then s.clearLines else s, .done, allLines.flatMap (fun l => (s.line l).bytes)⟩
  | 1 =>
    if h : q.port < 16 then
      let p : Port := ⟨q.port, h⟩
      ⟨if q.clear then s.setMarks p { s.marks p with ctr := ⟨0, 0, 0, 0, 0, 0, 0⟩ } else s, .done, (s.marks p).bytes⟩
    else .refuse s .invalid
  | _ => .refuse s .invalid

def kindSetLine : ReqKind := ⟨0x18, false, 7⟩
def kindReadLines : ReqKind := ⟨0x19, true, 3⟩

def execSetLine (r : Req) (s : State) : Outcome := .next (s.serve kindSetLine r actSetLine)
def execReadLines (r : Req) (s : State) : Outcome := .next (s.serve kindReadLines r actReadLines)

end Sys2Proof.Machine
end

