-- ==== Sys2Proof/Machine/Drift.lean ====
section
/-! DEFINITION. The drift monitor (05): one sample, the boundary work, and its requests. -/

namespace Sys2Proof.Machine

/-! ### One sample (05 section 5.2) -/

/-- A sample as RLE hands it over (04 R70; 05 section 5.2): the port, the awaited departure's log entry, the reply window
its exchange opened with, A, T, the rack receive time, and the two rack flags, on which nothing acts (04 R67). -/
structure Sample where
  port : Port
  entry : LogEntry
  window : Nat
  arrival : Time
  turn : Nat
  rxSec : BitVec 16
  rxNs : Nat
  stepped : Bool
  holdover : Bool
  deriving DecidableEq, Repr

/-- What a sample leaves: the record, the new and old D of a re-seed, and whether a gross offset changes the state. -/
structure SampleOut where
  record : RackRec
  path : Option (Int × Int)
  gross : Bool
  deriving DecidableEq, Repr

/-- The last sample's account. -/
def RackRec.note (r : RackRec) (x : Sample) (trt d o : Option Int) (c : Outcome6) : RackRec :=
  { r with last := some ⟨x.entry.tag, trt, d, o, c⟩ }

/-- The raw offset o (05 R89): the full rack receive time nearest to L, less L + D. -/
def Sample.rawOffset (x : Sample) (delay : Int) : Int :=
  (x.rxSec - x.entry.left.sec.setWidth 16).toInt * nsPerSec + x.rxNs - x.entry.left.ns - delay

/-- The limit of O (05 R91). -/
abbrev grossLimit : Int := 500000000

/-- The offset stage of a sample whose delay stage ended with outcome `c` (05 R89 to R91). -/
def RackRec.offsetStage (r : RackRec) (cfg : DriftCfg) (x : Sample) (trt d : Int) (c : Outcome6)
    (path : Option (Int × Int)) : SampleOut :=
  let o := x.rawOffset r.delay
  let a := { r with accepted := true }
  if grossLimit ≤ o.natAbs then
    let g := RackRec.note
      { a with
        ctr := { r.ctr with gross := bump r.ctr.gross }
        offset := if 0 ≤ o then grossLimit else -grossLimit
        offsetSeed := 0 < r.stepHold } x (some trt) (some d) (some o) c
    if r.stepHold = 0 ∧ (r.state = .settling ∨ r.state = .settled ∨ r.state = .watch) then
      ⟨{ g with state := .drifting, watchRun := 0, alarmRun := 0, quietRun := 0 }, path, true⟩
    else ⟨g, path, false⟩
  else if r.offsetSeed then
    ⟨RackRec.note { a with offset := o, offsetSeed := false } x (some trt) (some d) (some o)
      (if c = .reseeded then .reseeded else .seeded), path, false⟩
  else
    ⟨RackRec.note { a with offset := r.offset + roundDiv (o - r.offset) (2 ^ cfg.ko) } x (some trt) (some d) (some o) c,
      path, false⟩

/-- The delay stage of a plausible sample (05 R86 to R88). -/
def RackRec.delayStage (r : RackRec) (cfg : DriftCfg) (x : Sample) (trt : Int) : SampleOut :=
  let d := roundDiv trt 2
  if r.delaySeed then
    RackRec.offsetStage { r with delay := d, delayCount := 1, delaySeed := false, outlierRun := 0 } cfg x trt d .seeded none
  else if r.delayValid ∧ cfg.gate < (d - r.delay).natAbs then
    let c := { r.ctr with outliers := bump r.ctr.outliers }
    if r.outlierRun + 1 < 4 then
      ⟨RackRec.note { r with outlierRun := r.outlierRun + 1, ctr := c } x (some trt) (some d) none .outlier, none, false⟩
    else
      RackRec.offsetStage
        { r with
          delay := d
          delayCount := 1
          outlierRun := 0
          offsetSeed := true
          ctr := { c with reseeds := bump c.reseeds } } cfg x trt d .reseeded (some (d, r.delay))
  else
    RackRec.offsetStage
      { r with
        delay := r.delay + roundDiv (d - r.delay) (2 ^ cfg.kd)
        delayCount := min 8 (r.delayCount + 1)
        outlierRun := 0 } cfg x trt d .accepted none

/-- One sample taken into a record (05 R84 to R91). `gen` is TSU's generation at the frame-end. -/
def RackRec.sample (r : RackRec) (cfg : DriftCfg) (gen : Gen) (x : Sample) : SampleOut :=
  if x.entry.gen ≠ gen then
    ⟨RackRec.note { r with ctr := { r.ctr with stale := bump r.ctr.stale } } x none none none .stale, none, false⟩
  else
    let trt := x.arrival.diff x.entry.left - x.turn
    if trt < 0 ∨ (cfg.rtMax : Int) < trt ∨ x.window < x.turn then
      ⟨RackRec.note { r with ctr := { r.ctr with implausible := bump r.ctr.implausible } } x (some trt) none none
        .implausible, none, false⟩
    else r.delayStage cfg x trt

/-- A sample's effect on the hub: its port's record, a PATH notice for a re-seed, a change to DRIFTING for a gross offset (05
R88, R91). -/
def State.takeSample (s : State) (x : Sample) : State :=
  let y := (s.rack x.port).sample s.drm.cfg s.tsu.gen x
  let t := s.setRack x.port y.record
  let u := match y.path with
    | none => t
    | some (new, old) => t.raiseNotice (.path x.port) (.path new old)
  if y.gross then u.changeRecord x.port (u.rack x.port) .gross else u

/-! ### Each second (05 sections 5.3, 5.4, 5.6) -/

/-- The drift rate of a history (05 R95). -/
def driftRate (h : List Int) : Int :=
  if h.length < 2 then 0
  else clamp (-100000000) 100000000 (roundDiv ((h.getLast?.getD 0 - h.head?.getD 0) * 1000) (h.length - 1))

/-- The time to alarm (05 R96). -/
def timeToAlarm (o r : Int) (alarm : Nat) : Nat :=
  if alarm ≤ o.natAbs then 0
  else if r = 0 ∨ (0 < o ∧ r < 0) ∨ (o < 0 ∧ 0 < r) then 65535
  else clampNat 0 65535 ((alarm - o.natAbs) * 1000 / r.natAbs)

/-- The push of O into the history, with R and the time to alarm (05 R93 to R96). -/
def RackRec.push (r : RackRec) (cfg : DriftCfg) : RackRec :=
  let h := (r.history ++ [r.offset]).drop (r.history.length + 1 - Config.historyPlaces)
  { r with history := h, rate := driftRate h, alarmIn := timeToAlarm r.offset (driftRate h) cfg.offAlarm }

/-- The watch condition (05 section 5.4). -/
def RackRec.watchHolds (r : RackRec) (cfg : DriftCfg) : Bool :=
  cfg.offWatch < r.offset.natAbs || cfg.rateWatch < r.rate.natAbs

/-- The alarm condition (05 section 5.4). -/
def RackRec.alarmHolds (r : RackRec) (cfg : DriftCfg) : Bool :=
  cfg.offAlarm < r.offset.natAbs || cfg.rateAlarm < r.rate.natAbs

/-- The three runs updated (05 R97). -/
def RackRec.countRuns (r : RackRec) (cfg : DriftCfg) : RackRec :=
  { r with
    alarmRun := if r.alarmHolds cfg then raiseBy 255 1 r.alarmRun else 0
    watchRun := if r.watchHolds cfg then raiseBy 255 1 r.watchRun else 0
    quietRun := if r.watchHolds cfg then 0 else raiseBy 255 1 r.quietRun }

/-- The state that an evaluation gives, from the runs just updated (05 R98, R99). -/
def RackRec.verdict (r : RackRec) (cfg : DriftCfg) : RackState :=
  match r.state with
  | .settling => if r.alarmHolds cfg then .drifting else if r.watchHolds cfg then .watch else .settled
  | .settled => if 3 ≤ r.alarmRun then .drifting else if 3 ≤ r.watchRun then .watch else .settled
  | .watch => if 3 ≤ r.alarmRun then .drifting else if 10 ≤ r.quietRun then .settled else .watch
  | .drifting => if 10 ≤ r.quietRun then .settled else .drifting
  | .unseen => .unseen
  | .lost => .lost

/-- An evaluation; a change of state sets the runs to 0 (05 R97 to R99). -/
def RackRec.evaluate (r : RackRec) (cfg : DriftCfg) : RackRec :=
  let x := r.countRuns cfg
  if x.verdict cfg = r.state then x
  else { x with state := x.verdict cfg, watchRun := 0, alarmRun := 0, quietRun := 0 }

/-- Whether the warning machine acts in a state (05 R97). -/
def RackState.evaluated : RackState → Bool
  | .settling => true
  | .settled => true
  | .watch => true
  | .drifting => true
  | .unseen => false
  | .lost => false

/-- Part 2 of 05 R92 on one record of a port in state `st`. -/
def RackRec.eachSecond (r : RackRec) (cfg : DriftCfg) (st : PortState) : RackRec :=
  if st = .up ∧ r.accepted ∧ r.stepHold = 0 then
    let x := r.push cfg
    let y := if x.history.length = Config.historyPlaces ∧ x.state.evaluated then x.evaluate cfg else x
    { y with accepted := false }
  else { r with accepted := false }

/-- Part 1 of 05 R92 on one record. -/
def RackRec.lowerHold (r : RackRec) : RackRec :=
  if r.holdFresh then { r with holdFresh := false } else { r with stepHold := r.stepHold - 1 }

/-- Part 2 for one port, raising the change of state if there is one. -/
def drmPort (p : Port) (s : State) : State :=
  let y := (s.rack p).eachSecond s.drm.cfg (s.port p).state
  if y.state = (s.rack p).state then s.setRack p y else s.changeRecord p y .evaluation

/-- The greater of two ports by O, the earlier port among equals. -/
def pickHigh (s : State) (x : Option Port) (p : Port) : Option Port :=
  match x with
  | none => some p
  | some q => if (s.rack q).offset < (s.rack p).offset then some p else some q

/-- The lesser of two ports by O, the earlier port among equals. -/
def pickLow (s : State) (x : Option Port) (p : Port) : Option Port :=
  match x with
  | none => some p
  | some q => if (s.rack p).offset < (s.rack q).offset then some p else some q

/-- The ports whose records the row spread counts (05 R102). -/
def State.countedPorts (s : State) : List Port := allPorts.filter (fun p => (s.rack p).state.offsetValid)

/-- The row spread (05 R102). Its row second is kept only with a spread (DESIGN CHOICE, unsafe; log entry 56). -/
def State.rowSpread (s : State) (sec : RowSec) : Option RowSpread :=
  let ps := s.countedPorts
  match ps.foldl (pickHigh s) none, ps.foldl (pickLow s) none with
  | some hi, some lo =>
    if 2 ≤ ps.length then some ⟨(s.rack hi).offset - (s.rack lo).offset, hi, lo, sec⟩ else none
  | some _, none => none
  | none, _ => none

/-- The spread-high flag after a boundary (05 R103). -/
def spreadHigh (sp : Option RowSpread) (limit : Nat) : Bool :=
  match sp with
  | none => false
  | some x => (limit : Int) < x.ns

/-- Part 3 of 05 R92: the row spread, its flag and its notice (R102, R103). The number of records counted is recorded where
the spread is absent too (DESIGN CHOICE, unsafe; log entry 56). -/
def State.takeSpread (s : State) (sec : RowSec) : State :=
  let sp := s.rowSpread sec
  let high := spreadHigh sp s.drm.cfg.spreadLimit
  let t := s.setDrm { s.drm with spread := sp, counted := s.countedPorts.length, high := high }
  if high = s.drm.high then t else t.raiseNotice .spread (.spread high sp s.drm.cfg.spreadLimit)

/-- DRM's boundary work at the boundary that begins `sec` (05 R92). What its ports raise comes in port order, 0 to 15
(DESIGN CHOICE, unsafe; log entry 51). -/
def State.drmBoundary (s : State) (sec : RowSec) : State :=
  let t := overPorts (fun p s => s.setRack p (s.rack p).lowerHold) s
  (overPorts drmPort t).takeSpread sec

/-- A step's effect on a record (05 R100). `fresh`: DRM's work of this boundary comes after the step. -/
def RackRec.hold (r : RackRec) (fresh : Bool) : RackRec :=
  if r.state = .unseen then r else { r with stepHold := 4, holdFresh := fresh, offsetSeed := true }

/-- A step's effect on every record (05 R100). -/
def State.holdRecords (s : State) (fresh : Bool) : State :=
  overPorts (fun p s => s.setRack p ((s.rack p).hold fresh)) s

/-! ### Requests (05 section 5.7) -/

/-- The drift configuration a SET DRIFT leaves, each field clamped in the order listed (05 R104). -/
def DriftReq.clamped (q : DriftReq) : DriftReq :=
  let ow := clampNat 10 100000000 q.offWatch
  let rw := clampNat 1000 100000000 q.rateWatch
  { offWatch := ow
    offAlarm := clampNat ow 100000000 q.offAlarm
    rateWatch := rw
    rateAlarm := clampNat rw 100000000 q.rateAlarm
    gate := clampNat 10 10000 q.gate
    rtMax := clampNat 1000 500000 q.rtMax
    kd := clampNat 0 8 q.kd
    ko := clampNat 0 8 q.ko
    spreadLimit := clampNat 10 100000000 q.spreadLimit
    compStep := clampNat 1 1000 q.compStep }

/-- The nine fields that DRM keeps. -/
def DriftReq.cfg (q : DriftReq) : DriftCfg :=
  ⟨q.offWatch, q.offAlarm, q.rateWatch, q.rateAlarm, q.gate, q.rtMax, q.kd, q.ko, q.spreadLimit⟩

/-- SET DRIFT: DRM takes its configuration, EDS the compensation step (05 R104, 03 R54). -/
def actSetDrift (r : Req) (s : State) : Served :=
  let q := DriftReq.read r.payload
  let c := q.clamped
  let t := s.setDrm { s.drm with cfg := c.cfg }
  ⟨t.setEds { t.eds with compStep := c.compStep }, .ofClamp (c ≠ q), c.bytes⟩

/-- A tag in a generic reply: two tag parts of 2 bytes (R182). -/
def Tag.bytes (t : Tag) : List Byte := beNat 2 t.sec.toNat ++ beNat 2 t.cycle.toNat

/-- The raw offset o of a last sample in 4 bytes: a gross one can lie outside them, and what is sent then is not stated
(R182; a free value, log entry 48). -/
def rawOffsetBytes (o : Int) : List Byte :=
  if -2147483648 ≤ o ∧ o ≤ 2147483647 then beInt 4 o else beNat 4 (Config.wideOffset o).toNat

/-- The last sample: each part absent where absent (05 R105). What stands for a raw offset outside 4 bytes is a free value
(log entry 48). -/
def lastSampleBytes (x : Option LastSample) : List Byte :=
  presence 4 (x.map (fun l => l.tag.bytes))
    ++ presence 4 ((x.bind (·.trt)).map (beInt 4)) ++ presence 4 ((x.bind (·.d)).map (beInt 4))
    ++ presence 4 ((x.bind (·.o)).map rawOffsetBytes) ++ presence 1 (x.map (fun l => [Config.outcomeCode l.outcome.index]))

/-- The READ RACK reply's content (05 R105). Of the two seed flags, delay's goes first (DEDUCED, unsafe; log entry 14). -/
def RackRec.bytes (r : RackRec) (st : PortState) : List Byte :=
  byte r.state.code ++ byte st.code ++ beInt 4 r.delay ++ beNat 2 r.delayCount ++ flagByte r.delayValid
    ++ beInt 4 r.offset ++ flagByte r.state.offsetValid ++ beInt 4 r.rate ++ beNat 2 r.alarmIn
    ++ beNat 2 r.history.length ++ byte r.history.length ++ r.history.flatMap (beInt 4)
    ++ flagByte r.accepted ++ beNat 2 r.outlierRun ++ beNat 2 r.watchRun ++ beNat 2 r.alarmRun ++ beNat 2 r.quietRun
    ++ beNat 2 r.stepHold ++ flagByte r.delaySeed ++ flagByte r.offsetSeed ++ lastSampleBytes r.last
    ++ [r.ctr.implausible, r.ctr.stale, r.ctr.outliers, r.ctr.reseeds, r.ctr.gross].flatMap (beNat 2)

/-- READ RACK (05 R105). -/
def actReadRack (r : Req) (s : State) : Served :=
  let q := PortRead.read r.payload
  if h : q.port < 16 then
    let p : Port := ⟨q.port, h⟩
    ⟨if q.clear then s.setRack p { s.rack p with ctr := RackCounters.zero } else s, .done,
      (s.rack p).bytes (s.port p).state⟩
  else .refuse s .invalid

/-- The READ ROW reply's content, 231 bytes after the result (R182). -/
def Drm.rowBytes (d : Drm) : List Byte :=
  allPorts.flatMap (fun p =>
    let r := d.recs[p]
    byte r.state.code ++ beInt 4 r.offset ++ flagByte r.state.offsetValid ++ beInt 4 r.rate ++ beNat 2 r.alarmIn
      ++ flagByte r.delayValid)
  ++ presence 17 (d.spread.map (fun x =>
      beInt 8 x.ns ++ byte x.high.val ++ byte x.low.val ++ byte d.counted ++ secBytes x.sec))
  ++ flagByte d.high ++ beNat 4 d.cfg.spreadLimit

/-- READ ROW (05 R106). -/
def actReadRow (_ : Req) (s : State) : Served := ⟨s, .done, s.drm.rowBytes⟩

def kindSetDrift : ReqKind := ⟨0x15, false, 30⟩
def kindReadRack : ReqKind := ⟨0x16, true, 2⟩
def kindReadRow : ReqKind := ⟨0x17, true, 0⟩

def execSetDrift (r : Req) (s : State) : Outcome := .next (s.serve kindSetDrift r actSetDrift)
def execReadRack (r : Req) (s : State) : Outcome := .next (s.serve kindReadRack r actReadRack)
def execReadRow (r : Req) (s : State) : Outcome := .next (s.serve kindReadRow r actReadRow)

end Sys2Proof.Machine
end

