-- ==== Sys2Proof/Machine/RackLink.lean ====
section
/-! DEFINITION. The rack link engine (04): cycles and departures, received frames, window expiries, RLE's boundary work,
and its requests. -/

namespace Sys2Proof.Machine

/-! ### Cycles and departures (04 sections 4.2, 4.5) -/

/-- The mode work of 04 R74 for cycle `k`: part 1 at cycle 0; part 2 at the last cycle start of the second, at cycle 0
only when no SET CYCLE is staged. -/
def modeWork (r : PortRec) (k n : Nat) (stagedCycle : Bool) : PortRec :=
  let x := if k = 0 then r.modeFirst else r
  if k + 1 = n ∧ (k ≠ 0 ∨ stagedCycle = false) then x.modeLast else x

/-- What a compensated instant of cycle `k` of second `sec` does on a port: the mode work, then the departure if one is
due, not suppressed, and, where it is early, no SET CYCLE is staged (04 R60, R61, R65, R74). -/
def State.cycleWork (s : State) (p : Port) (sec : RowSec) (k : Nat) (left : Time) (early receiving : Bool) : State :=
  let t := (s.setPort p (modeWork (s.port p) k s.rle.cycle.divisor s.rle.staged.isSome)).note (.departure p sec k)
  if (t.port p).due k && !t.suppressed sec && !(early && t.rle.staged.isSome) then t.depart p sec k left receiving else t

/-- The compensated instant of cycle `k` of second `sec` under divisor `n` and compensation `c`; cycle 0 is early when
`c` is above 0 (04 R60, R61). -/
def departureInstant (sec : RowSec) (k n c : Nat) : Time × Bool :=
  if k = 0 ∧ 0 < c then (⟨sec - 1, nsPerSec - c⟩, true) else (⟨sec, k * (nsPerSec / n) - c⟩, false)

/-- CYCLE_COMPENSATED_INSTANT (04 R74). With C = 0 the instant of cycle 0 is the roll into its second, taken at that
roll's tick even where a step has moved the timescale since. `receiving`: a frame is being received on the port then, and
does not end at that tick (log entry 50). -/
def execCycleCompensatedInstant (p : Port) (sec : RowSec) (k : Nat) (receiving : Bool) (s : State) : Outcome :=
  let d := departureInstant sec k s.rle.cycle.divisor (s.comp p)
  if s.mlc.held || (s.port p).state == .down || s.rle.cycle.divisor ≤ k then .next s
  else
    let rolled := k = 0 ∧ s.comp p = 0 ∧ s.clk.rolled = some sec
    match (if rolled then some s else s.reach d.1) with
    | none => .next s
    | some t =>
      if (¬rolled ∧ d.1.sec ≠ t.now.sec) ∨ t.hasTaken (.departure p sec k) then .next s
      else .next (t.cycleWork p sec k d.1 d.2 receiving)

/-! ### Received frames (04 sections 4.1, 4.3) -/

/-- The frame on a port has ended: after one that was received the receiver looks for the next start symbol, after one
abandoned under 04 R59 it waits for idle first (R58). -/
def State.frameOver (s : State) (p : Port) (rx : RackRx) : State := s.setPort p { s.port p with rx := rx }

/-- Whether an exchange's window has run out by now. -/
def Exchange.overdue (x : Exchange) (elapsed : Nat) : Bool := x.stamp + x.window * unitsPerNs ≤ elapsed

/-- The expiry deferred to a frame, or fallen due in its course, is taken up at its end (04 R69). -/
def State.closeFrame (s : State) (p : Port) : State :=
  match (s.port p).exch with
  | none => s
  | some x => if x.deferred || x.overdue s.clk.elapsed then s.missEcho p else s

/-- The counter of a failed check (04 R59). -/
def PortCounters.reject (c : PortCounters) : RackCheck → PortCounters
  | .framing => { c with framing := bump c.framing }
  | .kind => { c with protocol := bump c.protocol }
  | .count => { c with count := bump c.count }
  | .crc => { c with crc := bump c.crc }

/-- A frame fails a check and is abandoned (04 R59, R69). -/
def State.rejectFrame (s : State) (p : Port) (c : RackCheck) : State :=
  let t := s.frameOver p .waitIdle
  (t.setPort p { t.port p with ctr := (t.port p).ctr.reject c }).closeFrame p

/-- A received CALL as mode and exchange stand (04 R75). -/
def PortRec.takeCall (r : PortRec) : PortRec :=
  if r.mode = .quiet ∧ r.exch = none then { r with solicited := true }
  else { r with ctr := { r.ctr with protocol := bump r.ctr.protocol } }

/-- A received CALL (04 R75). An expiry that fell before it without being deferred to it comes first; one deferred to
it comes after (R69). -/
def State.receiveCall (s : State) (p : Port) : State :=
  let t := s.frameOver p .looking
  match (t.port p).exch with
  | none => t.setPort p (t.port p).takeCall
  | some x =>
    if x.deferred then (t.setPort p (t.port p).takeCall).missEcho p
    else if x.overdue t.clk.elapsed then
      let u := t.missEcho p
      u.setPort p (u.port p).takeCall
    else t.setPort p (t.port p).takeCall

/-- A port enters UP at a valid ECHO; the record of a FAULTED port leaves LOST (04 R67, R73; 05 R82). -/
def State.portUp (s : State) (p : Port) : State :=
  match (s.port p).state with
  | .up => s
  | .down => s
  | .seeking => (s.setPort p ((s.port p).enter .up)).raiseNotice (.port p) (.port .up .echo)
  | .faulted =>
    ((s.setPort p ((s.port p).enter .up)).changeRecord p (s.rack p).toSettling .recover).raiseNotice
      (.port p) (.port .up .echo)

/-- The port after a valid ECHO, before any change of state (04 R67). -/
def PortRec.takeEcho (r : PortRec) (e : Echo) (a : Time) : PortRec :=
  { r with
    exch := none
    missRun := 0
    lastEcho := some ⟨a, e.turn, e.rxSec, e.rxNs, e.stepped, e.holdover⟩
    ctr := { r.ctr with echoes := bump r.ctr.echoes } }

/-- What an ECHO's marks are dated with (06 R117, R120). -/
def State.dating (s : State) (p : Port) (a : Time) : Dating :=
  ⟨(s.port p).log, s.tsu.gen, s.tsu.hist, (s.rack p).delay, (s.rack p).rate, (s.rack p).state, s.tsu.grade, a⟩

/-- A valid ECHO of exchange `x`, arrival time `a`, handed on, `r` being the port with the ECHO taken: the port's change of
state, then the marks to ECU, dated by the record before the sample, then the sample to DRM (04 R67, R70). -/
def State.handOn (s : State) (p : Port) (r : PortRec) (x : Exchange) (e : Echo) (a : Time) : State :=
  let t := (s.setPort p r).portUp p
  let u := t.setMarks p (PortMarks.takeMarks (t.dating p a) e.marks (t.marks p))
  u.takeSample ⟨p, x.entry, x.window, a, e.turn, e.rxSec, e.rxNs, e.stepped, e.holdover⟩

/-- A valid ECHO of the open exchange `x` (04 R67, R70). -/
def State.validEcho (s : State) (p : Port) (x : Exchange) (e : Echo) (a : Time) : State :=
  s.handOn p ((s.port p).takeEcho e a) x e a

/-- An ECHO that finds no open exchange (04 R68). -/
def State.lateEcho (s : State) (p : Port) : State :=
  s.setPort p { s.port p with ctr := { (s.port p).ctr with late := bump (s.port p).ctr.late } }

/-- The elapsed time at a leading edge `ago` ns before now, in 2^-32 ns. -/
def State.edgeElapsed (s : State) (ago : Nat) : Int := (s.clk.elapsed : Int) - ago * unitsPerNs

/-- The timescale value at a leading edge `ago` ns before now, whole ns; an edge before the latest step is a time of the
timescale before it (04 R58). -/
def State.edgeTime (s : State) (ago : Nat) : Time :=
  let back : Int := match s.tsu.hist with
    | [] => 0
    | h :: _ => if s.edgeElapsed ago < s.clk.stepStamp then h.amount else 0
  s.now.plus (-(ago : Int) - back)

/-- A received ECHO, its leading edge `ago` ns before its frame-end (04 R67, R68). -/
def State.receiveEcho (s : State) (p : Port) (e : Echo) (ago : Nat) : State :=
  let t := s.frameOver p .looking
  match (t.port p).exch with
  | none => t.lateEcho p
  | some x =>
    if t.edgeElapsed ago < x.stamp then s
    else if (x.stamp + x.window * unitsPerNs : Nat) < t.edgeElapsed ago then (t.missEcho p).lateEcho p
    else if e.tag = x.entry.tag then t.validEcho p x e (t.edgeTime ago)
    else
      (t.setPort p { t.port p with ctr := { (t.port p).ctr with tag := bump (t.port p).ctr.tag } }).closeFrame p

/-- What an event of this tick tells of a departure on port `p` that a frame's end can still follow. -/
def TickEvent.overtakenOn (p : Port) : TickEvent → Option (Option Exchange)
  | .overtaken q x => if q = p then some x else none
  | .cycle _ _ => none
  | .edge _ _ _ => none
  | .tick _ _ => none
  | .departure _ _ _ => none
  | .drive _ _ _ => none
  | .arbiter => none
  | .line _ => none
  | .hstb => none
  | .pins => none

/-- Whether a frame that ends at this tick, at which a departure was taken first, may still be taken, and the exchange that
the departure closed (06 R114; log entry 50). -/
def State.overtaken (s : State) (p : Port) : Option (Option Exchange) :=
  if (s.port p).state != .down && (s.port p).rx == .closed then s.clk.taken.findSome? (TickEvent.overtakenOn p) else none

/-- The frame that ends at a departure's tick has been taken. -/
def State.settleOvertaken (s : State) (p : Port) : State :=
  s.setClk { s.clk with taken := s.clk.taken.filter (fun e => (e.overtakenOn p).isNone) }

/-- An ECHO whose frame-end is taken after a departure of its tick, which closed `x` (06 R114): it is judged by R67 and R68
against `x`, and a valid one is handed on whole. The departure's own exchange stays open (DEDUCED; log entry 50). -/
def State.overtakenEcho (s : State) (p : Port) (closed : Option Exchange) (e : Echo) (ago : Nat) : State :=
  match closed with
  | none => s.lateEcho p
  | some x =>
    if s.edgeElapsed ago < x.stamp then s
    else if (x.stamp + x.window * unitsPerNs : Nat) < s.edgeElapsed ago then s.lateEcho p
    else if e.tag = x.entry.tag then
      s.handOn p { (s.port p).takeEcho e (s.edgeTime ago) with exch := (s.port p).exch } x e (s.edgeTime ago)
    else s.setPort p { s.port p with ctr := { (s.port p).ctr with tag := bump (s.port p).ctr.tag } }

/-- A frame whose frame-end is taken after a departure of its tick: the receiver stays closed (04 R58, R59, R67, R68, R75;
06 R114). -/
def State.takeOvertaken (s : State) (p : Port) (closed : Option Exchange) (v : RackVerdict) (ago : Nat) : State :=
  match v with
  | .echo e => s.overtakenEcho p closed e ago
  | .call => s.setPort p (s.port p).takeCall
  | .bad c => s.setPort p { s.port p with ctr := (s.port p).ctr.reject c }

/-- The frame-end of a frame on a port, its leading edge `ago` ns before (04 R59, R67, R68, R75). A receiver that is closed
or waits for idle takes none, but for one that ends at the tick of a departure taken first. -/
def State.frameEnd (s : State) (p : Port) (v : RackVerdict) (ago : Nat) : State :=
  if (s.port p).canReceive then
    match v with
    | .echo e => s.receiveEcho p e ago
    | .call => s.receiveCall p
    | .bad c => s.rejectFrame p c
  else match s.overtaken p with
    | none => s
    | some closed => (s.settleOvertaken p).takeOvertaken p closed v ago

/-- ECHO_RECEIVED: the bytes of a frame on a port, whose checks decide what it is (04 R59, R67, R68). -/
def execEchoReceived (p : Port) (frame : List Byte) (ago : Nat) (s : State) : Outcome :=
  if s.mlc.held then .next s else .next (s.frameEnd p (judgeRack frame) ago)

/-- CALL_RECEIVED (04 R75). -/
def execCallReceived (p : Port) (s : State) : Outcome :=
  if s.mlc.held then .next s else .next (s.frameEnd p .call 0)

/-- RACK_FRAME_REJECTED (04 R59). -/
def execRackFrameRejected (p : Port) (c : RackCheck) (s : State) : Outcome :=
  if s.mlc.held then .next s else .next (s.frameEnd p (.bad c) 0)

/-- REPLY_WINDOW_EXPIRY: the elapsed time from L reaches the window. With a frame being received whose leading edge fell
within the window, the expiry is deferred to that frame's end (04 R69). -/
def execReplyWindowExpiry (p : Port) (receiving : Bool) (s : State) : Outcome :=
  if s.mlc.held then .next s
  else match (s.port p).exch with
    | none => .next s
    | some x =>
      if x.deferred then .next s
      else match s.reachElapsed x.stamp x.window with
        | none => .next s
        | some t =>
          if receiving && (t.port p).canReceive then
            .next (t.setPort p { t.port p with exch := some { x with deferred := true }, rx := .receiving })
          else .next (t.missEcho p)

/-- RACK_RECEIVER_REOPEN: the hub's frame has ended and the line has been idle for 16 bit times, so the receiver looks
for a start symbol again (04 R58). -/
def execRackReceiverReopen (p : Port) (s : State) : Outcome :=
  let r := s.port p
  if s.mlc.held || r.state == .down then .next s
  else if r.rx = .closed ∨ r.rx = .waitIdle then .next (s.setPort p { r with rx := .looking, tx := none })
  else .next s

/-! ### RLE's boundary work (04 R61, R73, R74, R77) -/

/-- A staged SET CYCLE comes into force (04 R77). -/
def Rle.applyCycle (r : Rle) : Rle :=
  match r.staged with
  | none => r
  | some c => { r with cycle := c, staged := none }

/-- What the boundary tick does on one port before the compensation moves: an early cycle 0 whose instant lies between
the last tick and the roll is taken up there (04 R61, R74). `oldStaged`: a SET CYCLE that comes into force at this
boundary was staged then. -/
def rleEarly (sec : RowSec) (fromNs : Nat) (oldStaged : Bool) (receiving : BitVec 16) (p : Port) (s : State) : State :=
  let c := s.comp p
  if (s.port p).state = .down ∨ c = 0 ∨ nsPerSec - c ≤ fromNs then s
  else if oldStaged then (s.setPort p (s.port p).modeFirst).note (.departure p sec 0)
  else s.cycleWork p sec 0 ⟨sec - 1, nsPerSec - c⟩ true (receiving.getLsbD p)

/-- What the boundary tick does on one port after the compensation has moved (04 R61, R74): `cOld` is the compensation
of the second that ended, `applied` tells that a SET CYCLE has come into force, which leaves cycle 0 without a departure on
every port, one among them that is DOWN and is enabled at this tick. With both compensations 0 the departure is left to
CYCLE_COMPENSATED_INSTANT at this tick, but for a boundary that steps, whose mode work is done here, before that of the
instants the step passes. -/
def rleRoll (sec : RowSec) (cOld : Port → Nat) (applied : Bool) (receiving : BitVec 16) (p : Port) (s : State) : State :=
  if (s.port p).state = .down then if applied then s.note (.departure p sec 0) else s
  else if applied then
    let r := if cOld p = 0 then (s.port p).modeFirst else s.port p
    (s.setPort p (if s.rle.cycle.divisor = 1 then r.modeLast else r)).note (.departure p sec 0)
  else if 0 < cOld p then s.note (.departure p sec 0)
  else if 0 < s.comp p || s.tsu.quiet then s.cycleWork p sec 0 s.now false (receiving.getLsbD p)
  else s

/-- Every port's seconds in state rise (04 R73). -/
def rleSeconds (p : Port) (s : State) : State :=
  s.setPort p { s.port p with secs := raiseBy Config.countMax 1 (s.port p).secs }

/-- Whether a forward step from `b` to `v` passes an instant. -/
def passes (b v t : Time) : Bool := 0 < t.diff b && t.diff v ≤ 0

/-- The mode work of one second's cycle 0 and last cycle where a forward step passes their instants (04 R65, R74). -/
def passSecond (b v : Time) (n c : Nat) (r : PortRec) (sec : RowSec) : PortRec :=
  let x := if passes b v (departureInstant sec 0 n c).1 then r.modeFirst else r
  if passes b v (departureInstant sec (n - 1) n c).1 then x.modeLast else x

/-- The mode work that a forward step passes over on one port: a staged and a frozen mode have moved on after the first
four seconds, and later instants find nothing to do. -/
def passModes (b v : Time) (p : Port) (s : State) : State :=
  if (s.port p).state = .down then s
  else s.setPort p ([b.sec, b.sec + 1, b.sec + 2, b.sec + 3].foldl
    (passSecond b v s.rle.cycle.divisor (s.comp p)) (s.port p))

/-- What a backward step onto the compensated instant of cycle 0 of `sec` does on one port: the instant is reached again, so
that what this tick's roll took of it does not stand for it (04 R65, R74; DESIGN CHOICE, unsafe; log entry 45). -/
def landAgain (sec : RowSec) (p : Port) (s : State) : State :=
  if (departureInstant sec 0 s.rle.cycle.divisor (s.comp p)).1 = s.now then
    s.setClk { s.clk with taken := s.clk.taken.filter (· != .departure p sec 0) }
  else s

/-! ### Requests (04 section 4.6) -/

/-- Whether a value is a permitted divisor (04 R77). -/
def validDivisor (n : Nat) : Bool := [1, 2, 4, 8, 16, 32, 64].contains n

/-- The reply window of a SET CYCLE, clamped by the request's own divisor (04 R77). -/
def CycleReq.windowInForce (q : CycleReq) : Nat := clampNat 20000 (nsPerSec / q.divisor / 4) q.window

/-- SET CYCLE (04 R77). -/
def actSetCycle (r : Req) (s : State) : Served :=
  let q := CycleReq.read r.payload
  if !validDivisor q.divisor then .refuse s .invalid
  else
    ⟨s.setRle { s.rle with staged := some ⟨q.divisor, q.windowInForce⟩ }, .ofClamp (q.windowInForce ≠ q.window), []⟩

/-- A DOWN port enters SEEKING with the request's mode (04 R71): compensation set, marks emptied, record to SETTLING,
the receiver waiting for idle. -/
def State.enablePort (s : State) (p : Port) (m : Mode) : State :=
  let r := { (s.port p).enter .seeking with
    mode := m, frozen := none, staged := none, solicited := false, missRun := 0, exch := none, rx := .waitIdle }
  let t := s.setPort p r
  let u := t.setEds { t.eds.setComp p r.initComp with earlyBelow := t.eds.earlyBelow.set p 0 }
  let v := u.setMarks p (u.marks p).empty
  (v.changeRecord p (v.rack p).toSettling .enable).raiseNotice (.port p) (.port .seeking .enable)

/-- A port enters DOWN (04 R72): what it was doing is dropped without counting, its line LOW, its marks emptied, its
record UNSEEN. -/
def State.disablePort (s : State) (p : Port) : State :=
  let r := { (s.port p).enter .down with
    exch := none, tx := none, rx := .closed, log := [], solicited := false, missRun := 0, lastEcho := none }
  let t := s.setPort p r
  let u := t.setEds (t.eds.setLevel p false)
  let v := u.setMarks p (u.marks p).empty
  (v.changeRecord p (v.rack p).toUnseen .disable).raiseNotice (.port p) (.port .down .disable)

/-- Part 1 of 04 R78. -/
def PortRec.configure (r : PortRec) (loss initComp : Nat) : PortRec := { r with loss := loss, initComp := initComp }

/-- Parts 2 to 4 of 04 R78 on a port that part 1 has been applied to. -/
def State.applyPort (s : State) (p : Port) (enable : Bool) (m : Mode) : State :=
  if (s.port p).state = .down then
    if enable then s.enablePort p m
    else s.setPort p { s.port p with mode := m, staged := none, frozen := none }
  else if enable then s.setPort p { s.port p with staged := some m }
  else
    let t := s.disablePort p
    t.setPort p { t.port p with mode := m, staged := none, frozen := none }

/-- SET PORT (04 R78). -/
def actSetPort (r : Req) (s : State) : Served :=
  let q := PortReq.read r.payload
  if h : q.port < 16 then
    match Mode.ofCode q.mode with
    | none => .refuse s .invalid
    | some m =>
      let p : Port := ⟨q.port, h⟩
      let loss := clampNat 2 255 q.loss
      let c := clampNat 0 20000 q.comp
      ⟨(s.setPort p ((s.port p).configure loss c)).applyPort p q.enable m, .ofClamp (loss ≠ q.loss || c ≠ q.comp), []⟩
  else .refuse s .invalid

/-- A mode in a reply. -/
def Mode.bytes (m : Mode) : List Byte := byte m.code

/-- The nine counters in the order of 04's opening. -/
def PortCounters.bytes (c : PortCounters) : List Byte :=
  [c.departures, c.echoes, c.missing, c.late, c.crc, c.framing, c.tag, c.count, c.protocol].flatMap (beNat 2)

/-- The newest log entry in a reply: tag, L, generation, compensation. -/
def LogEntry.bytes (e : LogEntry) : List Byte := e.tag.bytes ++ timeBytes e.left ++ [e.gen] ++ beNat 2 e.comp

/-- The last echo in a reply: A, T, the rack receive time as a time (6 + 4, the seconds modulo 2^16 as carried; DEDUCED,
unsafe; log entry 14), the two rack flags (R182). -/
def LastEcho.bytes (e : LastEcho) : List Byte :=
  timeBytes e.arrival ++ beNat 4 e.turnaround ++ beNat 6 e.rxSec.toNat ++ beNat 4 e.rxNs ++ flagByte e.stepped
    ++ flagByte e.holdover

/-- A port's part of the READ PORT reply (04 R79). The awaited tag and L, the newest log entry and the last echo have one
presence byte each (DESIGN CHOICE, unsafe; log entry 65). The mode in force, never absent, has none (DESIGN CHOICE, unsafe;
log entry 66). -/
def PortRec.bytes (r : PortRec) (c : Nat) : List Byte :=
  byte r.state.code ++ beNat 4 r.secs ++ r.mode.bytes ++ presence 1 (r.frozen.map Mode.bytes)
    ++ presence 1 (r.staged.map Mode.bytes) ++ beNat 2 r.loss ++ beNat 2 r.initComp ++ beNat 2 c
    ++ flagByte r.solicited ++ presence 14 (r.exch.map (fun x => x.entry.tag.bytes ++ timeBytes x.entry.left))
    ++ beNat 2 r.missRun ++ beNat 2 r.log.length ++ presence 17 (r.log.head?.map LogEntry.bytes)
    ++ presence 26 (r.lastEcho.map LastEcho.bytes) ++ r.ctr.bytes

/-- A divisor, an enumerated value (09 R157) and so one byte, with its window in a reply (R182). -/
def CycleCfg.bytes (c : CycleCfg) : List Byte := byte c.divisor ++ beNat 4 c.window

/-- READ PORT (04 R79). -/
def actReadPort (r : Req) (s : State) : Served :=
  let q := PortRead.read r.payload
  if h : q.port < 16 then
    let p : Port := ⟨q.port, h⟩
    ⟨if q.clear then s.setPort p { s.port p with ctr := PortCounters.zero } else s, .done,
      (s.port p).bytes (s.comp p) ++ s.rle.cycle.bytes ++ presence 5 (s.rle.staged.map CycleCfg.bytes)⟩
  else .refuse s .invalid

def kindSetCycle : ReqKind := ⟨0x12, false, 5⟩
def kindSetPort : ReqKind := ⟨0x13, false, 6⟩
def kindReadPort : ReqKind := ⟨0x14, true, 2⟩

def execSetCycle (r : Req) (s : State) : Outcome := .next (s.serve kindSetCycle r actSetCycle)
def execSetPort (r : Req) (s : State) : Outcome := .next (s.serve kindSetPort r actSetPort)
def execReadPort (r : Req) (s : State) : Outcome := .next (s.serve kindReadPort r actReadPort)

end Sys2Proof.Machine
end

