-- ==== Sys2Proof/Machine/Schedule.lean ====
section
/-! DEFINITION. The edge scheduler (03): emissions, its boundary work, and its requests. -/

namespace Sys2Proof.Machine

/-- The line level that a driving action leaves: RISE high, FALL low (03 R49). -/
def Action.drivesHigh (a : Action) : Bool := a == .rise

/-- Whether an entry drives port `p` in second `sec`, but for the port's state (03 R42). -/
def Entry.emits (e : Entry) (p : Port) (sec : RowSec) : Bool := e.used && e.drives && e.has p && e.fires sec

/-- The compensated instant of an emission of second `sec`, and whether it is early: in the last C ns of the second
before (03 R47). -/
def edgeInstant (sec : RowSec) (offset c : Nat) : Time × Bool :=
  if c ≤ offset then (⟨sec, offset - c⟩, false) else (⟨sec - 1, nsPerSec + offset - c⟩, true)

/-- Whether the schedule in force lets an emission be made: an early one only while the armed flag is clear; an ordinary
one only if it was not early under the compensation of the second before (03 R47, R48). -/
def Eds.allows (e : Eds) (p : Port) (offset : Nat) (early : Bool) : Bool :=
  if early then !e.armed else e.earlyBelow[p] ≤ offset

/-- Whether an emission that was made on a port at this tick comes after one of compensated instant `i` and second `sec`:
by the instants, and by the seconds where they are equal (03 R49). -/
def State.drivenAfter (s : State) (p : Port) (i : Time) (sec : RowSec) : Bool :=
  s.clk.taken.any (fun
    | .drive q j u => q == p && (0 < j.diff i || (j == i && 0 < secDiff u sec))
    | .cycle _ _ => false
    | .edge _ _ _ => false
    | .tick _ _ => false
    | .departure _ _ _ => false
    | .overtaken _ _ => false
    | .arbiter => false
    | .line _ => false
    | .hstb => false
    | .pins => false)

/-- An emission made at the present tick: the line shows the level of the last of the tick's emissions in the order of
03 R49, in whatever order they are commanded. -/
def State.emit (s : State) (p : Port) (a : Action) (i : Time) (sec : RowSec) : State :=
  (if s.drivenAfter p i sec then s else s.setEds (s.eds.setLevel p a.drivesHigh)).note (.drive p i sec)

/-- EDGE_EMISSION: the RISE or FALL of one entry in second `sec` on port `p` (03 R47, R49, R50, R52). -/
def execEdgeEmission (p : Port) (ix : EntryIx) (sec : RowSec) (s : State) : Outcome :=
  let e := s.eds.active[ix]
  let at? := edgeInstant sec e.offset (s.comp p)
  if s.mlc.held || !e.emits p sec || (s.port p).state == .down || !s.eds.allows p e.offset at?.2 then .next s
  else match s.reach at?.1 with
    | none => .next s
    | some t =>
      if at?.1.sec ≠ t.now.sec || t.suppressed sec || t.hasTaken (.edge p ix sec) then .next s
      else .next ((t.emit p e.action at?.1 sec).note (.edge p ix sec))

/-- TICK_EMISSION: the TICK of one entry in second `sec` raises a TICK marker (03 R51, R52). -/
def execTickEmission (ix : EntryIx) (sec : RowSec) (s : State) : Outcome :=
  let e := s.eds.active[ix]
  if s.mlc.held || !e.used || e.drives || !e.fires sec then .next s
  else match s.reach ⟨sec, e.offset⟩ with
    | none => .next s
    | some t =>
      if sec ≠ t.now.sec || t.suppressed sec || t.hasTaken (.tick ix sec) then .next s
      else .next ((t.raiseMarker t.hdr (.tick 1)).note (.tick ix sec))

/-! ### EDS's boundary work -/

/-- What the boundary tick means for emissions: the second it begins, where its advance started in the second that ended,
whether the quiet interval was open before it, whether a step is taken at it, whether it activates a schedule. -/
structure EdgeTick where
  sec : RowSec
  fromNs : Nat
  quietBefore : Bool
  stepped : Bool
  activates : Bool
  deriving DecidableEq, Repr

/-- The compensated instants, counted from the boundary, of the emissions of one entry on one port that fall to the
boundary tick: one of the second that ended, an early one of the new second, a catch-up (03 R47, R48). The second
component tells the second, for the order of equal instants (R49). -/
def Entry.boundaryInstants (e : Entry) (p : Port) (k : EdgeTick) (armed : Bool) (cOld cNew low : Nat) :
    List (Int × Nat) :=
  let o := e.offset
  (if e.emits p (k.sec - 1) && !k.quietBefore && cOld ≤ o && low ≤ o && k.fromNs < o - cOld then
      [((o : Int) - cOld - nsPerSec, 0)] else [])
  ++ (if e.emits p k.sec && !armed && !k.stepped && o < cOld && k.fromNs + cOld < nsPerSec + o then
      [((o : Int) - cOld, 1)] else [])
  ++ (if e.emits p k.sec && !k.activates && !k.stepped && cOld ≤ o && o < cNew then
      [((o : Int) - cNew, 1)] else [])

/-- The later of two emissions of one port: the greater instant, then the later second (03 R49). Of an early and a
catch-up emission of one second at one instant the higher index comes last (DESIGN CHOICE, unsafe; log entry 51). -/
def laterEmission (x : Option (Int × Nat × Bool)) (y : Int × Nat × Bool) : Option (Int × Nat × Bool) :=
  match x with
  | none => some y
  | some z => if z.1 < y.1 ∨ (z.1 = y.1 ∧ z.2.1 ≤ y.2.1) then some y else some z

/-- The last emission of a port's boundary tick, if any. -/
def Eds.lastAtBoundary (e : Eds) (p : Port) (k : EdgeTick) (cNew : Nat) : Option (Int × Nat × Bool) :=
  (allEntries.flatMap (fun ix =>
    (e.active[ix].boundaryInstants p k e.armed e.comp[p] cNew e.earlyBelow[p]).map
      (fun x => (x.1, x.2, e.active[ix].action.drivesHigh)))).foldl laterEmission none

/-- The compensation a port has after the boundary's move; a DOWN port keeps its own (03 R53). -/
def State.movedComp (s : State) (p : Port) : Nat :=
  if (s.port p).state = .down then s.comp p
  else moveToward s.eds.compStep (s.comp p) (compTarget (s.rack p) (s.port p).initComp).ns

/-- One port's part of the boundary: its emissions of the tick, its new compensation (03 R48, R49, R53). The old
schedule `old` governs the emissions. What was early under the old compensation is not made again in the new second,
at an activation too, where only the catch-up falls away (R48, R53; log entry 7). -/
def edsPortBoundary (old : Eds) (k : EdgeTick) (p : Port) (s : State) : State :=
  if (s.port p).state = .down then
    s.setEds { s.eds with earlyBelow := s.eds.earlyBelow.set p 0 }
  else
    let e := (s.eds.setComp p (s.movedComp p))
    let e := { e with earlyBelow := e.earlyBelow.set p old.comp[p] }
    match old.lastAtBoundary p k (s.movedComp p) with
    | none => s.setEds e
    | some x => s.setEds (e.setLevel p x.2.2)

/-- TICK markers of the second that ended whose instants the boundary tick reaches. -/
def edsTicks (old : Eds) (k : EdgeTick) (s : State) : State :=
  allEntries.foldl (fun s ix =>
    let e := old.active[ix]
    if e.used && !e.drives && e.fires (k.sec - 1) && !k.quietBefore && k.fromNs < e.offset then
      s.raiseMarker s.hdr (.tick 1)
    else s) s

/-- The activation of an armed schedule (03 R46). -/
def Eds.activate (e : Eds) (sec : RowSec) : Eds :=
  if e.armed then { e with active := e.pend, armed := false, lastAct := some sec } else e

/-- EDS's boundary work (03 R46 to R49, R53). -/
def State.edsBoundary (s : State) (sec : RowSec) (fromNs : Nat) (quietBefore stepped : Bool) : State :=
  let k : EdgeTick := ⟨sec, fromNs, quietBefore, stepped, s.eds.armed⟩
  let t := overPorts (edsPortBoundary s.eds k) (s.setEds (s.eds.activate sec))
  edsTicks s.eds k t

/-! ### Requests (03 sections 3.2, 3.5) -/

/-- SCHEDULE EDIT (03 R43). -/
def actScheduleEdit (r : Req) (s : State) : Served :=
  let q := EditReq.read r.payload
  if h : q.index < 32 then
    match Action.ofCode q.action with
    | none => .refuse s .invalid
    | some a =>
      let e : Entry := ⟨q.used, clampNat 0 999999999 q.offset, q.ports, a, q.mask⟩
      ⟨s.setEds { s.eds with pend := s.eds.pend.set q.index e, armed := false }, .ofClamp (e.offset ≠ q.offset), []⟩
  else .refuse s .invalid

/-- The conflicting pair of a schedule with the lowest i, then the lowest j (03 R44). -/
def firstConflict (xs : Vector Entry 32) : Option (EntryIx × EntryIx) :=
  allEntries.findSome? (fun i =>
    (allEntries.find? (fun j => i.val < j.val && xs[i].conflicts xs[j])).map (fun j => (i, j)))

/-- SCHEDULE COMMIT (03 R44). -/
def actScheduleCommit (_ : Req) (s : State) : Served :=
  match firstConflict s.eds.pend with
  | some (i, j) => ⟨s, .conflict, byte i.val ++ byte j.val⟩
  | none => ⟨s.setEds { s.eds with armed := true }, .done, []⟩

/-- SCHEDULE DISCARD (03 R45). -/
def actScheduleDiscard (_ : Req) (s : State) : Served :=
  ⟨s.setEds { s.eds with pend := s.eds.active, armed := false }, .done, []⟩

/-- An entry in a reply: its index, used, offset, port set, action, second mask. -/
def Entry.bytes (ix : EntryIx) (e : Entry) : List Byte :=
  byte ix.val ++ flagByte e.used ++ beNat 4 e.offset ++ beNat 2 e.ports.toNat ++ byte e.action.code ++ byte e.mask.toNat

/-- The ACTIVE and PENDING views: armed flag, last activation, the entries asked for (03 R56). -/
def Eds.viewBytes (e : Eds) (xs : Vector Entry 32) (first n : Nat) : List Byte :=
  let ixs := (allEntries.drop first).take n
  flagByte e.armed ++ presence 6 (e.lastAct.map secBytes) ++ byte ixs.length ++ ixs.flatMap (fun ix => xs[ix].bytes ix)

/-- A port's target as READ SCHEDULE reports it; a DOWN port's is its initial compensation (03 R56). -/
def State.reportedTarget (s : State) (p : Port) : Target :=
  if (s.port p).state = .down then ⟨(s.port p).initComp, false, false⟩
  else compTarget (s.rack p) (s.port p).initComp

/-- The PORTS view (03 R56). The byte of a line's level is log entry 47's. -/
def State.portsView (s : State) : List Byte :=
  beNat 2 s.eds.compStep ++ allPorts.flatMap (fun p =>
    let t := s.reportedTarget p
    flagByte ((s.port p).state == .down) ++ levelByte s.eds.level[p] ++ beNat 2 (s.comp p) ++ beNat 2 t.ns
      ++ [Config.targetSourceCode (if t.fromDelay then 0 else 1)] ++ flagByte t.limited)

/-- The count of a READ SCHEDULE after its clamps (03 R56). -/
def viewCount (first count : Nat) : Nat := min (clampNat 1 16 count) (32 - first)

/-- READ SCHEDULE (03 R56). -/
def actReadSchedule (r : Req) (s : State) : Served :=
  let q := ScheduleReq.read r.payload
  match q.view with
  | 2 => ⟨s, .done, s.portsView⟩
  | 0 =>
    if 31 < q.first then .refuse s .invalid
    else ⟨s, .ofClamp (viewCount q.first q.count ≠ q.count),
      s.eds.viewBytes s.eds.active q.first (viewCount q.first q.count)⟩
  | 1 =>
    if 31 < q.first then .refuse s .invalid
    else ⟨s, .ofClamp (viewCount q.first q.count ≠ q.count),
      s.eds.viewBytes s.eds.pend q.first (viewCount q.first q.count)⟩
  | _ => .refuse s .invalid

def kindScheduleEdit : ReqKind := ⟨0x0E, false, 9⟩
def kindScheduleCommit : ReqKind := ⟨0x0F, false, 0⟩
def kindScheduleDiscard : ReqKind := ⟨0x10, false, 0⟩
def kindReadSchedule : ReqKind := ⟨0x11, true, 3⟩

def execScheduleEdit (r : Req) (s : State) : Outcome := .next (s.serve kindScheduleEdit r actScheduleEdit)
def execScheduleCommit (r : Req) (s : State) : Outcome := .next (s.serve kindScheduleCommit r actScheduleCommit)
def execScheduleDiscard (r : Req) (s : State) : Outcome := .next (s.serve kindScheduleDiscard r actScheduleDiscard)
def execReadSchedule (r : Req) (s : State) : Outcome := .next (s.serve kindReadSchedule r actReadSchedule)

end Sys2Proof.Machine
end

