-- ==== Sys2Proof/Machine/Reference.lean ====
section
/-! DEFINITION. The reference unit (02 sections 2.1 to 2.3, 2.5): pulses, messages, verdicts, REF's boundary work and its
requests. -/

namespace Sys2Proof.Machine

/-! ### Verdicts (02 R22 to R25) -/

/-- Whether an observation fails the interval check (02 R22, order 1). -/
def Obs.badInterval (o : Obs) (tol : Nat) : Bool :=
  !o.exempt && (o.interval - o.missed * nsPerSec - nsPerSec).natAbs > tol

/-- The first check of 02 R22 that an observation fails, or GOOD. -/
def InputRec.judge (r : InputRec) (o : Obs) (m : Option RefMessage) : Cause :=
  if o.badInterval r.set.tol then .interval
  else match m with
    | none => .noMessage
    | some g =>
      if !g.sumGood then .checksum
      else if g.leap.isNone then .content
      else if r.expected.isSome && r.expected != some g.sec then .sequence
      else if r.set.qmax < g.quality then .quality
      else .good

/-- The counter that a cause raises (02 R22, R24). -/
def RefCounters.count (c : RefCounters) : Cause → RefCounters
  | .good => c
  | .interval => { c with interval := bump c.interval }
  | .noMessage => { c with missingMessages := bump c.missingMessages }
  | .checksum => { c with checksum := bump c.checksum }
  | .content => { c with content := bump c.content }
  | .sequence => { c with sequence := bump c.sequence }
  | .quality => { c with quality := bump c.quality }
  | .missingPulse => { c with missingPulses := bump c.missingPulses }

/-- A verdict enters the slot: a GOOD verdict does not displace a BAD one (02 R25). -/
def InputRec.enterSlot (r : InputRec) (v : Verdict) : InputRec :=
  match r.slot with
  | none => { r with slot := some v }
  | some w =>
    let c := { r.ctr with superseded := bump r.ctr.superseded }
    if w.cause ≠ .good ∧ v.cause = .good then { r with ctr := c } else { r with slot := some v, ctr := c }

/-- The phase error of a pulse against its message, with its gross flag (02 R23). -/
def phaseError (cap : Time) (sec : RowSec) (cable : Nat) : PhaseErr :=
  ⟨secDiff cap.sec sec * nsPerSec + cap.ns - cable, 1 < (secDiff cap.sec sec).natAbs⟩

/-- An observation closes, with its message or without (02 R22, R23). -/
def InputRec.close (r : InputRec) (o : Obs) (m : Option RefMessage) : InputRec :=
  let cause := r.judge o m
  let good := m.filter (·.sumGood)
  let err := good.map (fun g => phaseError o.cap g.sec r.set.cable)
  let x := InputRec.enterSlot
    { r with obs := none, cause := cause, ctr := r.ctr.count cause } ⟨cause, o.gen, err, good⟩
  match good with
  | some g => { x with msg := some g, expected := some (g.sec + 1), err := err }
  | none => { x with expected := x.expected.map (· + 1) }

/-- A pulse opens an observation and becomes the last pulse (02 R20). -/
def InputRec.openObs (r : InputRec) (cap : Time) (gen : Gen) (stamp : Nat) : InputRec :=
  { r with
    obs := some
      { cap := cap
        gen := gen
        interval := match r.pulse with
          | none => 0
          | some p => cap.diff p.cap
        exempt := match r.pulse with
          | none => true
          | some p => p.exempt || p.gen != gen
        missed := r.missed
        stamp := stamp }
    missed := 0
    pulse := some ⟨cap, gen, false, r.set.tol, stamp⟩ }

/-- An open observation closes without a message (02 R20, R24). -/
def InputRec.closeOpen (r : InputRec) : InputRec :=
  match r.obs with
  | none => r
  | some o => r.close o none

/-- The pulse's effect on an input's record (02 R20). -/
def InputRec.takePulse (r : InputRec) (cap : Time) (gen : Gen) (stamp : Nat) : InputRec :=
  match r.state with
  | .off => r
  | .absent => { r with state := .checking, goodRun := 0 }.openObs cap gen stamp
  | .checking => r.closeOpen.openObs cap gen stamp
  | .qualified => r.closeOpen.openObs cap gen stamp
  | .disqualified => r.closeOpen.openObs cap gen stamp

/-- The value of a REF notice for an input (02 R29). -/
def Ref.noticeOf (r : Ref) (i : Input) : NoticeValue :=
  .ref (r.input i).state (r.sel == some i) (r.input i).cause

/-- REFERENCE_PULSE (02 R20). An ABSENT input's entry to CHECKING raises its REF notice. -/
def execReferencePulse (i : Input) (s : State) : Outcome :=
  if s.mlc.held then .next s
  else
    let r := s.input i
    let t := s.setInput i (r.takePulse s.now s.tsu.gen s.clk.elapsed)
    .next (if r.state = .absent then t.raiseNotice (.ref i) (t.ref.noticeOf i) else t)

/-- A complete message is attached to the open observation, or is stray; in OFF it is discarded (02 R21). -/
def InputRec.takeMessage (r : InputRec) (m : RefMessage) : InputRec :=
  let c := { r with assembling := [] }
  if r.state = .off then c
  else match r.obs with
    | none => { c with ctr := { r.ctr with stray := bump r.ctr.stray } }
    | some o => c.close o (some m)

/-- MESSAGE_ARRIVAL (02 R21). -/
def execMessageArrival (i : Input) (body : Vector Byte 18) (s : State) : Outcome :=
  if s.mlc.held then .next s
  else .next (s.setInput i ((s.input i).takeMessage (refMessage body.toList)))

/-- MESSAGE_FRAMING_ERROR: a byte with a zero in its stop bit position abandons the message in assembly; with none in
assembly the byte is discarded (02 R21; log entry 46). -/
def execMessageFramingError (i : Input) (s : State) : Outcome :=
  if s.mlc.held || (s.input i).assembling.isEmpty then .next s
  else .next (s.setInput i { (s.input i).abandon with inByte := false })

/-- MESSAGE_GAP_TIMEOUT: the ticks pass until the silence after the last byte of the message in assembly is longer than
2 ms, and the message is abandoned (02 R21). -/
def execMessageGapTimeout (i : Input) (s : State) : Outcome :=
  if s.mlc.held || (s.input i).assembling.isEmpty || (s.input i).inByte then .next s
  else match s.reachTick ((s.input i).lastTick + longestGap + 1) with
    | none => .next s
    | some t => .next (t.gapTimeout i)

/-- MESSAGE_WINDOW_EXPIRY: 600,000,000 ns after the pulse of the open observation (02 R24). -/
def execMessageWindowExpiry (i : Input) (s : State) : Outcome :=
  if s.mlc.held then .next s
  else match (s.input i).obs with
    | none => .next s
    | some o =>
      match s.reachElapsed o.stamp 600000000 with
      | none => .next s
      | some t => .next (t.setInput i (t.input i).closeOpen)

/-- Whether an input's seconds are judged: CHECKING, QUALIFIED or DISQUALIFIED. -/
def InputState.watched : InputState → Bool
  | .off => false
  | .absent => false
  | .checking => true
  | .qualified => true
  | .disqualified => true

/-- A missing-pulse expiry's effect (02 R24). -/
def InputRec.missPulse (r : InputRec) (gen : Gen) : InputRec :=
  InputRec.enterSlot
    { r with
      missed := r.missed + 1
      expected := r.expected.map (· + 1)
      cause := .missingPulse
      ctr := r.ctr.count .missingPulse }
    ⟨.missingPulse, gen, none, none⟩

/-- MISSING_PULSE_EXPIRY: the k-th falls k × 10^9 ns plus tolerance after the last pulse (02 R24). -/
def execMissingPulseExpiry (i : Input) (s : State) : Outcome :=
  if s.mlc.held then .next s
  else match (s.input i).pulse with
    | none => .next s
    | some p =>
      if (s.input i).state.watched && (s.input i).obs.isNone then
        match s.reachElapsed p.stamp (((s.input i).missed + 1) * nsPerSec + p.tol) with
        | none => .next s
        | some t => .next (t.setInput i ((t.input i).missPulse p.gen))
      else .next s

/-! ### REF's boundary work (02 R26) -/

/-- What a boundary raises: a notice or a marker, made after any step taken there (01 R3). -/
inductive Raise where
  | notice (p : Place) (v : NoticeValue)
  | marker (m : Marker)
  deriving DecidableEq, Repr

/-- One occurrence raised at the present tick. -/
def State.raiseOne (s : State) : Raise → State
  | .notice p v => s.raiseNotice p v
  | .marker m => s.raiseMarker s.hdr m

/-- A verdict as the reference report names it: with GOOD the phase error with its gross flag, and the message with its UTC
offset, leap warning and effective second (02 R31). -/
inductive ReportVerdict where
  | good (err : PhaseErr) (msg : RefMessage)
  | bad
  | empty
  deriving DecidableEq, Repr

/-- What REF hands TSU: the selection and, with an input selected, its verdict at this boundary (02 R31). -/
structure Report where
  sel : Option Input
  verdict : Option ReportVerdict
  deriving DecidableEq, Repr

/-- What a GOOD verdict carries. -/
def ReportVerdict.data : ReportVerdict → Option (PhaseErr × RefMessage)
  | .good e m => some (e, m)
  | .bad => none
  | .empty => none

/-- What the loop update and the adoption take from a report: a GOOD verdict's error and message (01 R10, R16). -/
def Report.good (r : Report) : Option (PhaseErr × RefMessage) := r.verdict.bind ReportVerdict.data

/-- The runs and marks that leave with an input's verdicts, on an entry to OFF or ABSENT (02 R27, R37). -/
def InputRec.wipe (r : InputRec) (st : InputState) : InputRec :=
  { r with
    state := st
    obs := none
    slot := none
    goodRun := 0
    badRun := 0
    holdOff := 0
    missed := 0
    expected := none
    pulse := r.pulse.map (fun p => { p with exempt := true }) }

/-- Part 1: staged settings come into force (02 R37). -/
def InputRec.applyStaged (r : InputRec) : InputRec :=
  match r.staged with
  | none => r
  | some set =>
    let x := { r with set := set, staged := none }
    if set.enable then (if r.state = .off then { x with state := .absent } else x)
    else (if r.state = .off then x else x.wipe .off)

/-- Part 2: an input without a pulse for 3 × 10^9 ns of elapsed time enters ABSENT (02 R27). -/
def InputRec.checkAbsent (r : InputRec) (elapsed : Nat) : InputRec :=
  match r.pulse with
  | none => r
  | some p =>
    if r.state.watched && p.stamp + 3 * nsPerSec * unitsPerNs ≤ elapsed then r.wipe .absent else r

/-- A slot as 02 R28 reads it. -/
inductive SlotRead where
  | good
  | bad
  | empty
  deriving DecidableEq, Repr

def InputRec.slotRead (r : InputRec) : SlotRead :=
  match r.slot with
  | none => .empty
  | some v => if v.cause = .good then .good else .bad

/-- Part 3: the slot is judged in the state the input holds (02 R28). The slot is emptied by the caller. -/
def InputRec.judgeSlot (r : InputRec) : InputRec :=
  match r.state, r.slotRead with
  | .off, _ => r
  | .absent, _ => r
  | .checking, .good =>
    if 4 ≤ r.goodRun + 1 then { r with state := .qualified, goodRun := 0, badRun := 0 }
    else { r with goodRun := r.goodRun + 1 }
  | .checking, .bad => { r with goodRun := 0 }
  | .checking, .empty => r
  | .qualified, .good => { r with badRun := 0 }
  | .qualified, .bad =>
    if 2 ≤ r.badRun + 1 then { r with state := .disqualified, badRun := 0, holdOff := 16 }
    else { r with badRun := r.badRun + 1 }
  | .qualified, .empty => r
  | .disqualified, .good =>
    if r.holdOff - 1 = 0 then { r with state := .checking, goodRun := 1, holdOff := 0 }
    else { r with holdOff := r.holdOff - 1 }
  | .disqualified, .bad => { r with holdOff := r.holdOff - 1 }
  | .disqualified, .empty => { r with holdOff := r.holdOff - 1 }

def InputRec.emptySlot (r : InputRec) : InputRec := { r with slot := none }

/-- The other input. -/
def otherInput : Input → Input
  | .a => .b
  | .b => .a

/-- Part 4: the selection (02 R30). -/
def Ref.select (r : Ref) : Option Input :=
  let fresh :=
    if (r.input r.preferred).state = .qualified then some r.preferred
    else if (r.input (otherInput r.preferred)).state = .qualified then some (otherInput r.preferred)
    else none
  match r.sel with
  | some i => if !r.revertive && (r.input i).state == .qualified then some i else fresh
  | none => fresh

/-- The REF notices for the inputs whose state changed from one record of REF to another (02 R29), input A's first
(DESIGN CHOICE, unsafe; log entry 51). -/
def stateNotices (old new : Ref) : List Raise :=
  [Input.a, Input.b].filterMap (fun i =>
    if (old.input i).state = (new.input i).state then none else some (.notice (.ref i) (new.noticeOf i)))

/-- The REF notices for the inputs whose selected status changed (02 R30), input A's first (DESIGN CHOICE, unsafe; log
entry 51). -/
def selectionNotices (old new : Ref) : List Raise :=
  [Input.a, Input.b].filterMap (fun i =>
    if (old.sel == some i) = (new.sel == some i) then none else some (.notice (.ref i) (new.noticeOf i)))

/-- A record's verdict as it is reported: EMPTY where the slot is empty, or where the pulse was captured in another
generation, whatever the verdict (02 R31). A GOOD verdict always holds its error and its message (R23). -/
def InputRec.reported (r : InputRec) (gen : Gen) : ReportVerdict :=
  match r.slot with
  | none => .empty
  | some v =>
    if v.gen ≠ gen then .empty
    else if v.cause ≠ .good then .bad
    else match v.err, v.msg with
      | some e, some m => .good e m
      | some _, none => .empty
      | none, _ => .empty

/-- A record's usable phase error and message: those of a GOOD verdict of the current generation (02 R31, R32). -/
def InputRec.goodNow (r : InputRec) (gen : Gen) : Option (PhaseErr × RefMessage) := (r.reported gen).data

/-- Part 5: the A/B spread, when both inputs give a usable phase error (02 R32). -/
def Ref.abSpread (r : Ref) (gen : Gen) (sec : RowSec) : Option AbSpread :=
  if r.a.state = .qualified ∧ r.b.state = .qualified then
    match r.a.goodNow gen, r.b.goodNow gen with
    | some (ea, _), some (eb, _) => if ea.gross || eb.gross then r.spread else some ⟨ea.e - eb.e, sec⟩
    | some _, none => r.spread
    | none, _ => r.spread
  else r.spread

def Ref.mapInputs (r : Ref) (f : InputRec → InputRec) : Ref := { r with a := f r.a, b := f r.b }

/-- Staged priority and revertive come into force at part 4 (02 R37). -/
def Ref.applyShared (r : Ref) : Ref :=
  { r with
    preferred := r.stagedPreferred.getD r.preferred
    revertive := r.stagedRevertive.getD r.revertive
    stagedPreferred := none
    stagedRevertive := none }

/-- REF's boundary work at the boundary that begins `sec`: its new record, what it raises, and the report. -/
def Ref.boundary (r : Ref) (gen : Gen) (elapsed : Nat) (sec : RowSec) : Ref × List Raise × Report :=
  let r1 := r.mapInputs InputRec.applyStaged
  let r2 := r1.mapInputs (·.checkAbsent elapsed)
  let r3 := r2.mapInputs InputRec.judgeSlot
  let r4 := r3.applyShared
  let r5 := { r4 with sel := r4.select }
  let r6 := { r5 with spread := r5.abSpread gen sec }
  (r6.mapInputs InputRec.emptySlot,
    stateNotices r r1 ++ stateNotices r1 r2 ++ stateNotices r2 r3 ++ selectionNotices r4 r5,
    ⟨r6.sel, r6.sel.map (fun i => (r6.input i).reported gen)⟩)

/-! ### Requests (02 section 2.5) -/

/-- The priority of a code (11 section 11.1). -/
def priorityOf : Nat → Option Input
  | 0 => some .a
  | 1 => some .b
  | _ => none

def inputOf : Nat → Option Input
  | 0 => some .a
  | 1 => some .b
  | _ => none

/-- SET REFERENCE stages the input's settings and the shared ones (02 R36). -/
def actSetReference (r : Req) (s : State) : Served :=
  let q := ReferenceReq.read r.payload
  match inputOf q.input, priorityOf q.priority with
  | some i, some pr =>
    let set : RefSettings := ⟨q.enable, clampNat 0 1000000 q.cable, clampNat 100 100000 q.tol, clampNat 0 15 q.qmax⟩
    let t := s.setInput i { s.input i with staged := some set }
    ⟨t.setRef { t.ref with stagedPreferred := some pr, stagedRevertive := some q.revertive },
      .ofClamp (set.cable ≠ q.cable || set.tol ≠ q.tol || set.qmax ≠ q.qmax), []⟩
  | some _, none => .refuse s .invalid
  | none, _ => .refuse s .invalid

/-- Settings in a reply: enable, cable delay, tolerance, quality maximum (log entry 14). -/
def RefSettings.bytes (x : RefSettings) : List Byte :=
  flagByte x.enable ++ beNat 4 x.cable ++ beNat 4 x.tol ++ byte x.qmax

/-- A last message in a reply: seconds, UTC offset, leap warning, effective second, quality, source id, whose width R182
leaves open: 2 bytes, as in the message (DEDUCED, unsafe; log entry 14). The effective second is the one the message carried,
whatever its warning byte, though 11 section 11.5 takes it only with INSERT and DELETE (DESIGN CHOICE, unsafe; log entry
64). -/
def RefMessage.bytes (m : RefMessage) : List Byte :=
  secBytes m.sec ++ beInt 4 m.utc ++ [m.warn] ++ secBytes m.eff ++ byte m.quality ++ beNat 2 m.source.toNat

/-- The ten counters in the order of 02 R38. -/
def RefCounters.bytes (c : RefCounters) : List Byte :=
  [c.interval, c.missingPulses, c.missingMessages, c.stray, c.framing, c.checksum, c.content, c.sequence, c.quality,
    c.superseded].flatMap (beNat 2)

/-- One input's part of the READ REFERENCE reply (02 R38). What one of R38's items names together shares one presence byte:
the staged settings, the last pulse's capture and generation, the last message's fields, the last phase error and its gross
flag (DESIGN CHOICE, unsafe; log entry 65). -/
def InputRec.bytes (r : InputRec) : List Byte :=
  byte r.state.code ++ r.set.bytes ++ presence 10 (r.staged.map RefSettings.bytes)
    ++ presence 11 (r.pulse.map (fun p => timeBytes p.cap ++ [p.gen]))
    ++ presence 20 (r.msg.map RefMessage.bytes)
    ++ presence 13 (r.err.map (fun e => beInt 12 e.e ++ flagByte e.gross))
    ++ byte r.cause.code ++ beNat 2 r.goodRun ++ beNat 2 r.badRun ++ beNat 2 r.holdOff
    ++ presence 6 (r.expected.map secBytes) ++ r.ctr.bytes

/-- The READ REFERENCE reply's content (02 R38). The shared items come as in force, then as staged, in R38's order of
items (DEDUCED, unsafe; log entry 14). Staged priority and staged revertive have a presence byte each, the A/B spread and its
row second one for both (DESIGN CHOICE, unsafe; log entry 65). The selection is one code byte, NONE among its values: R182 and
R38 leave open whether a selection of NONE is an absent item instead, a presence byte and then an input code (DESIGN CHOICE,
unsafe; log entry 66). -/
def Ref.bytes (r : Ref) : List Byte :=
  r.a.bytes ++ r.b.bytes ++ [Config.selectionCode (selectionIndex r.sel)]
    ++ byte (inputCode r.preferred) ++ flagByte r.revertive
    ++ presence 1 (r.stagedPreferred.map (fun i => byte (inputCode i)))
    ++ presence 1 (r.stagedRevertive.map flagByte)
    ++ presence 14 (r.spread.map (fun x => beInt 8 x.ns ++ secBytes x.sec))

/-- READ REFERENCE; its clear flag sets all twenty counters to 0 (02 R38). -/
def actReadReference (r : Req) (s : State) : Served :=
  let t := if clearFlag r.payload 0 then
      s.setRef (s.ref.mapInputs (fun x => { x with ctr := RefCounters.zero }))
    else s
  ⟨t, .done, s.ref.bytes⟩

def kindSetReference : ReqKind := ⟨0x0B, false, 12⟩
def kindReadReference : ReqKind := ⟨0x0C, true, 1⟩

def execSetReference (r : Req) (s : State) : Outcome := .next (s.serve kindSetReference r actSetReference)
def execReadReference (r : Req) (s : State) : Outcome := .next (s.serve kindReadReference r actReadReference)

end Sys2Proof.Machine
end

