-- ==== Sys2Proof/Machine/Timescale.lean ====
section
/-! DEFINITION. The timescale unit (01; 02 section 2.4): states, the loop update, holdover, leap, slew and steps, TSU's
boundary work, cycle starts, and its requests. -/

namespace Sys2Proof.Machine

/-! ### Rates and states -/

/-- A rate clamped to ±Fmax (01 R2). -/
def LoopCfg.limit (c : LoopCfg) (v : Int) : Int := clamp (-c.fmax) c.fmax v

/-- The total rate worked out again (01 R2). -/
def Tsu.refresh (t : Tsu) : Tsu :=
  { t with fTotal := clamp (-Config.totalRateMax) Config.totalRateMax (t.fLoop + 1000 * t.slew.term) }

/-- A running slew is abandoned with an end cause (01 R14). A slew runs while its remainder is not 0. -/
def Slew.abandon (w : Slew) (c : SlewEnd) : Slew :=
  if w.remainder = 0 then w else { w with remainder := 0, term := 0, ended := c }

/-- What a change of timescale state raises (01 R9). -/
def stateRaises (st : TsState) : List Raise := [.marker (.tstate st 1), .notice .tstate (.tstate st)]

/-- Entry to ACQUIRING by selection: I is seeded, F_loop takes it (01 R6; 02 R35 for the runs). -/
def Tsu.acquire (t : Tsu) (seed : Int) : Tsu :=
  { t with
    state := .acquiring
    integ := t.cfg.limit seed
    fLoop := t.cfg.limit seed
    slew := t.slew.abandon .selection
    staged := none
    holdExpired := false
    lockRun := 0
    unlockRun := 0 }

/-- Entry to HOLDOVER: the holdover rate is worked out, the count starts (01 R8). -/
def Tsu.enterHoldover (t : Tsu) : Tsu :=
  let rate := if t.ring.isEmpty then t.cfg.freerun else t.cfg.limit (meanOf t.ring)
  { t with
    state := .holdover
    holdRate := rate
    fLoop := rate
    holdCount := 0
    holdExpired := false
    lockRun := 0
    unlockRun := 0 }

/-- Part 1 of 01 R10: the change of state that a selection makes (01 R6). -/
def Tsu.takeSelection (t : Tsu) (selected : Bool) : Tsu :=
  match t.state, selected with
  | .freerun, true => t.acquire t.cfg.freerun
  | .holdover, true => t.acquire t.holdRate
  | .acquiring, false =>
    if t.lockedSince then t.enterHoldover else { t with state := .freerun, fLoop := t.cfg.freerun }
  | .locked, false => t.enterHoldover
  | .freerun, false => t
  | .holdover, false => t
  | .acquiring, true => t
  | .locked, true => t

/-! ### The loop update (02 R33 to R35) -/

/-- Whether a step is wanted for a phase error, and whether the policy takes it in this state (02 R33). -/
def Tsu.wantsStep (t : Tsu) (e : PhaseErr) : Bool :=
  (e.gross || t.cfg.stepThr ≤ e.e.natAbs) &&
    match t.cfg.policy with
    | .never => false
    | .acquireOnly => t.state == .acquiring
    | .always => true

/-- The filter (02 R34). -/
def Tsu.filter (t : Tsu) (e : PhaseErr) : Tsu :=
  let ef := clamp (-1000000) 1000000 e.e
  let i := t.cfg.limit (t.integ - roundDiv (ef * 1000) (2 ^ t.cfg.ki))
  { t with integ := i, fLoop := t.cfg.limit (-(roundDiv (ef * 1000) (2 ^ t.cfg.kp)) + i), lastErr := some e }

/-- Counting toward lock or unlock (02 R35). -/
def Tsu.countLock (t : Tsu) (e : PhaseErr) : Tsu :=
  match t.state with
  | .acquiring =>
    if !e.gross && e.e.natAbs < t.cfg.lockThr then
      if 8 ≤ t.lockRun + 1 then { t with state := .locked, lockedSince := true, lockRun := 0, unlockRun := 0 }
      else { t with lockRun := t.lockRun + 1 }
    else { t with lockRun := 0 }
  | .locked =>
    if e.gross || t.cfg.unlockThr ≤ e.e.natAbs then
      if 3 ≤ t.unlockRun + 1 then { t with state := .acquiring, lockRun := 0, unlockRun := 0 }
      else { t with unlockRun := t.unlockRun + 1 }
    else { t with unlockRun := 0 }
  | .freerun => t
  | .holdover => t

/-- In LOCKED the update pushes its F_loop into the holdover ring of 64 (01 R7). -/
def Tsu.pushRing (t : Tsu) : Tsu :=
  if t.state = .locked then { t with ring := (t.ring ++ [t.fLoop]).drop (t.ring.length + 1 - Config.ringPlaces) } else t

/-- Part 2 of 01 R10: the loop update, which decides a step or runs the filter. -/
def Tsu.loopUpdate (t : Tsu) (e : PhaseErr) : Tsu × Option Int :=
  if t.wantsStep e then
    ({ t with state := .acquiring, lockRun := 0, unlockRun := 0, lastErr := some e }, some e.e)
  else (((t.filter e).countLock e).pushRing, none)

/-! ### Holdover, leap, slew, step -/

/-- Part 3 of 01 R10: the holdover count and its expiry (01 R8). -/
def Tsu.countHoldover (t : Tsu) : Tsu × List Raise :=
  if t.state = .holdover then
    let n := raiseBy Config.countMax 1 t.holdCount
    if t.cfg.holdLimit ≤ n ∧ t.holdExpired = false then
      ({ t with holdCount := n, holdExpired := true }, [.notice .holdoverLimit (.holdoverLimit n t.cfg.holdLimit)])
    else ({ t with holdCount := n }, [])
  else (t, [])

/-- What a change of the UTC offset or of the pending leap raises (01 R16): a LEAP notice, and a marker but for cause
PENDING. -/
def Tsu.leapRaises (t : Tsu) (c : LeapCause) : List Raise :=
  match c with
  | .pending => [.notice .leap (.leap c t.utc t.leap)]
  | .adopt => [.marker (.leap c t.utc), .notice .leap (.leap c t.utc t.leap)]
  | .insert => [.marker (.leap c t.utc), .notice .leap (.leap c t.utc t.leap)]
  | .delete => [.marker (.leap c t.utc), .notice .leap (.leap c t.utc t.leap)]

/-- A message's UTC offset is adopted if it differs (01 R16, 1). -/
def Tsu.adoptOffset (t : Tsu) (m : RefMessage) : Tsu × List Raise :=
  if m.utc = t.utc then (t, [])
  else ({ t with utc := m.utc }, Tsu.leapRaises { t with utc := m.utc } .adopt)

/-- A message's leap becomes the pending leap if it differs (01 R16, 2). -/
def Tsu.adoptLeap (t : Tsu) (m : RefMessage) : Tsu × List Raise :=
  match m.leap with
  | none => (t, [])
  | some l =>
    if l = t.leap then (t, [])
    else ({ t with leap := l }, Tsu.leapRaises { t with leap := l } .pending)

/-- A pending leap that has fallen due is applied: the second just ended is E or later (01 R16). -/
def Tsu.applyLeap (t : Tsu) (ended : RowSec) : Tsu × List Raise :=
  match t.leap with
  | .none => (t, [])
  | .insert e =>
    if e.toNat ≤ ended.toNat then
      let u := { t with utc := clamp (-128) 127 (t.utc + 1), leap := .none }
      (u, u.leapRaises .insert)
    else (t, [])
  | .delete e =>
    if e.toNat ≤ ended.toNat then
      let u := { t with utc := clamp (-128) 127 (t.utc - 1), leap := .none }
      (u, u.leapRaises .delete)
    else (t, [])

/-- The slew term limited so that F_loop + 1,000 t lies within the total limit (01 R14). -/
def limitTerm (fLoop t : Int) : Int :=
  clamp (-((Config.totalRateMax + fLoop) / 1000)) ((Config.totalRateMax - fLoop) / 1000) t

/-- Part 5 of 01 R10: the slew is settled (01 R14). -/
def Slew.settle (w : Slew) (fLoop : Int) : Slew :=
  if w.remainder = 0 then w
  else if w.remainder - w.term = 0 then { w with remainder := 0, term := 0, ended := .completed }
  else
    { w with
      remainder := w.remainder - w.term
      term := limitTerm fLoop (clamp (-((w.rate * w.boost : Nat) : Int)) (w.rate * w.boost) (w.remainder - w.term)) }

/-- A step to a value, of an amount (01 R11): generation, history, suppressed-roll mark, quiet interval. -/
def Tsu.takeStep (t : Tsu) (value : Ts) (amount : Int) : Tsu :=
  { t with
    ts := value
    gen := t.gen + 1
    hist := (⟨t.gen + 1, amount⟩ :: t.hist).take Config.stepPlaces
    mark := some t.ts.sec
    quiet := true
    staged := none }

/-- What a step raises (01 R11). -/
def stepRaises (amount : Int) : List Raise :=
  [.marker (.step 1 amount), .notice .step (.step (saturateAmount amount))]

/-- Part 7 of 01 R10: the reference step decided in part 2, or the staged SET TIME (01 R11). -/
def Tsu.step (t : Tsu) (decided : Option Int) : Tsu × List Raise :=
  match decided with
  | some e =>
    let v := t.ts.capture.plus (-e)
    (t.takeStep ⟨v.sec, v.ns, t.ts.frac⟩ (-e), stepRaises (-e))
  | none =>
    match t.staged with
    | some T =>
      let amount := secDiff T t.ts.sec * nsPerSec - t.ts.ns
      (t.takeStep ⟨T, 0, 0⟩ amount, stepRaises amount)
    | none => (t, [])

/-- Raises for a state that changed. -/
def Tsu.changed (old new : Tsu) : List Raise := if old.state = new.state then [] else stateRaises new.state

/-- TSU's boundary work on the report (01 R10), at a value of the timescale just after the roll. The quiet interval
that was open closes (01 R12). -/
def Tsu.boundary (t : Tsu) (rep : Report) : Tsu × List Raise :=
  let t0 := { t with quiet := false }
  let t1 := t0.takeSelection rep.sel.isSome
  let (t2, decided) := match rep.good with
    | some (e, _) => if t1.state.referenced then t1.loopUpdate e else (t1, none)
    | none => (t1, none)
  let (t3, r3) := t2.countHoldover
  let (t4, r4) := match rep.good with
    | some (_, m) =>
      let (u, ru) := t3.adoptOffset m
      let (v, rv) := u.adoptLeap m
      (v, ru ++ rv)
    | none => (t3, [])
  let (t5, r5) := t4.applyLeap (t.ts.sec - 1)
  let t6 := Tsu.refresh { t5 with slew := t5.slew.settle t5.fLoop }
  let (t7, r7) := t6.step decided
  (t7, t0.changed t1 ++ t1.changed t2 ++ r3 ++ r4 ++ r5 ++ r7)

/-! ### Cycle starts (01 R5, R12) -/

/-- CYCLE_START: the cycle start is raised once at the tick that reaches its instant; cycle 0 falls at the tick of the
roll that begins its second. It changes no state but the record of the latest one (log entry 6). Those that recur after a
backward step of less than one second are raised again too (DESIGN CHOICE, unsafe; log entry 52). -/
def execCycleStart (sec : RowSec) (k : Nat) (s : State) : Outcome :=
  if s.mlc.held || s.rle.cycle.divisor ≤ k then .next s
  else
    let at? := if k = 0 ∧ s.clk.rolled = some sec then some s else s.reach (cycleInstant sec k s.rle.cycle.divisor)
    match at? with
    | none => .next s
    | some t =>
      if t.hasTaken (.cycle sec k) then .next s
      else .next ((t.setTsu { t.tsu with lastCycle := some ⟨sec, k, t.tsu.quiet⟩ }).note (.cycle sec k))

/-! ### Requests (01 sections 1.6 to 1.9; 02 R39) -/

/-- The boost of an ADJUST as TSU takes it: ×4 is reduced to ×2 at a high loop rate (01 R13). -/
def adjustBoost (fLoop : Int) (b : Nat) : Nat := if b = 4 ∧ 100000000 < fLoop.natAbs then 2 else b

/-- The slew rate of an ADJUST: 0 stands for 50,000, others are clamped (01 R13). -/
def adjustRate (r : Nat) : Nat := if r = 0 then 50000 else clampNat 1 100000 r

/-- ADJUST (01 R13). -/
def actAdjust (r : Req) (s : State) : Served :=
  let q := AdjustReq.read r.payload
  if q.boost ≠ 1 ∧ q.boost ≠ 2 ∧ q.boost ≠ 4 then .refuse s .invalid
  else if s.tsu.state.referenced then .refuse s .wrongState
  else
    let amount := clamp (-999999999) 999999999 q.amount
    let w : Slew :=
      { remainder := amount
        term := 0
        rate := adjustRate q.rate
        boost := adjustBoost s.tsu.fLoop q.boost
        ended := if s.tsu.slew.remainder = 0 then s.tsu.slew.ended else .replaced }
    ⟨s.setTsu (Tsu.refresh { s.tsu with slew := w }),
      .ofClamp (amount ≠ q.amount || (q.rate ≠ 0 && w.rate ≠ q.rate) || w.boost ≠ q.boost), []⟩

/-- SET TIME (01 R15). -/
def actSetTime (r : Req) (s : State) : Served :=
  if s.tsu.state.referenced then .refuse s .wrongState
  else
    ⟨s.setTsu (Tsu.refresh { s.tsu with
        staged := some (readSetTime r.payload), slew := s.tsu.slew.abandon .setTime }), .done, []⟩

/-- SET LEAP (01 R17). -/
def actSetLeap (r : Req) (s : State) : Served :=
  let q := LeapReq.read r.payload
  match Leap.ofCode q.second q.kind with
  | none => .refuse s .invalid
  | some l =>
    if s.tsu.state.referenced then .refuse s .wrongState
    else
      ⟨s.setTsu { s.tsu with utc := clamp (-128) 127 q.utc, leap := l }, .ofClamp (clamp (-128) 127 q.utc ≠ q.utc), []⟩

/-- The pending leap in a reply: its kind, then E as an item that may be absent (log entry 14). -/
def Leap.bytes (l : Leap) : List Byte :=
  byte l.code ++ presence 6 (match l with
    | .none => Option.none
    | .insert e => some (secBytes e)
    | .delete e => some (secBytes e))

/-- The READ LOOP reply's content (01 R18). The slew end cause is one code byte, NONE among its values, not an item that may
be absent (DESIGN CHOICE, unsafe; log entry 66); the presence byte of T is also what tells that a SET TIME is staged (DESIGN
CHOICE, unsafe; log entry 65). -/
def State.loopBytes (s : State) : List Byte :=
  let t := s.tsu
  byte t.state.code ++ byte t.grade.code ++ [t.gen] ++ flagByte t.lockedSince
    ++ beInt 4 t.fLoop ++ beInt 4 t.integ ++ beInt 4 t.fTotal ++ beInt 4 t.cfg.freerun ++ beInt 4 t.holdRate
    ++ beNat 2 t.ring.length ++ beNat 4 t.holdCount ++ flagByte t.holdExpired
    ++ presence 12 (t.lastErr.map (fun e => beInt 12 e.e)) ++ beNat 2 t.lockRun ++ beNat 2 t.unlockRun
    ++ beInt 4 t.slew.remainder ++ beInt 4 t.slew.term ++ beNat 4 t.slew.rate ++ byte t.slew.boost
    ++ [Config.slewEndCode t.slew.ended.index] ++ presence 6 (t.staged.map secBytes)
    ++ beInt 4 t.utc ++ t.leap.bytes ++ byte s.rle.cycle.divisor
    ++ presence 1 (s.rle.staged.map (fun c => byte c.divisor)) ++ flagByte t.quiet
    ++ byte t.hist.length ++ t.hist.flatMap (fun h => [h.gen] ++ beInt 12 h.amount)

/-- READ LOOP (01 R18). -/
def actReadLoop (_ : Req) (s : State) : Served := ⟨s, .done, s.loopBytes⟩

/-- The loop configuration a SET LOOP leaves, each field clamped in the order listed (02 R39). -/
def LoopReq.apply (q : LoopReq) (p : StepPolicy) : LoopCfg :=
  let fmax := clampNat 1000 200000000 q.fmax
  let lock := clampNat 1 1000000 q.lockThr
  { kp := clampNat 0 15 q.kp
    ki := clampNat 0 24 q.ki
    fmax := fmax
    freerun := clamp (-(fmax : Int)) fmax q.freerun
    lockThr := lock
    unlockThr := clampNat lock 1000000 q.unlockThr
    stepThr := clampNat 1000 999999999 q.stepThr
    policy := p
    holdLimit := clampNat 60 1000000 q.holdLimit }

/-- The configuration as the request's fields stand, to tell a clamp by. -/
def LoopReq.raw (q : LoopReq) (p : StepPolicy) : LoopCfg :=
  ⟨q.kp, q.ki, q.fmax, q.freerun, q.lockThr, q.unlockThr, q.stepThr, p, q.holdLimit⟩

/-- TSU under a new loop configuration: the rates are clamped to ±Fmax, and FREERUN takes the freerun rate (02 R39, 01
R2). -/
def Tsu.configure (t : Tsu) (c : LoopCfg) : Tsu :=
  Tsu.refresh { t with
    cfg := c
    integ := c.limit t.integ
    holdRate := c.limit t.holdRate
    fLoop := if t.state = .freerun then c.freerun else c.limit t.fLoop }

/-- SET LOOP (02 R39). -/
def actSetLoop (r : Req) (s : State) : Served :=
  let q := LoopReq.read r.payload
  match StepPolicy.ofCode q.policy with
  | none => .refuse s .invalid
  | some p => ⟨s.setTsu (s.tsu.configure (q.apply p)), .ofClamp (q.apply p ≠ q.raw p), (q.apply p).bytes⟩

/-- READ TIME (08 R148). -/
def actReadTime (_ : Req) (s : State) : Served :=
  ⟨s, .done, timeBytes s.now ++ byte s.tsu.state.code ++ byte s.tsu.grade.code ++ [s.tsu.gen] ++ beInt 1 s.tsu.utc
    ++ flagByte s.tsu.quiet⟩

def kindReadTime : ReqKind := ⟨0x04, true, 0⟩
def kindSetTime : ReqKind := ⟨0x07, false, 6⟩
def kindAdjust : ReqKind := ⟨0x08, false, 9⟩
def kindSetLeap : ReqKind := ⟨0x09, false, 9⟩
def kindReadLoop : ReqKind := ⟨0x0A, true, 0⟩
def kindSetLoop : ReqKind := ⟨0x0D, false, 27⟩

def execReadTime (r : Req) (s : State) : Outcome := .next (s.serve kindReadTime r actReadTime)
def execSetTime (r : Req) (s : State) : Outcome := .next (s.serve kindSetTime r actSetTime)
def execAdjust (r : Req) (s : State) : Outcome := .next (s.serve kindAdjust r actAdjust)
def execSetLeap (r : Req) (s : State) : Outcome := .next (s.serve kindSetLeap r actSetLeap)
def execReadLoop (r : Req) (s : State) : Outcome := .next (s.serve kindReadLoop r actReadLoop)
def execSetLoop (r : Req) (s : State) : Outcome := .next (s.serve kindSetLoop r actSetLoop)

end Sys2Proof.Machine
end

