-- ==== Sys2Proof/Machine/Boundary.lean ====
section
/-! DEFINITION. The roll of a second (01 R4, R10 to R12): the second boundary with every block's work in the order that
95_what_each_step_holds.md lists it, and the suppressed roll. -/

namespace Sys2Proof.Machine

/-- What a step from `b` to `v` makes the start of its tick's move. A backward step reaches the instant it lands on, so the
timescale moves onto it from a nanosecond before; any other step has left it behind (01 R5, 03 R52, 04 R65; DESIGN CHOICE,
unsafe; log entry 45). -/
def landedFrom (b v : Time) : Time := if v.diff b < 0 then v.plus (-1) else v

/-- What REF and TSU make of a boundary: the state with their new records, the step's landing noted, and what they
raise, which is made after the step (01 R3, R9 to R11; 02 R26). -/
def State.timeWork (s : State) (sec : RowSec) : State × List Raise :=
  let x := s.ref.boundary s.tsu.gen s.clk.elapsed sec
  let y := Tsu.boundary { s.tsu with mark := none } x.2.2
  let t := (s.setRef x.1).setTsu y.1
  (if y.1.gen = s.tsu.gen then t
    else t.setClk { t.clk with tickFrom := landedFrom s.now t.now, stepStamp := t.clk.elapsed }, x.2.1 ++ y.2)

/-- DRM's share of a step: with its boundary work still to come the hold is noted as fresh (05 R100). -/
def State.stepHolds (s : State) (stepped fresh : Bool) : State := if stepped then s.holdRecords fresh else s

/-- EDS's and RLE's boundary work (03, 04), in a state where TSU's is done. `b` is the boundary value of 01 R11;
`receiving` names the ports on which a frame is being received (04 R66). Seconds in state rise last, those of a port that
a departure of this tick has faulted among them (R73; DESIGN CHOICE, unsafe; log entry 55). -/
def State.portsWork (s : State) (sec : RowSec) (b : Time) (fromNs : Nat) (quietBefore stepped : Bool)
    (receiving : BitVec 16) : State :=
  let staged := s.rle.staged.isSome
  let t := overPorts (rleEarly sec fromNs staged receiving) (s.setRle s.rle.applyCycle)
  let u := t.edsBoundary sec fromNs quietBefore stepped
  let v := overPorts (rleRoll sec t.comp staged receiving) u
  let w :=
    if stepped && 0 < v.now.diff b then overPorts (passModes b v.now) v
    else if stepped && v.now.diff b < 0 then overPorts (landAgain sec) v
    else v
  overPorts rleSeconds w

/-- The second boundary event that begins `sec` (01 R4). `drmFirst`: DRM's work is taken before the step (05 R100). -/
def State.boundaryWork (s : State) (sec : RowSec) (drmFirst : Bool) (receiving : BitVec 16) : State :=
  let x := s.timeWork sec
  let stepped := x.1.tsu.gen != s.tsu.gen
  let t := x.2.foldl State.raiseOne x.1
  let u := if drmFirst then (t.drmBoundary sec).stepHolds stepped false else t.stepHolds stepped true
  let v := u.portsWork sec s.now s.clk.tickFrom.ns s.tsu.quiet stepped receiving
  if drmFirst then v else v.drmBoundary sec

/-- A roll just made: suppressed if it begins the marked second, else the boundary event. Either way the mark is
cleared (01 R4). At a suppressed roll RLE does the mode work of the early cycle 0 instants that the tick reaches; their
departures are suppressed (04 R65, R74). -/
def State.rollWork (s : State) (drmFirst : Bool) (receiving : BitVec 16) : State :=
  let t := s.setClk { s.clk with rolled := some s.tsu.ts.sec }
  if t.tsu.mark = some t.tsu.ts.sec then
    let u := overPorts (rleEarly t.tsu.ts.sec t.clk.tickFrom.ns false receiving) t
    u.setTsu { u.tsu with mark := none }
  else t.boundaryWork t.tsu.ts.sec drmFirst receiving

/-- The ticks up to and with the next roll, and the roll's work. A pulse or an expiry of the boundary tick can only be
commanded after it, though 02 R25 lets it come before REF's work too (DESIGN CHOICE, unsafe; log entry 49). -/
def State.roll (s : State) (drmFirst : Bool) (receiving : BitVec 16) : State :=
  (s.runTicks s.ticksToRoll).rollWork drmFirst receiving

/-- SECOND_BOUNDARY: time runs to the next roll, which 01 R4 judges. -/
def execSecondBoundary (roll : RollInputs) (s : State) : Outcome :=
  if s.mlc.held then .next s else .next (s.roll roll.drmFirst roll.receiving)

/-- SUPPRESSED_ROLL: time runs to the next roll, which 01 R4 judges. -/
def execSuppressedRoll (s : State) : Outcome := if s.mlc.held then .next s else .next (s.roll false 0)

end Sys2Proof.Machine
end

