-- ==== Sys2Proof/Machine/Notices.lean ====
section
/-! DEFINITION. The notice unit's requests (10 sections 10.4, 10.5): SET NOTICES and POLL. -/

namespace Sys2Proof.Machine

/-- SET NOTICES replaces the masks; ATTN follows, and a free transmitter takes a newly deliverable notice (10 R176). The
reply gives the masks as applied in 2 bytes, as the request does (DEDUCED, unsafe; log entry 14). -/
def actSetNotices (r : Req) (s : State) : Served :=
  let t := (s.setNtu (Ntu.settle { s.ntu with masks := readMasks r.payload })).handOut
  ⟨t, .done, beNat 2 (readMasks r.payload).toNat ++ beNat 2 s.ntu.count⟩

/-- POLL delivers the chosen entry in its reply (10 R175). -/
def actPoll (_ : Req) (s : State) : Served :=
  let x := s.ntu.deliver
  ⟨s.setNtu x.2, .done,
    presence 21 (x.1.map (fun e => noticeBytes e.1 e.2)) ++ byte x.2.count ++ byte x.2.deliverableCount
      ++ levelByte x.2.attn⟩

def kindSetNotices : ReqKind := ⟨0x1C, false, 2⟩
def kindPoll : ReqKind := ⟨0x1D, true, 0⟩

def execSetNotices (r : Req) (s : State) : Outcome := .next (s.serve kindSetNotices r actSetNotices)
def execPoll (r : Req) (s : State) : Outcome := .next (s.serve kindPoll r actPoll)

end Sys2Proof.Machine
end

