-- ==== Sys2Proof/Machine/Queue.lean ====
section
/-! DEFINITION. The stamp queue (07): the admission arbiter, losses, STAMPS and SET QUEUE. -/

namespace Sys2Proof.Machine

/-- The fill (07 section 7.1). -/
def Sq.fill (q : Sq) : Nat := q.queue.length

/-- A record joins the queue at the tail with the next sequence (07 R125). -/
def Sq.join (q : Sq) (h : Hdr) (b : Body) : Sq :=
  { q with queue := q.queue ++ [⟨q.nextSeq, h, b⟩], nextSeq := q.nextSeq + 1 }

/-- Whether a marker can enter (07 R131). -/
def Sq.markerFits (q : Sq) : Bool := q.fill < Config.queuePlaces

/-- Whether an ordinary record can enter (07 R131). -/
def Sq.ordinaryFits (q : Sq) : Bool :=
  if q.backlog.gap.isSome then q.fill + 1 < Config.ordinaryPlaces else q.fill < Config.ordinaryPlaces

/-- The first non-GAP entry in the order STEP, TSTATE, LEAP, TICK, RACK 0 to 15, and the backlog without it (07
R128). -/
def Backlog.next (b : Backlog) : Option (Hdr × Marker × Backlog) :=
  match b.step with
  | some e => some (e.hdr, .step e.count e.amount, { b with step := none })
  | none =>
    match b.tstate with
    | some e => some (e.hdr, .tstate e.state e.count, { b with tstate := none })
    | none =>
      match b.leap with
      | some e => some (e.hdr, .leap e.cause e.utc, { b with leap := none })
      | none =>
        match b.tick with
        | some e => some (e.hdr, .tick e.count, { b with tick := none })
        | none => allPorts.findSome? (fun p =>
            (b.rack[p]).map (fun e => (e.hdr, .rack p e.state e.count, { b with rack := b.rack.set p none })))

/-- An ordinary source: a line's latch or a port's mark buffer (07 section 7.3). -/
inductive Source where
  | line (l : Line)
  | port (p : Port)
  deriving DecidableEq, Repr

/-- The source of a number: 0 to 7 the lines, 8 to 23 the ports. -/
def sourceOf (i : Fin 24) : Source :=
  if h : i.val < 8 then .line ⟨i.val, h⟩ else .port ⟨i.val - 8, by omega⟩

/-- The record that a source offers (06 R112, R115). -/
def State.offer (s : State) : Source → Option (Hdr × Body)
  | .line l =>
    match (s.line l).latch with
    | .held r => some (⟨r.time, r.grade, r.gen⟩, .localLine l r.rising r.runt)
    | .empty => none
    | .qualifying _ => none
    | .waitRelease => none
  | .port p =>
    match (s.marks p).buf with
    | k :: _ => some (⟨k.time, k.grade, k.gen⟩, .rackMark p k.shelf k.kind k.seq k.flags)
    | [] => none

/-- A source gives up the record that was taken (06 R112, R115). -/
def State.releaseSource (s : State) : Source → State
  | .line l => s.setLine l (s.line l).release
  | .port p => s.setMarks p { s.marks p with buf := (s.marks p).buf.drop 1 }

/-- The policy that governs admissions at the present tick: a SET QUEUE's from the tick after it on (07 R139). -/
def State.policyNow (s : State) : Policy :=
  match s.sq.prior with
  | none => s.sq.policy
  | some (p, n) => if n = s.clk.ticks then p else s.sq.policy

/-- Whether the policy lets the arbiter serve a source that offers a record (07 R134, R135). -/
def State.servable (s : State) (x : Source) : Bool :=
  (s.offer x).isSome &&
    match x with
    | .line _ => true
    | .port _ => s.policyNow == .keepNewest || s.sq.ordinaryFits

/-- The sources in the order of the search: from the one after the pointer, round to the pointer itself (07 R130). -/
def searchOrder (r : Fin 24) : List (Fin 24) := rotated allSources (r.val + 1)

/-- One loss: a GAP marker, and a QUEUE_GAP notice where no GAP entry waited (07 R133). -/
def State.countLoss (s : State) : State :=
  let t := s.raiseMarker s.hdr (.gap 1)
  if s.sq.backlog.gap.isNone then t.raiseNotice .queueGap (.queueGap 1 t.sq.fill) else t

/-- The head record is discarded and counted as a loss (07 R135). -/
def State.discardHead (s : State) : State :=
  (s.setSq { s.sq with queue := s.sq.queue.drop 1 }).countLoss

/-- `n` head records discarded one by one. -/
def State.discardHeads (s : State) : Nat → State
  | 0 => s
  | n + 1 => s.discardHead.discardHeads n

/-- A QUEUE_LEVEL notice where an admission has raised the fill from below the watermark to it or above (07 R132). -/
def State.checkLevel (s : State) (before : Nat) : State :=
  if before < s.sq.watermark ∧ s.sq.watermark ≤ s.sq.fill then
    s.raiseNotice .queueLevel (.queueLevel s.sq.fill s.sq.watermark)
  else s

/-- The first backlog entry joins the queue and leaves the backlog (07 R128). -/
def State.joinMarker (s : State) : State :=
  match s.sq.backlog.next with
  | none => s
  | some (h, m, b) => s.setSq { s.sq.join h (.marker m) with backlog := b }

/-- A waiting GAP entry joins the queue ahead of a record admitted without loss (07 R133). -/
def State.joinGap (s : State) : State :=
  match s.sq.backlog.gap with
  | none => s
  | some g => s.setSq { s.sq.join g.hdr (.marker (.gap g.count)) with backlog := { s.sq.backlog with gap := none } }

/-- How many head records make room for an ordinary record that does not fit (07 R135). -/
def Sq.excess (q : Sq) : Nat := max 1 (q.fill + 1 - Config.ordinaryPlaces)

/-- The rotation pointer moves to the source served (07 R130). -/
def State.moveRotation (s : State) (i : Fin 24) : State := s.setSq { s.sq with rotation := i }

/-- Under KEEP_OLDEST a line's record that does not fit is refused (07 R134). -/
def State.refuseLine (s : State) (l : Line) : State :=
  let r := (s.line l).release
  (s.setLine l { r with ctr := { r.ctr with discards := bump r.ctr.discards } }).countLoss

/-- The arbiter serves source `i`, which offers a record (07 R129 to R135). -/
def State.serveSource (s : State) (i : Fin 24) (h : Hdr) (b : Body) : State :=
  let x := sourceOf i
  if s.sq.ordinaryFits then
    let t := s.joinGap.releaseSource x
    ((t.setSq (t.sq.join h b)).moveRotation i).checkLevel s.sq.fill
  else match s.policyNow with
    | .keepNewest =>
      let t := (s.releaseSource x).discardHeads s.sq.excess
      ((t.setSq (t.sq.join h b)).moveRotation i).checkLevel s.sq.fill
    | .keepOldest =>
      match x with
      | .line l => (s.refuseLine l).moveRotation i
      | .port _ => s

/-- What the arbiter does at one tick, or none where it makes no admission (07 R129). -/
def State.arbiter (s : State) : Option State :=
  if s.sq.backlog.next.isSome ∧ s.sq.markerFits then some (s.joinMarker.checkLevel s.sq.fill)
  else if s.sq.backlog.next.isSome ∧ s.policyNow = .keepNewest then
    some (s.discardHead.joinMarker.checkLevel s.sq.fill)
  else
    match (searchOrder s.sq.rotation).find? (fun i => s.servable (sourceOf i)) with
    | none => none
    | some i =>
      match s.offer (sourceOf i) with
      | none => none
      | some (h, b) => some (s.serveSource i h b)

/-- The tick at which the arbiter may act next: the present one, or the next where it has acted at this one. -/
def State.arbiterTick (s : State) : Option State := s.freeTick (s.hasTaken .arbiter)

/-- ADMISSION: at most one at each oscillator tick (07 R129). -/
def execAdmission (s : State) : Outcome :=
  if s.mlc.held then .next s
  else match s.arbiterTick with
    | none => .next s
    | some t =>
      match t.arbiter with
      | none => .next t
      | some u => .next (u.note .arbiter)

/-! ### Requests (07 section 7.5) -/

/-- The queue after a release, and whether the release was clamped (07 R137). -/
def Sq.release (q : Sq) (rb : BitVec 32) : Sq × Bool :=
  if seqBefore q.nextSeq rb then ({ q with queue := [] }, true)
  else ({ q with queue := q.queue.dropWhile (fun r => seqBefore r.seq rb) }, false)

/-- The STAMPS reply's content: head sequence, fill, backlog flags, records (07 R138). -/
def Sq.stampsBytes (q : Sq) (n : Nat) : List Byte :=
  beNat 4 q.headSeq.toNat ++ beNat 2 q.fill ++ [q.backlog.flags] ++ (q.queue.take n).flatMap Stamp.bytes

/-- STAMPS (07 R136 to R138). -/
def actStamps (r : Req) (s : State) : Served :=
  let q := StampsReq.read r.payload
  let n := clampNat 1 10 q.maximum
  let x := s.sq.release q.before
  ⟨s.setSq x.1, .ofClamp (x.2 || n ≠ q.maximum), x.1.stampsBytes n⟩

/-- SET QUEUE: the policy governs from the next tick on, the watermark from the next admission (07 R139). -/
def actSetQueue (r : Req) (s : State) : Served :=
  let q := QueueReq.read r.payload
  match Policy.ofCode q.policy with
  | none => .refuse s .invalid
  | some p =>
    ⟨s.setSq { s.sq with
        policy := p, prior := some (s.policyNow, s.clk.ticks), watermark := clampNat 1 1008 q.watermark },
      .ofClamp (clampNat 1 1008 q.watermark ≠ q.watermark), []⟩

def kindSetQueue : ReqKind := ⟨0x1A, false, 3⟩
def kindStamps : ReqKind := ⟨0x1B, true, 5⟩

def execSetQueue (r : Req) (s : State) : Outcome := .next (s.serve kindSetQueue r actSetQueue)
def execStamps (r : Req) (s : State) : Outcome := .next (s.serve kindStamps r actStamps)

end Sys2Proof.Machine
end

