-- ==== Sys2Proof/Machine/Resets.lean ====
section
/-! DEFINITION. The resets (01 R19, 02 R40 and R41, 03 R57, 04 R80 and R81, 05 R107, 06 R123, 07 R140 and R141, 08 R149,
09 R165 to R168, 10 R178 and R179). -/

namespace Sys2Proof.Machine

/-- POWER_ON: the straps are sampled and every block takes its power-on values (09 R168). -/
def execPowerOn (st : Straps) (s : State) : Outcome := .next (State.initial .powerOn st s.pending)

/-- The straps as they were last sampled. -/
def Mlc.straps (m : Mlc) : Straps :=
  ⟨m.rateHigh, m.mode == .shared, m.addr.getLsbD 0, m.addr.getLsbD 1, m.addr.getLsbD 2⟩

/-- PIN_RESET: RESETN goes low, any frame being sent is cut short, LINK_DE is deasserted, no byte is taken (09 R168).
The straps are sampled at the release. -/
def execPinReset (s : State) : Outcome :=
  let t := State.initial .pin s.mlc.straps s.pending
  .next (t.setMlc { t.mlc with held := true, linkDE := false })

/-- RESETN_RELEASE: the straps are sampled and every block takes its reset values (09 R150, R168). -/
def execResetnRelease (st : Straps) (s : State) : Outcome :=
  if s.mlc.held then .next (State.initial .pin st s.pending) else .next s

/-- TSU's values after a RESTART (01 R19, 02 R41). -/
def Tsu.restart (t : Tsu) : Tsu :=
  let c := LoopCfg.default
  let x := { t with
    cfg := c
    integ := c.limit t.integ
    holdRate := c.limit t.holdRate
    fLoop := if t.state = .freerun then c.freerun else c.limit t.fLoop
    holdCount := 0
    holdExpired := false
    slew := t.slew.abandon .restart
    staged := none
    lastErr := none
    lockRun := 0
    unlockRun := 0 }
  Tsu.refresh (if t.state.referenced then x.enterHoldover else x)

/-- ECU's values after a RESTART: the lines are sampled on (06 R123, log entry 2). -/
def Ecu.restart (e : Ecu) : Ecu :=
  { Ecu.initial with
    lines := allLines.foldl (fun v (l : Line) => v.set l (LineRec.initial (e.lines[l]).sample)) Ecu.initial.lines }

/-- SQ's values after a RESTART, parts 1 to 4 of 07 R141; `h` is the record's header. -/
def Sq.restart (q : Sq) (h : Hdr) : Sq :=
  { queue := [⟨q.nextSeq, h, .marker (.restart .request q.queue.length)⟩]
    nextSeq := q.nextSeq + 1
    backlog := Backlog.empty
    rotation := 23
    policy := .keepOldest
    prior := none
    watermark := 768 }

/-- Every block's RESTART values but the markers and notices it raises. MLC keeps what 09 R167 says; what becomes of
service and reply is the caller's. -/
def State.restarted (s : State) : State :=
  let t := s.setTsu s.tsu.restart
  { t with
    ref := Ref.initial
    eds := Eds.initial
    rle := Rle.initial
    drm := Drm.initial
    ecu := s.ecu.restart
    sq := s.sq.restart t.hdr
    stl := Stl.initial
    ntu := Ntu.initial
    mlc := { s.mlc with lastCause := .request, restartDue := false } }

/-- A RESTART takes effect: the blocks' values, then the marker and notice of a change of timescale state (09 R165, R166;
07 R141; 10 R179). -/
def State.restart (s : State) : State := (s.tsu.changed s.tsu.restart).foldl State.raiseOne s.restarted

/-- RESTART: addressed, it takes effect at its reply's completion; broadcast, at receipt (09 R165, R166). -/
def actRestart (r : Req) (s : State) : Served :=
  if r.broadcast then ⟨s.restart, .done, []⟩
  else ⟨s.setMlc { s.mlc with restartDue := true }, .done, []⟩

def kindRestart : ReqKind := ⟨0x03, false, 0⟩

def execRestart (r : Req) (s : State) : Outcome := .next (s.serve kindRestart r actRestart)

end Sys2Proof.Machine
end

