-- ==== Sys2Proof/Machine/Strobe.lean ====
section
/-! DEFINITION. The strobe latch (08): strobes, LATCH, READ STROBE. -/

namespace Sys2Proof.Machine

/-- A strobe fills the EMPTY latch and raises a STROBE notice; a FULL one ignores and counts it (08 R143, R144). -/
def State.strobe (s : State) (src : StrobeSource) : State :=
  match s.stl.latched with
  | some _ => s.setStl { s.stl with ignored := raiseBy 255 1 s.stl.ignored }
  | none =>
    (s.setStl { s.stl with latched := some ⟨s.now, s.tsu.gen, s.tsu.state, s.tsu.grade, src⟩ }).raiseNotice
      .strobe (.strobe src s.now)

/-- The sample of HSTB at the present tick: a strobe where it is high and the sample before was low. The first sample
after a reset is only the reference level (08 R142). -/
def State.sampleHstb (s : State) (level : Bool) : State :=
  let t := (s.setStl { s.stl with hstb := some level }).note .hstb
  if level && s.stl.hstb == some false then t.strobe .hstb else t

/-- The state at the next tick at which HSTB is still to be sampled (08 R142). -/
def State.hstbTick (s : State) : Option State := s.freeTick (s.hasTaken .pins || s.hasTaken .hstb)

/-- HSTB sampled low before it rises: where its latest sample is low already, or else at the next tick free for a sample
(08 R142; log entry 42). -/
def State.hstbLow (s : State) : Option State :=
  if s.stl.hstb = some false then some s else s.hstbTick.map (fun t => t.sampleHstb false)

/-- STROBE_EDGE: HSTB is sampled high at a tick, its sample before being low (08 R142 to R144; log entry 42). -/
def execStrobeEdge (s : State) : Outcome :=
  if s.mlc.held then .next s
  else match s.hstbLow.bind State.hstbTick with
    | none => .next s
    | some t => .next (t.sampleHstb true)

/-- LATCH: a strobe at request receipt; the reply tells whether it filled the latch (08 R145). -/
def actLatch (_ : Req) (s : State) : Served :=
  let t := s.strobe .latch
  match s.stl.latched with
  | none => ⟨t, .done, byte 0 ++ timeBytes s.now ++ [s.tsu.gen] ++ byte 0⟩
  | some _ => ⟨t, .done, byte 1 ++ zeros 11 ++ byte t.stl.ignored⟩

/-- The step comparison of a latched record: steps since, and the correction where it is known (08 R147). -/
def State.stepsSince (s : State) (x : Strobe) : Nat := (s.tsu.gen - x.gen).toNat

/-- The READ STROBE reply's content (08 R146, R147; R182). -/
def State.strobeBytes (s : State) : List Byte :=
  match s.stl.latched with
  | none => zeros 15 ++ [s.tsu.gen] ++ zeros 14 ++ byte s.stl.ignored
  | some x =>
    byte 1 ++ timeBytes x.time ++ [x.gen] ++ byte x.state.code ++ byte x.grade.code ++ byte x.source.code
      ++ [s.tsu.gen] ++ byte (s.stepsSince x)
      ++ presence 12 ((stepCorrection s.tsu.hist (s.stepsSince x)).map (beInt 12)) ++ byte s.stl.ignored

/-- READ STROBE empties the latch and the ignored count after taking them (08 R146). -/
def actReadStrobe (_ : Req) (s : State) : Served :=
  ⟨s.setStl { s.stl with latched := none, ignored := 0 }, .done, s.strobeBytes⟩

def kindLatch : ReqKind := ⟨0x05, false, 0⟩
def kindReadStrobe : ReqKind := ⟨0x06, true, 0⟩

def execLatch (r : Req) (s : State) : Outcome := .next (s.serve kindLatch r actLatch)
def execReadStrobe (r : Req) (s : State) : Outcome := .next (s.serve kindReadStrobe r actReadStrobe)

end Sys2Proof.Machine
end

