-- ==== Sys2Proof/Machine/Link.lean ====
section
/-! DEFINITION. The link controller's own commands (09): IDENTIFY and STATUS, the transmitter's events, the receiver's
events, and the receiver taking bytes. -/

namespace Sys2Proof.Machine

/-! ### IDENTIFY and STATUS (09 section 9.6) -/

/-- IDENTIFY (09 R162). -/
def actIdentify (_ : Req) (s : State) : Served :=
  ⟨s, .done, beNat 2 Config.vendorCode ++ beNat 2 Config.partNumber ++ byte 1 ++ byte s.mlc.addr.toNat
    ++ flagByte s.mlc.rateHigh ++ flagByte (s.mlc.mode == .shared) ++ byte 16 ++ byte 8 ++ byte 32
    ++ beNat 2 Config.queuePlaces ++ byte s.mlc.lastCause.code⟩

/-- The ten link counters in the order of 09 R164. -/
def LinkCounters.bytes (c : LinkCounters) : List Byte :=
  [c.requests, c.replies, c.notices, c.refusals, c.crc, c.framing, c.length, c.timeouts, c.busy, c.other].flatMap
    (beNat 2)

/-- The STATUS reply's content (09 R163). The selection is one code byte, NONE among its values, not an item that may be
absent (DESIGN CHOICE, unsafe; log entry 66). -/
def State.statusBytes (s : State) : List Byte :=
  byte s.tsu.state.code ++ byte s.tsu.grade.code ++ [s.tsu.gen] ++ flagByte s.tsu.holdExpired ++ flagByte s.tsu.quiet
    ++ [Config.selectionCode (selectionIndex s.ref.sel)] ++ byte s.ref.a.state.code ++ byte s.ref.b.state.code
    ++ allPorts.flatMap (fun p => byte (s.port p).state.code ++ byte (s.rack p).state.code)
    ++ beNat 2 s.sq.fill ++ beNat 4 s.sq.headSeq.toNat ++ beNat 4 s.sq.nextSeq.toNat ++ [s.sq.backlog.flags]
    ++ beNat 2 s.ntu.count ++ levelByte s.ntu.attn ++ flagByte s.stl.latched.isSome
    ++ s.mlc.ctr.bytes ++ byte s.mlc.lastCause.code

/-- STATUS; its clear flag sets the ten link counters to 0 after taking them (09 R163). -/
def actStatus (r : Req) (s : State) : Served :=
  ⟨if clearFlag r.payload 0 then s.setCtr LinkCounters.zero else s, .done, s.statusBytes⟩

def kindIdentify : ReqKind := ⟨0x01, true, 0⟩
def kindStatus : ReqKind := ⟨0x02, true, 1⟩

def execIdentify (r : Req) (s : State) : Outcome := .next (s.serve kindIdentify r actIdentify)
def execStatus (r : Req) (s : State) : Outcome := .next (s.serve kindStatus r actStatus)

/-- A request whose kind names none of the catalogue (09 R156, R158; 11 section 11.2). -/
def State.serveUnknown (s : State) (r : Req) : State :=
  s.throughLink r (fun s => s.receive false unknownKind r (fun t => Served.refuse t .unknown))

/-- UNKNOWN_REQUEST (09 R156). -/
def execUnknownRequest (r : Req) (s : State) : Outcome := .next (s.serveUnknown r)

/-! ### The transmitter (09 section 9.4) -/

/-- REPLY_START: in SHARED mode LINK_DE is asserted and the reply that owns the transmitter begins (09 R160). -/
def execReplyStart (s : State) : Outcome :=
  match s.mlc.mode, s.mlc.owner, s.mlc.reply with
  | .shared, .reply, some r =>
    if s.mlc.held || s.mlc.begun then .next s
    else .next (s.setMlc { s.mlc with
      begun := true, linkDE := true, tx := some (hubFrame s.mlc.addr r.kind r.id r.payload) })
  | .shared, .reply, none => .next s
  | .shared, .free, _ => .next s
  | .shared, .notice, _ => .next s
  | .point, _, _ => .next s

/-- The reply buffer emptied and service closed, the transmitter still the reply's (09 R160). -/
def Mlc.closeService (m : Mlc) : Mlc :=
  { m with
    service := false
    reply := none
    begun := false
    tx := none
    ctr := { m.ctr with replies := bump m.ctr.replies } }

/-- The transmitter becomes free and is handed out (09 R159). -/
def State.freeTransmitter (s : State) : State := (s.setMlc { s.mlc with owner := .free }).handOut

/-- REPLY_COMPLETION: a restart that waits takes effect, then the transmitter is handed out (09 R160, R165). -/
def execReplyCompletion (s : State) : Outcome :=
  if s.mlc.held || s.mlc.owner != .reply || !s.mlc.begun then .next s
  else
    let t := s.setMlc s.mlc.closeService
    .next (if s.mlc.restartDue then t.restart.freeTransmitter else t.freeTransmitter)

/-- NOTICE_COMPLETION: a waiting reply claims the transmitter, else it is handed out (09 R159, R161). -/
def execNoticeCompletion (s : State) : Outcome :=
  if s.mlc.held || s.mlc.owner != .notice then .next s
  else
    let t := s.setMlc { s.mlc with tx := none, ctr := { s.mlc.ctr with notices := bump s.mlc.ctr.notices } }
    match s.mlc.reply with
    | some r => .next (t.setMlc (t.mlc.claim r))
    | none => .next t.freeTransmitter

/-- LINK_DE_DEASSERT: in SHARED mode, one bit time after a reply's last stop bit (09 R151, R160). -/
def execLinkDeDeassert (s : State) : Outcome :=
  if s.mlc.mode = .shared ∧ s.mlc.owner = .free then .next (s.setMlc { s.mlc with linkDE := false }) else .next s

/-! ### The receiver's events (09 sections 9.2, 9.3) -/

/-- A bad byte: in HUNT it is discarded without counting, otherwise the frame in assembly is abandoned (09 R152). -/
def State.badByte (s : State) : State :=
  if s.mlc.rx.phase = .hunt then s else s.dropFrame { s.mlc.ctr with framing := bump s.mlc.ctr.framing }

/-- LINK_FRAMING_ERROR: a bad byte (09 R152). -/
def execLinkFramingError (s : State) : Outcome := if s.mlc.deaf then .next s else .next s.badByte

/-- LENGTH_ERROR: a frame whose length byte is above 248 (09 R153; log entry 35). -/
def execLengthError (s : State) : Outcome :=
  if s.mlc.deaf then .next s else .next (s.dropFrame { s.mlc.ctr with length := bump s.mlc.ctr.length })

/-- INTER_BYTE_TIMEOUT: the ticks pass until more than 250,000 have gone since the last byte without a start bit, and the
frame in assembly is abandoned. In HUNT nothing is timed (09 R153). -/
def execInterByteTimeout (s : State) : Outcome :=
  if s.mlc.held || s.mlc.rx.phase == .hunt || s.mlc.rx.inByte then .next s
  else match s.reachTick (s.mlc.rx.lastTick + longestGap + 1) with
    | none => .next s
    | some t => .next t.linkTimeout

/-- CRC_ERROR: a whole frame whose CRC is wrong (09 R154; log entry 35). -/
def execCrcError (s : State) : Outcome :=
  if s.mlc.deaf then .next s else .next (s.dropFrame { s.mlc.ctr with crc := bump s.mlc.ctr.crc })

/-- OTHER_FRAME: a frame of the other direction or for another hub (09 R154). -/
def execOtherFrame (s : State) : Outcome :=
  if s.mlc.deaf then .next s else .next (s.dropFrame { s.mlc.ctr with other := bump s.mlc.ctr.other })

/-- BUSY_DISCARD: a request while service is open (09 R155). -/
def execBusyDiscard (s : State) : Outcome :=
  if s.mlc.deaf || !s.mlc.service then .next s
  else .next (s.dropFrame { s.mlc.ctr with busy := bump s.mlc.ctr.busy })

/-- BROADCAST_QUERY: ignored and counted as other frames, or, while service is open, as a busy discard (09 R155,
R158). -/
def execBroadcastQuery (s : State) : Outcome :=
  if s.mlc.deaf then .next s
  else if s.mlc.service then .next (s.dropFrame { s.mlc.ctr with busy := bump s.mlc.ctr.busy })
  else .next (s.dropFrame { s.mlc.ctr with other := bump s.mlc.ctr.other })

/-! ### The receiver taking bytes (09 R152 to R154) -/

/-- The catalogue by kind byte (09 section 9.5; 11, Request payloads). -/
def catalogue : Nat → Option (ReqKind × (Req → State → Served))
  | 0x01 => some (kindIdentify, actIdentify)
  | 0x02 => some (kindStatus, actStatus)
  | 0x03 => some (kindRestart, actRestart)
  | 0x04 => some (kindReadTime, actReadTime)
  | 0x05 => some (kindLatch, actLatch)
  | 0x06 => some (kindReadStrobe, actReadStrobe)
  | 0x07 => some (kindSetTime, actSetTime)
  | 0x08 => some (kindAdjust, actAdjust)
  | 0x09 => some (kindSetLeap, actSetLeap)
  | 0x0A => some (kindReadLoop, actReadLoop)
  | 0x0B => some (kindSetReference, actSetReference)
  | 0x0C => some (kindReadReference, actReadReference)
  | 0x0D => some (kindSetLoop, actSetLoop)
  | 0x0E => some (kindScheduleEdit, actScheduleEdit)
  | 0x0F => some (kindScheduleCommit, actScheduleCommit)
  | 0x10 => some (kindScheduleDiscard, actScheduleDiscard)
  | 0x11 => some (kindReadSchedule, actReadSchedule)
  | 0x12 => some (kindSetCycle, actSetCycle)
  | 0x13 => some (kindSetPort, actSetPort)
  | 0x14 => some (kindReadPort, actReadPort)
  | 0x15 => some (kindSetDrift, actSetDrift)
  | 0x16 => some (kindReadRack, actReadRack)
  | 0x17 => some (kindReadRow, actReadRow)
  | 0x18 => some (kindSetLine, actSetLine)
  | 0x19 => some (kindReadLines, actReadLines)
  | 0x1A => some (kindSetQueue, actSetQueue)
  | 0x1B => some (kindStamps, actStamps)
  | 0x1C => some (kindSetNotices, actSetNotices)
  | 0x1D => some (kindPoll, actPoll)
  | _ => none

/-- A complete frame, from its address byte through its CRC: the checks of 09 R154, then its service by kind (R156). -/
def State.judgeFrame (s : State) (bs : List Byte) : State :=
  if !crcGood bs then s.dropFrame { s.mlc.ctr with crc := bump s.mlc.ctr.crc }
  else if fieldBit bs 0 7 || (field bs 0 1 % 16 != s.mlc.addr.toNat && field bs 0 1 % 16 != 15) then
    s.dropFrame { s.mlc.ctr with other := bump s.mlc.ctr.other }
  else
    let r : Req :=
      ⟨field bs 0 1 % 16 == 15, BitVec.ofNat 8 (field bs 2 1), (bs.drop 4).take (bs.length - 6)⟩
    match catalogue (field bs 1 1) with
    | some (k, act) => s.serve k r act
    | none => s.serveUnknown r

/-- The receiver with one more byte, taken at the present tick. -/
def State.keepByte (s : State) (ph : RxPhase) (bs : List Byte) : State :=
  s.setMlc { s.mlc with rx := ⟨ph, bs, s.mlc.rx.inByte, s.clk.ticks⟩ }

/-- A good byte by the receiver's state (09 R152, R153). -/
def State.goodByte (s : State) (b : Byte) : State :=
  let bs := s.mlc.rx.bytes ++ [b]
  match s.mlc.rx.phase with
  | .hunt => if b = startByte then s.keepByte .header [] else s
  | .header =>
    if bs.length < 4 then s.keepByte .header bs
    else if 248 < b.toNat then s.dropFrame { s.mlc.ctr with length := bump s.mlc.ctr.length }
    else s.keepByte .body bs
  | .body => if bs.length < 6 + field bs 3 1 then s.keepByte .body bs else s.judgeFrame bs

/-- Whether a byte is under way on LINK_RX that the receiver will take. -/
def State.setInByte (s : State) (b : Bool) : State := s.setMlc { s.mlc with rx := { s.mlc.rx with inByte := b } }

/-- A byte of LINK_RX whose stop bit has just been sampled: it is taken if its start bit fell while bytes were taken, and
they still are (09 R151, R152, R168). One that begins before LINK_DE is asserted in SHARED mode and ends under it is not
taken, and the silence of R153 is then timed from the last byte taken (DESIGN CHOICE, unsafe; log entry 61). -/
def State.linkByte (s : State) (b : SerialByte) : State :=
  let t := s.setInByte false
  if !s.mlc.rx.inByte || s.mlc.deaf then t
  else if b.stopHigh then t.goodByte b.value
  else t.badByte

/-- What LINK_RX shows at a tick: the byte that ends there, then the start bit that falls there (09 R151, R152). -/
def State.sampleLink (s : State) (x : SerialLine) : State :=
  let t := match x.ended with
    | none => s
    | some b => s.linkByte b
  if x.starts then t.setInByte !t.mlc.deaf else t

/-- A byte of a message line that ends at tick `n`. With no message in assembly it is discarded but for a start byte, and
one with a zero stop bit is discarded too (02 R21; log entry 46). -/
def InputRec.todByte (r : InputRec) (n : Nat) (b : SerialByte) : InputRec :=
  match r.assembling with
  | [] => if b.stopHigh && b.value == refStart then { r with assembling := [b.value], lastTick := n } else r
  | x :: xs =>
    if !b.stopHigh then r.abandon
    else if xs.length < 17 then { r with assembling := x :: xs ++ [b.value], lastTick := n }
    else r.takeMessage (refMessage (xs ++ [b.value]))

/-- What a message line shows at tick `n`: the byte that ends there, then the start bit that falls there. A byte whose
start bit was not seen is not taken (02 R21). -/
def InputRec.sampleTod (r : InputRec) (n : Nat) (x : SerialLine) : InputRec :=
  let y := match x.ended with
    | none => r
    | some b => if r.inByte then { r with inByte := false }.todByte n b else r
  if x.starts then { y with inByte := true } else y

/-- A message line at the present tick. -/
def State.sampleTod (s : State) (i : Input) (x : SerialLine) : State := s.setInput i ((s.input i).sampleTod s.clk.ticks x)

/-- What the pins show at a tick is taken, once: lines in line order, HSTB, the message lines, LINK_RX (06 R108, 08 R142,
02 R21, 09 R152). So a line's edge, an HSTB edge and a message's end come before a request whose last byte ends at their
tick (06 R121, R122, 08 R144; DESIGN CHOICE, unsafe; log entry 58). -/
def State.samplePins (s : State) (x : Pins) : State :=
  let t := allLines.foldl (fun s l => s.sampleLine l (x.lines.getLsbD l.val)) (s.note .pins)
  (((t.sampleHstb x.hstb).sampleTod .a x.todA).sampleTod .b x.todB).sampleLink x.linkRx

/-- OSCILLATOR_TICK: `quiet` ticks without an event, then one at which the pins are sampled. A tick that rolls ends them
early, and its boundary work comes before the samples (01 R1, R4). -/
def execOscillatorTick (quiet : Nat) (x : Pins) (s : State) : Outcome :=
  if s.mlc.held then .next s
  else if quiet + 1 < s.ticksToRoll then .next ((s.runTicks (quiet + 1)).samplePins x)
  else .next ((s.roll false x.receiving).samplePins x)

end Sys2Proof.Machine
end

