-- ==== Sys2Proof/Machine/Dispatch.lean ====
section
/-! DEFINITION. The meaning of each command: one arm per constructor of Instr. -/

namespace Sys2Proof.Machine

/-- A command's effect on everything but the queue of commands. -/
def exec (i : Instr) (s : State) : Host.Outcome State Fault Refusal :=
  match i with
  | .powerOn straps => Sys2Proof.Machine.execPowerOn straps s
  | .pinReset => Sys2Proof.Machine.execPinReset s
  | .secondBoundary roll => Sys2Proof.Machine.execSecondBoundary roll s
  | .suppressedRoll => Sys2Proof.Machine.execSuppressedRoll s
  | .cycleStart sec cycle => Sys2Proof.Machine.execCycleStart sec cycle s
  | .referencePulse x => Sys2Proof.Machine.execReferencePulse x s
  | .messageArrival x body => Sys2Proof.Machine.execMessageArrival x body s
  | .messageFramingError x => Sys2Proof.Machine.execMessageFramingError x s
  | .messageGapTimeout x => Sys2Proof.Machine.execMessageGapTimeout x s
  | .messageWindowExpiry x => Sys2Proof.Machine.execMessageWindowExpiry x s
  | .missingPulseExpiry x => Sys2Proof.Machine.execMissingPulseExpiry x s
  | .edgeEmission p entry sec => Sys2Proof.Machine.execEdgeEmission p entry sec s
  | .tickEmission entry sec => Sys2Proof.Machine.execTickEmission entry sec s
  | .cycleCompensatedInstant p sec cycle receiving => Sys2Proof.Machine.execCycleCompensatedInstant p sec cycle receiving s
  | .echoReceived p frame edgeAgo => Sys2Proof.Machine.execEchoReceived p frame edgeAgo s
  | .callReceived p => Sys2Proof.Machine.execCallReceived p s
  | .rackFrameRejected p check => Sys2Proof.Machine.execRackFrameRejected p check s
  | .replyWindowExpiry p receiving => Sys2Proof.Machine.execReplyWindowExpiry p receiving s
  | .lineEdge l level => Sys2Proof.Machine.execLineEdge l level s
  | .qualificationExpiry l => Sys2Proof.Machine.execQualificationExpiry l s
  | .strobeEdge => Sys2Proof.Machine.execStrobeEdge s
  | .admission => Sys2Proof.Machine.execAdmission s
  | .linkFramingError => Sys2Proof.Machine.execLinkFramingError s
  | .lengthError => Sys2Proof.Machine.execLengthError s
  | .interByteTimeout => Sys2Proof.Machine.execInterByteTimeout s
  | .crcError => Sys2Proof.Machine.execCrcError s
  | .otherFrame => Sys2Proof.Machine.execOtherFrame s
  | .busyDiscard => Sys2Proof.Machine.execBusyDiscard s
  | .unknownRequest r => Sys2Proof.Machine.execUnknownRequest r s
  | .broadcastQuery => Sys2Proof.Machine.execBroadcastQuery s
  | .identify r => Sys2Proof.Machine.execIdentify r s
  | .status r => Sys2Proof.Machine.execStatus r s
  | .restart r => Sys2Proof.Machine.execRestart r s
  | .readTime r => Sys2Proof.Machine.execReadTime r s
  | .latch r => Sys2Proof.Machine.execLatch r s
  | .readStrobe r => Sys2Proof.Machine.execReadStrobe r s
  | .setTime r => Sys2Proof.Machine.execSetTime r s
  | .adjust r => Sys2Proof.Machine.execAdjust r s
  | .setLeap r => Sys2Proof.Machine.execSetLeap r s
  | .readLoop r => Sys2Proof.Machine.execReadLoop r s
  | .setReference r => Sys2Proof.Machine.execSetReference r s
  | .readReference r => Sys2Proof.Machine.execReadReference r s
  | .setLoop r => Sys2Proof.Machine.execSetLoop r s
  | .scheduleEdit r => Sys2Proof.Machine.execScheduleEdit r s
  | .scheduleCommit r => Sys2Proof.Machine.execScheduleCommit r s
  | .scheduleDiscard r => Sys2Proof.Machine.execScheduleDiscard r s
  | .readSchedule r => Sys2Proof.Machine.execReadSchedule r s
  | .setCycle r => Sys2Proof.Machine.execSetCycle r s
  | .setPort r => Sys2Proof.Machine.execSetPort r s
  | .readPort r => Sys2Proof.Machine.execReadPort r s
  | .setDrift r => Sys2Proof.Machine.execSetDrift r s
  | .readRack r => Sys2Proof.Machine.execReadRack r s
  | .readRow r => Sys2Proof.Machine.execReadRow r s
  | .setLine r => Sys2Proof.Machine.execSetLine r s
  | .readLines r => Sys2Proof.Machine.execReadLines r s
  | .setQueue r => Sys2Proof.Machine.execSetQueue r s
  | .stamps r => Sys2Proof.Machine.execStamps r s
  | .setNotices r => Sys2Proof.Machine.execSetNotices r s
  | .poll r => Sys2Proof.Machine.execPoll r s
  | .replyStart => Sys2Proof.Machine.execReplyStart s
  | .replyCompletion => Sys2Proof.Machine.execReplyCompletion s
  | .noticeCompletion => Sys2Proof.Machine.execNoticeCompletion s
  | .oscillatorTick quietTicks pins => Sys2Proof.Machine.execOscillatorTick quietTicks pins s
  | .resetnRelease straps => Sys2Proof.Machine.execResetnRelease straps s
  | .linkDeDeassert => Sys2Proof.Machine.execLinkDeDeassert s
  | .rackReceiverReopen p => Sys2Proof.Machine.execRackReceiverReopen p s

end Sys2Proof.Machine
end

