-- ==== Sys2Proof/Safety.lean ====
section
/-! DEFINITION. What the manual promises of every state the hub is in: the invariants that the statements are about. -/

namespace Sys2Proof.Machine

/-- The records from head to tail carry consecutive sequence numbers, and `n` follows the last (07 R125). -/
def consecutive (n : BitVec 32) : List Stamp → Prop
  | [] => True
  | [r] => r.seq + 1 = n
  | r :: q :: rest => r.seq + 1 = q.seq ∧ consecutive n (q :: rest)

/-- Whether a record is of type LOCAL or RACK. -/
def Body.ordinary : Body → Bool
  | .localLine _ _ _ => true
  | .rackMark _ _ _ _ _ => true
  | .marker _ => false

/-- The stamp queue's promises: consecutive sequences (07 R125), at most 1,024 records, at most 1,008 of types LOCAL
and RACK (07 R131). -/
structure Sq.Inv (q : Sq) : Prop where
  sequences : consecutive q.nextSeq q.queue
  places : q.queue.length ≤ 1024
  ordinary : q.queue.countP (fun r => r.body.ordinary) ≤ 1008

/-- A rack record is UNSEEN exactly when its port is DOWN, and LOST exactly when its port is FAULTED (05 R82). -/
def State.RecordsFollowPorts (s : State) : Prop :=
  ∀ p : Port, ((s.rack p).state = .unseen ↔ (s.port p).state = .down)
    ∧ ((s.rack p).state = .lost ↔ (s.port p).state = .faulted)

/-- Each applied compensation, and each initial compensation it may be set to, lies in 0..20,000 ns (03 R53, R54). -/
def State.CompensationInRange (s : State) : Prop :=
  ∀ p : Port, s.comp p ≤ 20000 ∧ (s.port p).initComp ≤ 20000

/-- The rates: Fmax and the freerun rate in their ranges, F_loop and I within ±Fmax, F_total the limited sum of F_loop
and the slew term (01 R2). -/
structure Tsu.RatesInRange (t : Tsu) : Prop where
  limit : 1000 ≤ t.cfg.fmax ∧ t.cfg.fmax ≤ 200000000
  freerun : -t.cfg.fmax ≤ t.cfg.freerun ∧ t.cfg.freerun ≤ t.cfg.fmax
  loop : -t.cfg.fmax ≤ t.fLoop ∧ t.fLoop ≤ t.cfg.fmax
  integral : -t.cfg.fmax ≤ t.integ ∧ t.integ ≤ t.cfg.fmax
  total : t.fTotal = clamp (-200000000) 200000000 (t.fLoop + 1000 * t.slew.term)

/-- The slew term lies between 0 and the remainder, so the remainder never changes sign, and no slew leaves no term
(01 R14). -/
def Slew.TermWithin (w : Slew) : Prop :=
  (0 ≤ w.term ∧ w.term ≤ w.remainder) ∨ (w.remainder ≤ w.term ∧ w.term ≤ 0)

/-- The timescale value has its nanoseconds below 10^9 and its fraction below 2^32 (01 section 1.1). -/
def Ts.InRange (t : Ts) : Prop := t.ns < 1000000000 ∧ t.frac < 4294967296

/-- While a reference is selected no SET TIME is staged and no slew runs (01 R6, R10, R13, R15); LOCKED has set the
locked-since-reset flag and left an entry in the holdover ring (R7). -/
structure Tsu.ReferenceOwns (t : Tsu) : Prop where
  staged : t.state.referenced = true → t.staged = none
  slew : t.state.referenced = true → t.slew.remainder = 0
  locked : t.state = .locked → t.lockedSince = true ∧ t.ring ≠ []

/-- The suppressed-roll mark is set only while the quiet interval is open: a step sets both, and the boundary that closes
the interval clears the mark (01 R4, R11, R12). -/
def Tsu.MarkInQuiet (t : Tsu) : Prop := t.mark ≠ none → t.quiet = true

/-- The divisor in force and any staged one are permitted ones (04 R77). -/
structure Rle.DivisorsPermitted (r : Rle) : Prop where
  inForce : r.cycle.divisor ∈ [1, 2, 4, 8, 16, 32, 64]
  staged : ∀ c : CycleCfg, r.staged = some c → c.divisor ∈ [1, 2, 4, 8, 16, 32, 64]

/-- No two used RISE or FALL entries of a schedule share an offset and a port (03 R46). -/
def ConflictFree (xs : Vector Entry 32) : Prop :=
  ∀ i j : EntryIx, i.val < j.val → xs[i].conflicts xs[j] = false

/-- The active schedule is conflict-free, and so is a pending one that is armed (03 R44, R46). -/
def Eds.SchedulesSound (e : Eds) : Prop := ConflictFree e.active ∧ (e.armed = true → ConflictFree e.pend)

/-- ATTN is asserted exactly while the pending set holds a deliverable entry (10 R177). -/
def Ntu.AttnFollows (n : Ntu) : Prop := n.attn = n.anyDeliverable

/-- Each class pointer names a position of its class (10 R172, R173). -/
def Ntu.PointersInRange (n : Ntu) : Prop := ∀ c : Fin 6, n.pointers[c] < classSize c

/-- A selection is held exactly in ACQUIRING and LOCKED (01 R6). -/
def State.SelectionMatches (s : State) : Prop := s.tsu.state.referenced = s.ref.sel.isSome

/-- The buffers keep their places: departure logs 16, mark buffers 24, history rings 16, holdover ring 64, step history
4 (04 R64, 06 R115, 05 R93, 01 R7, R11). -/
structure State.BuffersBounded (s : State) : Prop where
  logs : ∀ p : Port, (s.port p).log.length ≤ 16
  marks : ∀ p : Port, (s.marks p).buf.length ≤ 24
  histories : ∀ p : Port, (s.rack p).history.length ≤ 16
  ring : s.tsu.ring.length ≤ 64
  steps : s.tsu.hist.length ≤ 4

/-- A DOWN port has its line LOW, no open exchange, no frame on its line, its receiver closed, an empty departure log and
no marks (03 R50; 04 R58, R72; 06 R116). -/
def State.DownPortsRest (s : State) : Prop :=
  ∀ p : Port, (s.port p).state = .down →
    s.eds.level[p] = false ∧ (s.port p).exch = none ∧ (s.port p).tx = none ∧ (s.port p).rx = .closed
      ∧ (s.port p).log = [] ∧ (s.marks p).buf = []

/-- Each rack record lies in its ranges, and the round-trip maximum in its own (05 section 5.1, R91, R95, R104). -/
structure State.RecordsInRange (s : State) : Prop where
  roundTrip : s.drm.cfg.rtMax ≤ 500000
  delay : ∀ p : Port, 0 ≤ (s.rack p).delay ∧ (s.rack p).delay ≤ 250000 ∧ (s.rack p).delayCount ≤ 8
  offset : ∀ p : Port, -500000000 ≤ (s.rack p).offset ∧ (s.rack p).offset ≤ 500000000
  rate : ∀ p : Port, -100000000 ≤ (s.rack p).rate ∧ (s.rack p).rate ≤ 100000000 ∧ (s.rack p).alarmIn ≤ 65535
  runs : ∀ p : Port, (s.rack p).outlierRun ≤ 4 ∧ (s.rack p).stepHold ≤ 4 ∧ (s.rack p).watchRun ≤ 255
    ∧ (s.rack p).alarmRun ≤ 255 ∧ (s.rack p).quietRun ≤ 255

/-- No message and no frame is in assembly on a serial line, so that no silence there is timed (02 R21, 09 R153). -/
structure State.LinesIdle (s : State) : Prop where
  a : s.ref.a.assembling = []
  b : s.ref.b.assembling = []
  link : s.mlc.rx.phase = .hunt

/-! ### Words that the statements share -/

/-- The request kind and the request of a command that is the receipt of a catalogued request (09 section 9.5). -/
def requestOf : Instr → Option (ReqKind × Req)
  | .powerOn _ => none
  | .pinReset => none
  | .secondBoundary _ => none
  | .suppressedRoll => none
  | .cycleStart _ _ => none
  | .referencePulse _ => none
  | .messageArrival _ _ => none
  | .messageFramingError _ => none
  | .messageGapTimeout _ => none
  | .messageWindowExpiry _ => none
  | .missingPulseExpiry _ => none
  | .edgeEmission _ _ _ => none
  | .tickEmission _ _ => none
  | .cycleCompensatedInstant _ _ _ _ => none
  | .echoReceived _ _ _ => none
  | .callReceived _ => none
  | .rackFrameRejected _ _ => none
  | .replyWindowExpiry _ _ => none
  | .lineEdge _ _ => none
  | .qualificationExpiry _ => none
  | .strobeEdge => none
  | .admission => none
  | .linkFramingError => none
  | .lengthError => none
  | .interByteTimeout => none
  | .crcError => none
  | .otherFrame => none
  | .busyDiscard => none
  | .unknownRequest _ => none
  | .broadcastQuery => none
  | .identify r => some (kindIdentify, r)
  | .status r => some (kindStatus, r)
  | .restart r => some (kindRestart, r)
  | .readTime r => some (kindReadTime, r)
  | .latch r => some (kindLatch, r)
  | .readStrobe r => some (kindReadStrobe, r)
  | .setTime r => some (kindSetTime, r)
  | .adjust r => some (kindAdjust, r)
  | .setLeap r => some (kindSetLeap, r)
  | .readLoop r => some (kindReadLoop, r)
  | .setReference r => some (kindSetReference, r)
  | .readReference r => some (kindReadReference, r)
  | .setLoop r => some (kindSetLoop, r)
  | .scheduleEdit r => some (kindScheduleEdit, r)
  | .scheduleCommit r => some (kindScheduleCommit, r)
  | .scheduleDiscard r => some (kindScheduleDiscard, r)
  | .readSchedule r => some (kindReadSchedule, r)
  | .setCycle r => some (kindSetCycle, r)
  | .setPort r => some (kindSetPort, r)
  | .readPort r => some (kindReadPort, r)
  | .setDrift r => some (kindSetDrift, r)
  | .readRack r => some (kindReadRack, r)
  | .readRow r => some (kindReadRow, r)
  | .setLine r => some (kindSetLine, r)
  | .readLines r => some (kindReadLines, r)
  | .setQueue r => some (kindSetQueue, r)
  | .stamps r => some (kindStamps, r)
  | .setNotices r => some (kindSetNotices, r)
  | .poll r => some (kindPoll, r)
  | .replyStart => none
  | .replyCompletion => none
  | .noticeCompletion => none
  | .oscillatorTick _ _ => none
  | .resetnRelease _ => none
  | .linkDeDeassert => none
  | .rackReceiverReopen _ => none

/-- Nothing keeps the hub from judging a request of a kind: it takes bytes, no service is open, and the payload has the
kind's length (09 R151, R154 to R156). A query is addressed (R158). -/
structure State.Takes (s : State) (k : ReqKind) (r : Req) : Prop where
  hears : s.mlc.deaf = false
  idle : s.mlc.service = false
  length : r.payload.length = k.length
  addressed : k.query = true → r.broadcast = false

/-- The link after a judged request: the frame has left the receiver, the request and a refusal are counted (09 R154,
R164). -/
def Mlc.counted (m : Mlc) (res : Result) : Mlc :=
  { m with
    rx := { m.rx with phase := .hunt, bytes := [], inByte := false }
    ctr :=
      { m.ctr with
        requests := bump m.ctr.requests
        refusals := if res.refuses then bump m.ctr.refusals else m.ctr.refusals } }

/-- The link with service open and a reply formed: the reply waits behind a notice frame, begins at once in POINT mode,
and in SHARED mode waits for LINK_DE (09 R155, R159, R160). -/
def Mlc.answering (m : Mlc) (f : Reply) : Mlc :=
  match m.owner, m.mode with
  | .notice, _ => { m with service := true, reply := some f }
  | .free, .point =>
    { m with
      service := true
      reply := some f
      owner := .reply
      begun := true
      tx := some (hubFrame m.addr f.kind f.id f.payload) }
  | .reply, .point =>
    { m with
      service := true
      reply := some f
      owner := .reply
      begun := true
      tx := some (hubFrame m.addr f.kind f.id f.payload) }
  | .free, .shared => { m with service := true, reply := some f, owner := .reply, begun := false }
  | .reply, .shared => { m with service := true, reply := some f, owner := .reply, begun := false }

/-- The link after a judged request of a reply kind, with its result and the reply's content after the result byte; a
broadcast is counted and not answered (09 R156 to R158). -/
def Mlc.concluded (m : Mlc) (replyKind : Byte) (r : Req) (res : Result) (body : List Byte) : Mlc :=
  if r.broadcast then m.counted res
  else (m.counted res).answering ⟨replyKind, r.id, BitVec.ofNat 8 res.code :: body⟩

/-- `t` is `s` with the link concluded: what a request leaves that touches no other block. -/
def State.concluded (s : State) (replyKind : Byte) (r : Req) (res : Result) (body : List Byte) : State :=
  s.setMlc (s.mlc.concluded replyKind r res body)

end Sys2Proof.Machine
end

