-- ==== Sys2Proof/Certificates/Slice0/Obligations.lean ====
section
/-! DEFINITION. The statements for the provers, from the numbered rules of spec/. A statement about a command says the
next state it answers, which is also its frame: every part that the equation does not name is as before. -/

open Sys2Proof Sys2Proof.Machine

/-! ### The queue of commands and the link -/

/-- A step takes the command at the front of the queue and executes it with the queue's rest.
The queue of commands is the model's own (log entries 37 and 39). -/
def Obligations.StepRunsTheFrontCommand : Prop :=
  ∀ (c : Instr) (cs : List Instr) (s : State), s.pending = c :: cs → step s = exec c (s.setPending cs)

/-- Every command answers a next state in every state: one for an event that the state cannot have leaves it as it is, so
that nothing faults. That is the model's choice (log entry 38), and so is the queue of waiting commands, which every command
leaves alone (log entries 37 and 39). -/
def Obligations.EveryCommandCompletesAndKeepsTheQueue : Prop :=
  ∀ (c : Instr) (s : State), ∃ t : State, exec c s = .next t ∧ t.pending = s.pending

/-- 09 R154 and R155: while service is open every request, a broadcast query among them, is discarded as busy and does
nothing else.
09 R156 to R158: a request of the wrong length is answered MALFORMED, a request of no catalogued kind UNKNOWN with reply
kind FFH (11 section 11.2); neither touches a block.
09 R158: a query sent to broadcast is ignored and counted as another frame; no broadcast opens service or forms a reply.
That a request's command stands for the receipt of its whole frame is the model's choice (log entry 35). -/
def Obligations.RequestsAreJudgedInTheirOrder : Prop :=
  (∀ s : State, s.mlc.deaf = false → s.mlc.service = true →
      (∀ (c : Instr) (k : ReqKind) (r : Req), requestOf c = some (k, r) → r.payload.length ≤ 248 →
        exec c s = .next (s.dropFrame { s.mlc.ctr with busy := bump s.mlc.ctr.busy }))
      ∧ (∀ r : Req, r.payload.length ≤ 248 →
        exec (.unknownRequest r) s = .next (s.dropFrame { s.mlc.ctr with busy := bump s.mlc.ctr.busy }))
      ∧ exec .busyDiscard s = .next (s.dropFrame { s.mlc.ctr with busy := bump s.mlc.ctr.busy })
      ∧ exec .broadcastQuery s = .next (s.dropFrame { s.mlc.ctr with busy := bump s.mlc.ctr.busy }))
  ∧ (∀ s : State, s.mlc.deaf = false → s.mlc.service = false →
      (∀ (c : Instr) (k : ReqKind) (r : Req), requestOf c = some (k, r) → r.payload.length ≤ 248 →
        r.payload.length ≠ k.length → (k.query = true → r.broadcast = false) →
        exec c s = .next (s.concluded (k.code + 0x80) r .malformed []))
      ∧ (∀ r : Req, r.payload.length ≤ 248 → exec (.unknownRequest r) s = .next (s.concluded 0xFF r .unknown [])))
  ∧ (∀ s : State, s.mlc.deaf = false → s.mlc.service = false →
      (∀ (c : Instr) (k : ReqKind) (r : Req), requestOf c = some (k, r) → r.payload.length ≤ 248 → r.broadcast = true →
        k.query = true → exec c s = .next (s.dropFrame { s.mlc.ctr with other := bump s.mlc.ctr.other }))
      ∧ exec .broadcastQuery s = .next (s.dropFrame { s.mlc.ctr with other := bump s.mlc.ctr.other })
      ∧ (∀ (c : Instr) (k : ReqKind) (r : Req), requestOf c = some (k, r) → r.payload.length ≤ 248 → r.broadcast = true →
        ∃ t : State, exec c s = .next t ∧ t.mlc.service = false ∧ t.mlc.reply = s.mlc.reply))

/-- 09 R152 to R154: each error of the receiver raises its own counter, takes the receiver to HUNT with nothing in assembly,
and changes nothing else. A bad byte counts in HEADER and BODY only, and the inter-byte timeout is timed there only: it
comes at the first tick more than 250,000 after the last byte's end (the model's inference, log entry 34). That
LENGTH_ERROR, CRC_ERROR and OTHER_FRAME stand for the receipt of such a whole frame, whatever bytes the model has recorded,
is the model's choice (log entry 35), and so is that the command lets the ticks up to the timeout pass (log entry 4). -/
def Obligations.ReceiverErrorsCountAndHunt : Prop :=
  (∀ s : State, s.mlc.deaf = false →
      (s.mlc.rx.phase = .hunt → exec .linkFramingError s = .next s)
      ∧ (s.mlc.rx.phase ≠ .hunt →
        exec .linkFramingError s = .next (s.dropFrame { s.mlc.ctr with framing := bump s.mlc.ctr.framing }))
      ∧ exec .lengthError s = .next (s.dropFrame { s.mlc.ctr with length := bump s.mlc.ctr.length })
      ∧ exec .crcError s = .next (s.dropFrame { s.mlc.ctr with crc := bump s.mlc.ctr.crc })
      ∧ exec .otherFrame s = .next (s.dropFrame { s.mlc.ctr with other := bump s.mlc.ctr.other }))
  ∧ (∀ s : State, s.mlc.held = false →
      (s.mlc.rx.phase = .hunt → exec .interByteTimeout s = .next s)
      ∧ (s.mlc.rx.phase ≠ .hunt → s.mlc.rx.inByte = false → s.ref.a.assembling = [] → s.ref.b.assembling = [] →
        s.clk.ticks ≤ s.mlc.rx.lastTick + 250000 →
        s.mlc.rx.lastTick + 250001 - s.clk.ticks < s.ticksToRoll →
        ∃ (v : Ts) (c : Clock), c.ticks = s.mlc.rx.lastTick + 250001 ∧ v.sec = s.tsu.ts.sec
          ∧ exec .interByteTimeout s =
            .next (((s.setTsu { s.tsu with ts := v }).setClk c).dropFrame
              { s.mlc.ctr with timeouts := bump s.mlc.ctr.timeouts })))

/-- The bytes of a host's frame from its address byte through its CRC (11 section 11.2): direction host to hub, the hub's
address or 15, kind, id, length, payload. -/
def hostFrame (addr : BitVec 3) (kind : Byte) (r : Req) : List Byte :=
  withCrc ([if r.broadcast then 15 else addr.setWidth 8, kind, r.id, BitVec.ofNat 8 r.payload.length] ++ r.payload)

/-- The request catalogue (09 section 9.5) with the kind bytes and payload lengths of 11 section 11.2: each request's command,
its kind byte, whether a broadcast of it is ignored, its one payload length. -/
def requestTable : List ((Req → Instr) × ReqKind) := [
  (.identify, ⟨0x01, true, 0⟩), (.status, ⟨0x02, true, 1⟩), (.restart, ⟨0x03, false, 0⟩),
  (.readTime, ⟨0x04, true, 0⟩), (.latch, ⟨0x05, false, 0⟩), (.readStrobe, ⟨0x06, true, 0⟩),
  (.setTime, ⟨0x07, false, 6⟩), (.adjust, ⟨0x08, false, 9⟩), (.setLeap, ⟨0x09, false, 9⟩),
  (.readLoop, ⟨0x0A, true, 0⟩), (.setReference, ⟨0x0B, false, 12⟩), (.readReference, ⟨0x0C, true, 1⟩),
  (.setLoop, ⟨0x0D, false, 27⟩), (.scheduleEdit, ⟨0x0E, false, 9⟩), (.scheduleCommit, ⟨0x0F, false, 0⟩),
  (.scheduleDiscard, ⟨0x10, false, 0⟩), (.readSchedule, ⟨0x11, true, 3⟩), (.setCycle, ⟨0x12, false, 5⟩),
  (.setPort, ⟨0x13, false, 6⟩), (.readPort, ⟨0x14, true, 2⟩), (.setDrift, ⟨0x15, false, 30⟩),
  (.readRack, ⟨0x16, true, 2⟩), (.readRow, ⟨0x17, true, 0⟩), (.setLine, ⟨0x18, false, 7⟩),
  (.readLines, ⟨0x19, true, 3⟩), (.setQueue, ⟨0x1A, false, 3⟩), (.stamps, ⟨0x1B, true, 5⟩),
  (.setNotices, ⟨0x1C, false, 2⟩), (.poll, ⟨0x1D, true, 0⟩)]

/-- 09 R151 to R154: an oscillator tick at which only LINK_RX shows something. A start bit is noted where bytes are taken. A
byte whose start bit was not noted, or that ends at a deaf receiver, is not taken (the model's inference and choice, log
entries 34 and 61). A bad byte is discarded in HUNT and ends the frame elsewhere. A good byte starts a frame (A7H in HUNT),
joins its header, opens its body with a length byte up to 248, joins its body, or completes it, and the frame is then
judged. `u` is the state at that tick: the ticks before it may have ended a silent frame (R153).
09 R154, R156; 11 section 11.2: a complete frame with a bad CRC is counted so; one of the other direction or for another hub
is counted as another frame; one for the hub is served as the request that its kind byte names, with its id and payload, and
one of no catalogued kind as unknown.
09 section 9.5; 11 section 11.2: the kind bytes 01H to 1DH name the 29 requests as `requestTable` lists them, each with its
payload length, and a frame of a kind does what that request's command does. A frame of any other kind does what
UNKNOWN_REQUEST does. That a request's command stands for the receipt of its whole frame is the model's choice (log entry
35). -/
def Obligations.LinkBytesBecomeFramesAndRequests : Prop :=
  (∀ (s : State) (n : Nat) (x : Pins), s.mlc.held = false → n + 1 < s.ticksToRoll → s.stl.hstb = some x.hstb →
      x.todA = ⟨none, false⟩ → x.todB = ⟨none, false⟩ → (∀ l : Line, (s.line l).sample = x.lines.getLsbD l.val) →
      let u := s.runTicks (n + 1)
      let m := u.mlc
      let leaves := fun (y : Mlc) => Host.Outcome.next ((u.setClk { u.clk with taken := [.hstb, .pins] }).setMlc y)
      let hunting : Receiver := { m.rx with phase := .hunt, bytes := [], inByte := false }
      (x.linkRx = ⟨none, true⟩ →
        exec (.oscillatorTick n x) s = leaves { m with rx := { m.rx with inByte := !m.deaf } })
      ∧ ∀ b : SerialByte, x.linkRx = ⟨some b, false⟩ →
        (m.rx.inByte = false ∨ m.deaf = true →
          exec (.oscillatorTick n x) s = leaves { m with rx := { m.rx with inByte := false } })
        ∧ (m.rx.inByte = true → m.deaf = false →
          let bs := m.rx.bytes ++ [b.value]
          (b.stopHigh = false → m.rx.phase = .hunt →
            exec (.oscillatorTick n x) s = leaves { m with rx := { m.rx with inByte := false } })
          ∧ (b.stopHigh = false → m.rx.phase ≠ .hunt → exec (.oscillatorTick n x) s =
            leaves { m with rx := hunting, ctr := { m.ctr with framing := bump m.ctr.framing } })
          ∧ (b.stopHigh = true → m.rx.phase = .hunt → b.value = 0xA7 →
            exec (.oscillatorTick n x) s = leaves { m with rx := ⟨.header, [], false, u.clk.ticks⟩ })
          ∧ (b.stopHigh = true → m.rx.phase = .hunt → b.value ≠ 0xA7 →
            exec (.oscillatorTick n x) s = leaves { m with rx := { m.rx with inByte := false } })
          ∧ (b.stopHigh = true → m.rx.phase = .header → m.rx.bytes.length < 3 →
            exec (.oscillatorTick n x) s = leaves { m with rx := ⟨.header, bs, false, u.clk.ticks⟩ })
          ∧ (b.stopHigh = true → m.rx.phase = .header → 3 ≤ m.rx.bytes.length → b.value.toNat ≤ 248 →
            exec (.oscillatorTick n x) s = leaves { m with rx := ⟨.body, bs, false, u.clk.ticks⟩ })
          ∧ (b.stopHigh = true → m.rx.phase = .header → 3 ≤ m.rx.bytes.length → 248 < b.value.toNat →
            exec (.oscillatorTick n x) s =
              leaves { m with rx := hunting, ctr := { m.ctr with length := bump m.ctr.length } })
          ∧ (b.stopHigh = true → m.rx.phase = .body → bs.length < 6 + field bs 3 1 →
            exec (.oscillatorTick n x) s = leaves { m with rx := ⟨.body, bs, false, u.clk.ticks⟩ })
          ∧ (b.stopHigh = true → m.rx.phase = .body → 6 + field bs 3 1 ≤ bs.length →
            exec (.oscillatorTick n x) s = .next (((u.setClk { u.clk with taken := [.hstb, .pins] }).setMlc
              { m with rx := { m.rx with inByte := false } }).judgeFrame bs))))
  ∧ (∀ (s : State) (bs : List Byte),
      (crcGood bs = false → s.judgeFrame bs = s.dropFrame { s.mlc.ctr with crc := bump s.mlc.ctr.crc })
      ∧ (crcGood bs = true →
        128 ≤ field bs 0 1 ∨ (field bs 0 1 % 16 ≠ s.mlc.addr.toNat ∧ field bs 0 1 % 16 ≠ 15) →
        s.judgeFrame bs = s.dropFrame { s.mlc.ctr with other := bump s.mlc.ctr.other }))
  ∧ (∀ (s : State) (r : Req) (kind : Byte), r.payload.length ≤ 248 →
      s.judgeFrame (hostFrame s.mlc.addr kind r) =
        match catalogue kind.toNat with
        | some (k, act) => s.serve k r act
        | none => s.serveUnknown r)
  ∧ (∀ x ∈ requestTable, ∀ r : Req, requestOf (x.1 r) = some (x.2, r))
  ∧ (∀ (s : State) (c : Instr) (k : ReqKind) (r : Req), requestOf c = some (k, r) → r.payload.length ≤ 248 →
      exec c s = .next (s.judgeFrame (hostFrame s.mlc.addr k.code r)))
  ∧ (∀ (s : State) (r : Req) (kind : Byte), r.payload.length ≤ 248 → kind.toNat = 0 ∨ 29 < kind.toNat →
      exec (.unknownRequest r) s = .next (s.judgeFrame (hostFrame s.mlc.addr kind r)))

/-- 09 R162, R163; 08 R148; 01 R18; 02 R38; 03 R56; 04 R79; 05 R105, R106; 06 R122: a query without a clear flag answers
DONE and changes no block. The reply of IDENTIFY and of READ TIME is given byte by byte; that of READ ROW has 231 bytes
after the result and that of the LINES view 240 (11 R182).
03 R56: READ SCHEDULE. View 2 shows the ports; views 0 and 1 the active and the pending entries from a first index up to 31,
the count clamped to 1..16 and to the entries left; another view or a first index above 31 is INVALID.
04 R79, 05 R105, 06 R122: READ PORT, READ RACK and the MARKS view of READ LINES with a port index above 15 are INVALID, and
so is another view of READ LINES.
The widths, codes and levels of reply items that the spec leaves open are the model's (log entries 13, 14, 47, 48, 60), and so
are the effective second of a last message without a leap (log entry 64), what shares a presence byte (log entry 65), and
that the selection, the slew end cause and the mode in force have none (log entry 66). -/
def Obligations.QueriesChangeNoBlock : Prop :=
  (∀ (s : State) (r : Req),
      (s.Takes kindIdentify r → exec (.identify r) s = .next (s.concluded 0x81 r .done
        [0x00, 0x31, 0x06, 0x68, 1, s.mlc.addr.setWidth 8, BitVec.ofNat 8 s.mlc.rateHigh.toNat,
          if s.mlc.mode = .shared then 1 else 0, 16, 8, 32, 4, 0, BitVec.ofNat 8 s.mlc.lastCause.code]))
      ∧ (s.Takes kindReadTime r → exec (.readTime r) s = .next (s.concluded 0x84 r .done
        (timeBytes s.now ++ [BitVec.ofNat 8 s.tsu.state.code, BitVec.ofNat 8 s.tsu.grade.code, s.tsu.gen]
          ++ beInt 1 s.tsu.utc ++ [BitVec.ofNat 8 s.tsu.quiet.toNat])))
      ∧ (s.Takes kindReadLoop r → exec (.readLoop r) s = .next (s.concluded 0x8A r .done s.loopBytes))
      ∧ (s.Takes kindReadRow r →
        s.drm.rowBytes.length = 231 ∧ exec (.readRow r) s = .next (s.concluded 0x97 r .done s.drm.rowBytes))
      ∧ (s.Takes kindStatus r → clearFlag r.payload 0 = false →
        exec (.status r) s = .next (s.concluded 0x82 r .done (s.setMlc (s.mlc.counted .done)).statusBytes))
      ∧ (s.Takes kindReadReference r → clearFlag r.payload 0 = false →
        exec (.readReference r) s = .next (s.concluded 0x8C r .done s.ref.bytes))
      ∧ (∀ p : Port, s.Takes kindReadPort r → PortRead.read r.payload = ⟨p.val, false⟩ →
        exec (.readPort r) s = .next (s.concluded 0x94 r .done
          ((s.port p).bytes (s.comp p) ++ s.rle.cycle.bytes ++ presence 5 (s.rle.staged.map CycleCfg.bytes))))
      ∧ (∀ p : Port, s.Takes kindReadRack r → PortRead.read r.payload = ⟨p.val, false⟩ →
        exec (.readRack r) s = .next (s.concluded 0x96 r .done ((s.rack p).bytes (s.port p).state)))
      ∧ (∀ port : Nat, s.Takes kindReadLines r → LinesReq.read r.payload = ⟨0, port, false⟩ →
        (allLines.flatMap (fun l => (s.line l).bytes)).length = 240
          ∧ exec (.readLines r) s = .next (s.concluded 0x99 r .done (allLines.flatMap (fun l => (s.line l).bytes))))
      ∧ (∀ p : Port, s.Takes kindReadLines r → LinesReq.read r.payload = ⟨1, p.val, false⟩ →
        exec (.readLines r) s = .next (s.concluded 0x99 r .done (s.marks p).bytes)))
  ∧ (∀ (s : State) (r : Req), s.Takes kindReadSchedule r →
      let q := ScheduleReq.read r.payload
      let n := min (clampNat 1 16 q.count) (32 - q.first)
      let res : Result := if n = q.count then .done else .doneClamped
      (q.view = 2 → exec (.readSchedule r) s = .next (s.concluded 0x91 r .done s.portsView))
      ∧ (q.view = 0 → q.first ≤ 31 →
        exec (.readSchedule r) s = .next (s.concluded 0x91 r res (s.eds.viewBytes s.eds.active q.first n)))
      ∧ (q.view = 1 → q.first ≤ 31 →
        exec (.readSchedule r) s = .next (s.concluded 0x91 r res (s.eds.viewBytes s.eds.pend q.first n)))
      ∧ (2 < q.view ∨ (q.view ≤ 1 ∧ 31 < q.first) → exec (.readSchedule r) s = .next (s.concluded 0x91 r .invalid [])))
  ∧ (∀ (s : State) (r : Req),
      (s.Takes kindReadPort r → 15 < (PortRead.read r.payload).port →
        exec (.readPort r) s = .next (s.concluded 0x94 r .invalid []))
      ∧ (s.Takes kindReadRack r → 15 < (PortRead.read r.payload).port →
        exec (.readRack r) s = .next (s.concluded 0x96 r .invalid []))
      ∧ (s.Takes kindReadLines r →
        let q := LinesReq.read r.payload
        1 < q.view ∨ (q.view = 1 ∧ 15 < q.port) → exec (.readLines r) s = .next (s.concluded 0x99 r .invalid [])))

/-- 09 R163; 02 R38; 04 R79; 05 R105; 06 R122: a clear flag sets the counters that the reply has just shown to 0, and
nothing else.
The widths, codes and levels of reply items that the spec leaves open are the model's (log entries 13, 14, 47, 48, 60), and so
are the effective second of a last message without a leap (log entry 64), what shares a presence byte (log entry 65), and
that the selection, the slew end cause and the mode in force have none (log entry 66). -/
def Obligations.ClearFlagsZeroTheCountersShown : Prop :=
  ∀ (s : State) (r : Req),
    (s.Takes kindStatus r → clearFlag r.payload 0 = true →
      let t := s.concluded 0x82 r .done (s.setMlc (s.mlc.counted .done)).statusBytes
      exec (.status r) s = .next (t.setMlc { t.mlc with ctr := ⟨0, 0, 0, 0, 0, 0, 0, 0, 0, 0⟩ }))
    ∧ (s.Takes kindReadReference r → clearFlag r.payload 0 = true →
      exec (.readReference r) s = .next ((s.setRef { s.ref with
        a := { s.ref.a with ctr := ⟨0, 0, 0, 0, 0, 0, 0, 0, 0, 0⟩ }
        b := { s.ref.b with ctr := ⟨0, 0, 0, 0, 0, 0, 0, 0, 0, 0⟩ } }).concluded 0x8C r .done s.ref.bytes))
    ∧ (∀ p : Port, s.Takes kindReadPort r → PortRead.read r.payload = ⟨p.val, true⟩ →
      exec (.readPort r) s = .next ((s.setPort p { s.port p with ctr := ⟨0, 0, 0, 0, 0, 0, 0, 0, 0⟩ }).concluded 0x94 r
        .done ((s.port p).bytes (s.comp p) ++ s.rle.cycle.bytes ++ presence 5 (s.rle.staged.map CycleCfg.bytes))))
    ∧ (∀ p : Port, s.Takes kindReadRack r → PortRead.read r.payload = ⟨p.val, true⟩ →
      exec (.readRack r) s = .next ((s.setRack p { s.rack p with ctr := ⟨0, 0, 0, 0, 0⟩ }).concluded 0x96 r .done
        ((s.rack p).bytes (s.port p).state)))
    ∧ (∀ p : Port, s.Takes kindReadLines r → LinesReq.read r.payload = ⟨1, p.val, true⟩ →
      exec (.readLines r) s = .next ((s.setMarks p { s.marks p with ctr := ⟨0, 0, 0, 0, 0, 0, 0⟩ }).concluded 0x99 r .done
        (s.marks p).bytes))
    ∧ (∀ port : Nat, s.Takes kindReadLines r → LinesReq.read r.payload = ⟨0, port, true⟩ →
      ∃ t : State,
        exec (.readLines r) s = .next (t.concluded 0x99 r .done (allLines.flatMap (fun l => (s.line l).bytes)))
        ∧ t = s.setEcu { s.ecu with lines := t.ecu.lines }
        ∧ ∀ l : Line, t.line l = { s.line l with ctr := ⟨0, 0, 0, 0⟩ })

/-- 09 R159 to R161, R173: the transmitter. In SHARED mode a waiting reply begins with LINK_DE asserted and LINK_DE goes
when the link is free again; a reply's completion closes service and empties the buffer; a notice's completion lets a
waiting reply go first. A transmitter that becomes free begins the chosen notice in POINT mode, and stays FREE in SHARED
mode or where nothing is deliverable. -/
def Obligations.TransmitterEventsHandOutTheLink : Prop :=
  ∀ s : State, s.mlc.held = false →
    let closed : Mlc :=
      { s.mlc with
        service := false
        reply := none
        begun := false
        tx := none
        owner := .free
        ctr := { s.mlc.ctr with replies := bump s.mlc.ctr.replies } }
    let sent : Mlc :=
      { s.mlc with tx := none, ctr := { s.mlc.ctr with notices := bump s.mlc.ctr.notices } }
    (∀ f : Reply, s.mlc.mode = .shared → s.mlc.owner = .reply → s.mlc.reply = some f → s.mlc.begun = false →
      exec .replyStart s = .next (s.setMlc { s.mlc with
        begun := true, linkDE := true, tx := some (hubFrame s.mlc.addr f.kind f.id f.payload) }))
    ∧ (s.mlc.mode = .shared → s.mlc.owner = .free →
      exec .linkDeDeassert s = .next (s.setMlc { s.mlc with linkDE := false }))
    ∧ (s.mlc.owner = .reply → s.mlc.begun = true → s.mlc.restartDue = false →
      (s.mlc.mode = .shared ∨ s.ntu.anyDeliverable = false → exec .replyCompletion s = .next (s.setMlc closed))
      ∧ (∀ (p : Place) (e : Notice), s.mlc.mode = .point → s.ntu.choose = some p → s.ntu.at p = some e →
        exec .replyCompletion s = .next ((s.setNtu (s.ntu.remove p)).setMlc { closed with
          owner := .notice
          tx := some (hubFrame s.mlc.addr 0xE0 s.mlc.noticeNo (noticeBytes p e))
          noticeNo := s.mlc.noticeNo + 1 })))
    ∧ (s.mlc.owner = .notice →
      (∀ f : Reply, s.mlc.mode = .point → s.mlc.reply = some f →
        exec .noticeCompletion s = .next (s.setMlc { sent with
          owner := .reply, begun := true, tx := some (hubFrame s.mlc.addr f.kind f.id f.payload) }))
      ∧ (s.mlc.reply = none → s.mlc.mode = .shared ∨ s.ntu.anyDeliverable = false →
        exec .noticeCompletion s = .next (s.setMlc { sent with owner := .free }))
      ∧ (∀ (p : Place) (e : Notice), s.mlc.reply = none → s.mlc.mode = .point → s.ntu.choose = some p →
        s.ntu.at p = some e →
        exec .noticeCompletion s = .next ((s.setNtu (s.ntu.remove p)).setMlc { sent with
          owner := .notice
          tx := some (hubFrame s.mlc.addr 0xE0 s.mlc.noticeNo (noticeBytes p e))
          noticeNo := s.mlc.noticeNo + 1 })))

/-! ### Resets -/

/-- 01 R19; 02 R40, R41; 03 R57; 04 R80; 05 R107; 06 R123; 07 R140; 08 R149; 09 R168; 10 R178: the values a hub has after
a power-on or a pin reset of a cause and straps. -/
structure AtResetValues (cause : ResetCause) (st : Straps) (t : State) : Prop where
  scale : t.tsu.ts = ⟨0, 0, 0⟩ ∧ t.tsu.state = .freerun ∧ t.tsu.gen = 0 ∧ t.tsu.utc = 0 ∧ t.tsu.leap = .none
  rates : t.tsu.fLoop = 0 ∧ t.tsu.integ = 0 ∧ t.tsu.fTotal = 0 ∧ t.tsu.holdRate = 0
    ∧ t.tsu.cfg = ⟨3, 8, 10000000, 0, 100, 1000, 1000000, .acquireOnly, 14400⟩
  memory : t.tsu.lockedSince = false ∧ t.tsu.ring = [] ∧ t.tsu.hist = [] ∧ t.tsu.staged = none ∧ t.tsu.mark = none
    ∧ t.tsu.quiet = false
  holdover : t.tsu.holdCount = 0 ∧ t.tsu.holdExpired = false ∧ t.tsu.lockRun = 0 ∧ t.tsu.unlockRun = 0
    ∧ t.tsu.lastErr = none
  slew : t.tsu.slew = ⟨0, 0, 0, 1, .none⟩
  inputs : ∀ i : Input, (t.input i).state = .absent ∧ (t.input i).set = ⟨true, 0, 1000, 7⟩ ∧ (t.input i).staged = none
    ∧ (t.input i).pulse = none ∧ (t.input i).obs = none ∧ (t.input i).missed = 0 ∧ (t.input i).expected = none
    ∧ (t.input i).msg = none ∧ (t.input i).err = none ∧ (t.input i).slot = none ∧ (t.input i).cause = .good
    ∧ (t.input i).goodRun = 0 ∧ (t.input i).badRun = 0 ∧ (t.input i).holdOff = 0
    ∧ (t.input i).ctr = ⟨0, 0, 0, 0, 0, 0, 0, 0, 0, 0⟩ ∧ (t.input i).assembling = []
  selection : t.ref.sel = none ∧ t.ref.preferred = .a ∧ t.ref.revertive = false ∧ t.ref.stagedPreferred = none
    ∧ t.ref.stagedRevertive = none ∧ t.ref.spread = none
  edges : t.eds.armed = false ∧ t.eds.lastAct = none ∧ t.eds.compStep = 50
    ∧ (∀ p : Port, t.eds.level[p] = false ∧ t.comp p = 0)
    ∧ ∀ i : EntryIx, t.eds.active[i] = ⟨false, 0, 0, .rise, 0⟩ ∧ t.eds.pend[i] = ⟨false, 0, 0, .rise, 0⟩
  cycle : t.rle.cycle = ⟨16, 200000⟩ ∧ t.rle.staged = none
  ports : ∀ p : Port, t.port p =
    { state := .down, secs := 0, mode := .polled, frozen := none, staged := none, loss := 8, initComp := 0,
      solicited := false, exch := none, missRun := 0, log := [], lastEcho := none,
      ctr := ⟨0, 0, 0, 0, 0, 0, 0, 0, 0⟩, rx := .closed, tx := none }
  racks : ∀ p : Port, t.rack p =
    { state := .unseen, delay := 0, delayCount := 0, delaySeed := true, offset := 0, offsetSeed := true, rate := 0,
      history := [], accepted := false, outlierRun := 0, watchRun := 0, alarmRun := 0, quietRun := 0, stepHold := 0,
      holdFresh := false, alarmIn := 65535, last := none, ctr := ⟨0, 0, 0, 0, 0⟩ }
  drift : t.drm.spread = none ∧ t.drm.counted = 0 ∧ t.drm.high = false
    ∧ t.drm.cfg = ⟨500, 2000, 50000, 200000, 200, 20000, 3, 2, 1000⟩
  lines : ∀ l : Line, (t.line l).cfg = ⟨.off, 0, 0, false⟩ ∧ (t.line l).latch = .empty ∧ (t.line l).ctr = ⟨0, 0, 0, 0⟩
  marks : ∀ p : Port, t.marks p = ⟨[], none, ⟨0, 0, 0, 0, 0, 0, 0⟩⟩
  queue : t.sq.queue = [⟨0, ⟨⟨0, 0⟩, .d, 0⟩, .marker (.restart cause 0)⟩] ∧ t.sq.nextSeq = 1 ∧ t.sq.rotation = 23
    ∧ t.sq.policy = .keepOldest ∧ t.sq.prior = none ∧ t.sq.watermark = 768 ∧ t.sq.backlog = Backlog.empty
  strobe : t.stl.latched = none ∧ t.stl.ignored = 0 ∧ t.stl.hstb = none
  notices : (∀ p : Place, t.ntu.at p = none) ∧ t.ntu.masks = 0 ∧ (∀ c : Fin 6, t.ntu.pointers[c] = 0) ∧ t.ntu.attn = false
  straps : t.mlc.rateHigh = st.lrate ∧ (t.mlc.mode = .shared ↔ st.lmode = true)
    ∧ t.mlc.addr.toNat = st.addr0.toNat + 2 * st.addr1.toNat + 4 * st.addr2.toNat
  link : t.mlc.rx.phase = .hunt ∧ t.mlc.rx.bytes = [] ∧ t.mlc.rx.inByte = false ∧ t.mlc.service = false
    ∧ t.mlc.reply = none ∧ t.mlc.owner = .free ∧ t.mlc.tx = none ∧ t.mlc.noticeNo = 0 ∧ t.mlc.lastCause = cause
    ∧ t.mlc.ctr = ⟨0, 0, 0, 0, 0, 0, 0, 0, 0, 0⟩

/-- 09 R150, R168: at power-on, and at the release of RESETN, the straps are sampled and every block takes its reset
values, with LINK_DE asserted in POINT mode only. RESETN going low leaves LINK_DE deasserted and the hub held; that its
state shows the reset values with the old straps is the model's choice (log entry 33).
That while RESETN is low no command but a power-on, a pin reset or the release of RESETN changes anything is the model's
inference too (log entry 33): 09 R168 says it of the link's pins and receiver, and the chapters of the blocks give their
values at the reset. The fields `inByte`, `prior` and `holdFresh` in the values are the model's own bookkeeping, idle (log
entries 8 and 34). -/
def Obligations.HardResetsSampleStrapsAndResetBlocks : Prop :=
  (∀ (st : Straps) (s : State),
      (∃ t : State, exec (.powerOn st) s = .next t ∧ AtResetValues .powerOn st t ∧ t.mlc.linkDE = !st.lmode
        ∧ t.mlc.held = false ∧ t.pending = s.pending)
      ∧ (s.mlc.held = true → ∃ t : State, exec (.resetnRelease st) s = .next t ∧ AtResetValues .pin st t
        ∧ t.mlc.linkDE = !st.lmode ∧ t.mlc.held = false ∧ t.pending = s.pending)
      ∧ ∃ t : State, exec .pinReset s = .next t ∧ AtResetValues .pin s.mlc.straps t ∧ t.mlc.linkDE = false
        ∧ t.mlc.held = true ∧ t.pending = s.pending)
  ∧ (∀ (c : Instr) (s : State), s.mlc.held = true → s.mlc.linkDE = false → (∀ st : Straps, c ≠ .powerOn st) →
      c ≠ .pinReset → (∀ st : Straps, c ≠ .resetnRelease st) → exec c s = .next s)

/-- 01 R19, R9; 02 R40, R41; 03 R57; 04 R80; 05 R107; 06 R123; 07 R141; 08 R149; 09 R167; 10 R179: what a RESTART that
has taken effect leaves of the state `s` it took effect in, but for the pending set and the transmitter. That each line's
latest sample is kept is the model's choice (log entry 2). -/
structure RestartedFrom (s t : State) : Prop where
  state : t.tsu.state = if s.tsu.state.referenced then .holdover else s.tsu.state
  scale : t.tsu.ts = s.tsu.ts ∧ t.tsu.gen = s.tsu.gen ∧ t.tsu.hist = s.tsu.hist ∧ t.tsu.utc = s.tsu.utc
    ∧ t.tsu.leap = s.tsu.leap ∧ t.tsu.ring = s.tsu.ring ∧ t.tsu.lockedSince = s.tsu.lockedSince
    ∧ t.tsu.mark = s.tsu.mark ∧ t.tsu.quiet = s.tsu.quiet
  dropped : t.tsu.cfg = ⟨3, 8, 10000000, 0, 100, 1000, 1000000, .acquireOnly, 14400⟩ ∧ t.tsu.holdCount = 0
    ∧ t.tsu.holdExpired = false ∧ t.tsu.staged = none ∧ t.tsu.lastErr = none ∧ t.tsu.lockRun = 0 ∧ t.tsu.unlockRun = 0
  slew : t.tsu.slew.remainder = 0 ∧ t.tsu.slew.rate = s.tsu.slew.rate ∧ t.tsu.slew.boost = s.tsu.slew.boost
    ∧ t.tsu.slew.ended = (if s.tsu.slew.remainder = 0 then s.tsu.slew.ended else .restart)
    ∧ (s.tsu.slew.remainder ≠ 0 → t.tsu.slew.term = 0)
  integral : t.tsu.integ = clamp (-10000000) 10000000 s.tsu.integ
  rates : (s.tsu.state = .freerun → t.tsu.fLoop = 0 ∧ t.tsu.holdRate = clamp (-10000000) 10000000 s.tsu.holdRate)
    ∧ (s.tsu.state = .holdover → t.tsu.fLoop = clamp (-10000000) 10000000 s.tsu.fLoop
      ∧ t.tsu.holdRate = clamp (-10000000) 10000000 s.tsu.holdRate)
    ∧ (s.tsu.state.referenced = true → t.tsu.fLoop = t.tsu.holdRate ∧ t.tsu.holdRate =
      if s.tsu.ring = [] then 0 else clamp (-10000000) 10000000 (roundDiv s.tsu.ring.sum s.tsu.ring.length))
  total : t.tsu.fTotal = clamp (-200000000) 200000000 (t.tsu.fLoop + 1000 * t.tsu.slew.term)
  blocks : t.ref = Ref.initial ∧ t.eds = Eds.initial ∧ t.rle = Rle.initial ∧ t.drm = Drm.initial ∧ t.stl = Stl.initial
  capture : (∀ l : Line, t.line l = LineRec.initial (s.line l).sample) ∧ ∀ p : Port, t.marks p = PortMarks.initial
  queue : t.sq.queue =
      [⟨s.sq.nextSeq, ⟨s.now, t.tsu.grade, s.tsu.gen⟩, .marker (.restart .request s.sq.queue.length)⟩]
    ∧ t.sq.nextSeq = s.sq.nextSeq + 1 ∧ t.sq.rotation = 23 ∧ t.sq.policy = .keepOldest ∧ t.sq.prior = none
    ∧ t.sq.watermark = 768
  backlog : t.sq.backlog = if s.tsu.state.referenced then
      { Backlog.empty with tstate := some ⟨⟨s.now, t.tsu.grade, s.tsu.gen⟩, .holdover, 1⟩ } else Backlog.empty
  masks : t.ntu.masks = 0
  link : t.mlc.rateHigh = s.mlc.rateHigh ∧ t.mlc.mode = s.mlc.mode ∧ t.mlc.addr = s.mlc.addr ∧ t.mlc.rx = s.mlc.rx
    ∧ t.mlc.lastCause = .request
  clock : t.clk = s.clk ∧ t.pending = s.pending

/-- 10 R179: a pending set that a RESTART has emptied: no entry but the one at `left`, ATTN following, and the class
pointers at 0 but that of the first class, which stands at `first`. -/
structure NoticesEmptied (n : Ntu) (left : Option Notice) (first : Nat) : Prop where
  tstate : n.at .tstate = left
  others : ∀ q : Place, q ≠ .tstate → n.at q = none
  pointers : n.pointers[(0 : Fin 6)] = first ∧ ∀ c : Fin 6, c ≠ 0 → n.pointers[c] = 0
  attn : n.attn = left.isSome

/-- 09 R165: an addressed RESTART is answered and waits; it takes effect at the completion of its reply, which closes
service, and in POINT mode the notice of a change of timescale state is the first frame after it.
09 R166: a broadcast RESTART takes effect at its receipt, with the same effect in every block, and is not answered.
10 R179: the pending set is emptied, the class pointers are 0, and only the notice of a change of timescale state enters
after it. In POINT mode it is delivered at once where the transmitter is free (log entry 40), which moves its class pointer
to 1.
That an addressed RESTART waits in a flag is the model's own (log entry 9). That the message-line byte under way is dropped
is its choice (log entry 53). -/
def Obligations.RestartTakesEffectAtReplyOrBroadcast : Prop :=
  ((∀ (s : State) (r : Req), s.Takes kindRestart r → r.broadcast = false →
      exec (.restart r) s =
        .next (s.setMlc { s.mlc.concluded 0x83 r .done [] with restartDue := true }))
    ∧ (∀ s : State, s.mlc.held = false → s.mlc.owner = .reply → s.mlc.begun = true → s.mlc.restartDue = true →
      ∃ t : State, exec .replyCompletion s = .next t ∧ RestartedFrom s t ∧ t.mlc.service = false ∧ t.mlc.reply = none
        ∧ t.mlc.restartDue = false ∧ t.mlc.ctr = { s.mlc.ctr with replies := bump s.mlc.ctr.replies }
        ∧ (s.mlc.mode = .shared ∨ s.tsu.state.referenced = false →
          t.mlc.owner = .free ∧ t.mlc.tx = none ∧ t.mlc.noticeNo = s.mlc.noticeNo
            ∧ NoticesEmptied t.ntu
              (if s.tsu.state.referenced then some ⟨.tstate .holdover, 1, s.now.sec⟩ else none) 0)
        ∧ (s.mlc.mode = .point → s.tsu.state.referenced = true →
          t.mlc.owner = .notice ∧ t.mlc.noticeNo = s.mlc.noticeNo + 1
            ∧ t.mlc.tx = some (hubFrame s.mlc.addr 0xE0 s.mlc.noticeNo
              (noticeBytes .tstate ⟨.tstate .holdover, 1, s.now.sec⟩))
            ∧ NoticesEmptied t.ntu none 1)))
  ∧ (∀ (s : State) (r : Req), s.Takes kindRestart r → r.broadcast = true →
      ∃ t : State, exec (.restart r) s = .next t ∧ RestartedFrom (s.dropFrame s.mlc.ctr) t ∧ t.mlc.service = false
        ∧ t.mlc.reply = s.mlc.reply ∧ t.mlc.ctr = { s.mlc.ctr with requests := bump s.mlc.ctr.requests }
        ∧ (s.tsu.state.referenced = false → NoticesEmptied t.ntu none 0)
        ∧ (s.tsu.state.referenced = true → s.mlc.mode = .shared ∨ s.mlc.owner ≠ .free →
          NoticesEmptied t.ntu (some ⟨.tstate .holdover, 1, s.now.sec⟩) 0)
        ∧ (s.tsu.state.referenced = true → s.mlc.mode = .point → s.mlc.owner = .free →
          NoticesEmptied t.ntu none 1))

/-! ### What several statements share -/

/-- 10 R169: what `k` raises of a value, the last of them `v` in row second `sec`, make of what waits at a place. -/
def noticed (k : Nat) (v : NoticeValue) (sec : RowSec) (old : Option Notice) : Option Notice :=
  if k = 0 then old
  else some ⟨v, (match old with
    | none => k
    | some e => if e.count + k ≤ 255 then e.count + k else 255), sec⟩

/-- 07 R126, R127: what `k` RACK markers of a port, the last of them of state `st`, make of the entry that waits. -/
def rackWaiting (k : Nat) (h : Hdr) (st : RackState) (old : Option RackWait) : Option RackWait :=
  if k = 0 then old
  else some ⟨h, st, match old with
    | none => k
    | some e => if e.count + k ≤ 255 then e.count + k else 255⟩

/-- 05 R83: what a change of a rack record's state raises: a RACK marker in the backlog and a RACK notice. -/
def recordChanged (s : State) (p : Port) (x : RackRec) (c : RackCause) : State :=
  ((s.setRack p x).raiseMarker s.hdr (.rack p x.state 1)).raiseNotice (.rack p) (.rack x.state c x.offset x.rate)

/-- 04 R69, R73; 05 R82, R83: an exchange that ends with a missing echo. The missing run rises, to 255 at most. A run that
has reached the loss count takes an UP port to FAULTED and its record to LOST, with a RACK notice and then a PORT notice (in
this order: log entry 32). -/
def echoMissed (s : State) (p : Port) : State :=
  let r := s.port p
  let run := if r.missRun + 1 ≤ 255 then r.missRun + 1 else 255
  let missed := { r with exch := none, missRun := run, ctr := { r.ctr with missing := bump r.ctr.missing } }
  if r.state = .up ∧ r.loss ≤ run then
    (recordChanged (s.setPort p { missed with state := .faulted, secs := 0 }) p { s.rack p with state := .lost }
      .loss).raiseNotice (.port p) (.port .faulted .loss)
  else s.setPort p missed

/-- 04 R74: the mode work of cycle `k` under divisor `n` on a port, with a SET CYCLE staged or not: at cycle 0 the frozen
mode comes into force, and at the last cycle start of the second the staged mode is frozen, unless that cycle is 0 and a
SET CYCLE is staged. -/
def modesMoved (r : PortRec) (k n : Nat) (stagedCycle : Bool) : PortRec :=
  let x := if k = 0 then { r with mode := r.frozen.getD r.mode, frozen := none } else r
  if k + 1 = n ∧ (k = 0 → stagedCycle = false) then
    { x with frozen := if x.staged = none then x.frozen else x.staged, staged := none }
  else x

/-- 04 R62, R63, R76: the port after a departure of cycle `k` of second `sec` with timing point `left`, in a state `v` in which
no exchange is open: the log entry and the exchange on it, the flag cleared, the departure counted, the receiver closed, and
the TIME frame on the line: the tag, the full row second, TSU's offset, leap, grade and generation, the mode of the next
cycle, O where the record's state has it valid, the compensation, and the acknowledgement. -/
def departureMade (v : State) (p : Port) (sec : RowSec) (k : Nat) (left : Time) : PortRec :=
  let x := v.port p
  let entry : LogEntry := ⟨⟨sec.setWidth 4, BitVec.ofNat 6 k⟩, left, v.tsu.gen, v.comp p⟩
  let frame : TimeFrame :=
    { tag := entry.tag
      sec := sec
      utc := v.tsu.utc
      leap := v.tsu.leap
      grade := v.tsu.grade
      gen := v.tsu.gen
      next := if k + 1 = v.rle.cycle.divisor then x.frozen.getD x.mode else x.mode
      offset :=
        if (v.rack p).state = .settled ∨ (v.rack p).state = .watch ∨ (v.rack p).state = .drifting then
          some (v.rack p).offset
        else none
      comp := v.comp p
      ack := (v.marks p).nextExp.map (· - 1) }
  { x with
    log := (entry :: x.log).take 16
    exch := some ⟨entry, v.rle.cycle.window, v.clk.elapsed, false⟩
    solicited := false
    ctr := { x.ctr with departures := bump x.ctr.departures }
    rx := .closed
    tx := some frame.bytes }

/-- 04 R66: an exchange still open is closed by a departure as its expiry would close it, and a frame being received then is
abandoned and counted as a framing error. -/
def overtakenClosed (v : State) (p : Port) (receiving : Bool) : State :=
  if (v.port p).exch = none then v
  else if receiving = true ∧ ((v.port p).rx = .looking ∨ (v.port p).rx = .receiving) then
    let y := echoMissed v p
    y.setPort p { y.port p with ctr := { (y.port p).ctr with framing := bump (y.port p).ctr.framing } }
  else echoMissed v p

/-! ### The timescale -/

/-- 01 R1: across the full range of the total rate the tick increment lies between 34,352,866,420 and 34,366,610,316, and
a tick advances the timescale by more than 7 and less than 9 ns.
01 R1, R4: ticks below the roll add the increment each and stay in the second; at the roll row seconds rise by 1,
wrapping, and at most 8 whole nanoseconds of the new second have passed. -/
def Obligations.RollBeginsTheNextSecond : Prop :=
  ((∀ f : Int, -200000000 ≤ f → f ≤ 200000000 →
      34352866420 ≤ tickIncrement f ∧ tickIncrement f ≤ 34366610316 ∧ 7 * 4294967296 < tickIncrement f
        ∧ tickIncrement f < 9 * 4294967296)
    ∧ tickIncrement (-200000000) = 34352866420 ∧ tickIncrement 200000000 = 34366610316)
  ∧ (∀ s : State, s.tsu.RatesInRange → s.tsu.ts.InRange →
      (∀ n : Nat, n < s.ticksToRoll →
        (s.runTicks n).tsu.ts.sec = s.tsu.ts.sec
          ∧ (s.runTicks n).tsu.ts.units = s.tsu.ts.units + n * tickIncrement s.tsu.fTotal)
      ∧ (s.runTicks s.ticksToRoll).tsu.ts.sec = s.tsu.ts.sec + 1
      ∧ (s.runTicks s.ticksToRoll).tsu.ts.ns ≤ 8 ∧ (s.runTicks s.ticksToRoll).tsu.ts.InRange)

/-- 01 R1, R4; 06 R108; 08 R142 to R144: an oscillator tick at which the serial lines show nothing. It advances the
timescale and the count of ticks (`n` quiet ticks before it, log entry 4). One at which one line has another level takes
that line's edge at that tick. HSTB strobes where it is high and its sample before was low, and otherwise leaves its sample
only, the first one after a reset among them. Where the ticks reach the roll the command ends there and does the roll's
work, the step before DRM's (log entries 16 and 17). -/
def Obligations.TicksAdvanceTheTimescaleAndSampleThePins : Prop :=
  ∀ (s : State) (n : Nat) (x : Pins), s.mlc.held = false → s.tsu.ts.InRange → s.LinesIdle →
    x.linkRx = ⟨none, false⟩ → x.todA = ⟨none, false⟩ → x.todB = ⟨none, false⟩ →
    let u := s.runTicks (n + 1)
    let r := u.setClk { u.clk with taken := [.hstb, .pins] }
    (n + 1 < s.ticksToRoll → s.stl.hstb = some x.hstb → (∀ l : Line, (s.line l).sample = x.lines.getLsbD l.val) →
      ∃ (v : Ts) (c : Clock),
        exec (.oscillatorTick n x) s = .next ((s.setTsu { s.tsu with ts := v }).setClk c)
        ∧ v.sec = s.tsu.ts.sec ∧ v.InRange ∧ v.units = s.tsu.ts.units + (n + 1) * tickIncrement s.tsu.fTotal
        ∧ c.ticks = s.clk.ticks + (n + 1) ∧ c.elapsed = s.clk.elapsed + (n + 1) * tickIncrement s.tsu.fTotal
        ∧ c.rolled = none ∧ c.stepStamp = s.clk.stepStamp ∧ c.taken = [.hstb, .pins])
    ∧ (∀ l : Line, n + 1 < s.ticksToRoll → s.stl.hstb = some x.hstb → (s.line l).sample ≠ x.lines.getLsbD l.val →
      (∀ k : Line, k ≠ l → (s.line k).sample = x.lines.getLsbD k.val) →
      ∃ t : State, exec (.lineEdge l (x.lines.getLsbD l.val)) u = .next t
        ∧ exec (.oscillatorTick n x) s = .next (t.setClk { t.clk with taken := [.hstb, .pins] }))
    ∧ (n + 1 < s.ticksToRoll → (∀ l : Line, (s.line l).sample = x.lines.getLsbD l.val) →
      (s.stl.hstb = some false → x.hstb = true → s.stl.latched = none →
        exec (.oscillatorTick n x) s = .next ((r.setStl { s.stl with
          latched := some ⟨u.now, s.tsu.gen, s.tsu.state, s.tsu.grade, .hstb⟩, hstb := some true }).raiseNotice
            .strobe (.strobe .hstb u.now)))
      ∧ (∀ y : Strobe, s.stl.hstb = some false → x.hstb = true → s.stl.latched = some y →
        exec (.oscillatorTick n x) s = .next (r.setStl { s.stl with
          ignored := if s.stl.ignored + 1 ≤ 255 then s.stl.ignored + 1 else 255, hstb := some true }))
      ∧ (¬(s.stl.hstb = some false ∧ x.hstb = true) →
        exec (.oscillatorTick n x) s = .next (r.setStl { s.stl with hstb := some x.hstb })))
    ∧ (s.ticksToRoll ≤ n + 1 → s.stl.hstb = some x.hstb → (∀ l : Line, (s.line l).sample = x.lines.getLsbD l.val) →
      ∃ t : State, exec (.secondBoundary ⟨false, x.receiving⟩) s = .next t
        ∧ exec (.oscillatorTick n x) s = .next (t.setClk { t.clk with taken := .hstb :: .pins :: t.clk.taken }))

/-- 01 R4; 04 R65, R74: a roll into the marked second raises no boundary event. Row seconds have advanced and the mark is
cleared. On a port whose early cycle 0 the tick reaches, the mode work is done and the departure is suppressed. Nothing else
changes; the command may be named for either kind of roll (log entry 17). A mark is set only with the quiet interval open,
as StepKeepsTheTimescaleSound says.
That the test by the second's number decides, whatever step set the mark, is the model's inference (log entry 18). -/
def Obligations.SuppressedRollOnlyClearsTheMark : Prop :=
  ∀ (s : State) (drmFirst : Bool) (receiving : BitVec 16), s.mlc.held = false → s.tsu.quiet = true →
    let u := s.runTicks s.ticksToRoll
    s.tsu.mark = some u.tsu.ts.sec →
    ∃ t : State, exec .suppressedRoll s = .next t ∧ exec (.secondBoundary ⟨drmFirst, receiving⟩) s = .next t
      ∧ t.tsu = { u.tsu with mark := none } ∧ t.ref = u.ref ∧ t.eds = u.eds ∧ t.drm = u.drm ∧ t.ecu = u.ecu
      ∧ t.sq = u.sq ∧ t.stl = u.stl ∧ t.ntu = u.ntu ∧ t.mlc = u.mlc ∧ t.pending = u.pending
      ∧ t.clk = { u.clk with rolled := some u.tsu.ts.sec, taken := t.clk.taken }
      ∧ t.rle.cycle = u.rle.cycle ∧ t.rle.staged = u.rle.staged
      ∧ ∀ p : Port, t.port p =
        if (u.port p).state ≠ .down ∧ 0 < u.comp p ∧ u.clk.tickFrom.ns < 1000000000 - u.comp p then
          modesMoved (u.port p) 0 u.rle.cycle.divisor u.rle.staged.isSome
        else u.port p

/-- 01 R4, R11, R12: at a second boundary REF's work is done on the state as it stands there, and TSU's on REF's report
(BoundaryWorkOfReferences and BoundaryWorkOfTheTimescale say what they compute). The mark is cleared and the quiet interval
closes; where a step is taken, the generation rises by 1, the step enters the step history, the mark names the second that
began, and a new quiet interval is open.
01 R9, R11; 02 R29; 07 R126, R127; 10 R169: what they raise reaches the backlog and the pending set. A step's STEP marker
and a change of timescale state's TSTATE marker, each with the capture, the grade and the generation after the step, enter
the backlog or merge there. On a link whose transmitter gives no notice out, the STEP and TSTATE notices and an input's REF
notices, one for its state and one for its selected status (two where both change: the model's inference, log entry 20),
enter the pending set or merge there (elsewhere each goes as RaisedNoticesMergeAndGoOut says).
01 R11, R15: with both inputs ABSENT and nothing staged for them, a staged SET TIME is taken at the next second boundary:
the timescale becomes T exactly, and its step amount is (T − s_B) × 10^9 − ns_B.
The command lets the ticks up to the roll pass (log entry 4), and the order of the blocks is the model's inference (log
entry 15). -/
def Obligations.BoundaryClosesTheQuietIntervalOrSteps : Prop :=
  (∀ (s : State) (drmFirst : Bool) (receiving : BitVec 16), s.mlc.held = false →
      let u := s.runTicks s.ticksToRoll
      s.tsu.mark ≠ some u.tsu.ts.sec →
      let refs := u.ref.boundary s.tsu.gen u.clk.elapsed u.tsu.ts.sec
      let waits := s.mlc.mode = .shared ∨ s.mlc.owner ≠ .free
      ∃ t : State, exec (.secondBoundary ⟨drmFirst, receiving⟩) s = .next t ∧ t.clk.rolled = some u.tsu.ts.sec
        ∧ t.ref = refs.1 ∧ t.tsu = (Tsu.boundary { u.tsu with mark := none } refs.2.2).1
        ∧ (let h : Hdr := ⟨t.now, t.tsu.grade, t.tsu.gen⟩
          ((t.tsu.gen = s.tsu.gen ∧ t.tsu.quiet = false ∧ t.tsu.mark = none ∧ t.tsu.ts = u.tsu.ts
              ∧ t.tsu.hist = s.tsu.hist ∧ t.sq.backlog.step = s.sq.backlog.step
              ∧ (waits → t.ntu.at .step = s.ntu.at .step))
            ∨ (t.tsu.gen = s.tsu.gen + 1 ∧ t.tsu.quiet = true ∧ t.tsu.mark = some u.tsu.ts.sec ∧ t.tsu.staged = none
              ∧ ∃ a : Int, t.tsu.hist = (⟨s.tsu.gen + 1, a⟩ :: s.tsu.hist).take 4
                ∧ (let limited := fun (v : Int) => clamp (-2147483647) 2147483647 v
                  t.sq.backlog.step = some (match s.sq.backlog.step with
                    | none => ⟨h, 1, limited a⟩
                    | some e => ⟨h, if e.count + 1 ≤ 255 then e.count + 1 else 255, limited (e.amount + limited a)⟩)
                  ∧ (waits → t.ntu.at .step = noticed 1 (.step (limited a)) t.now.sec (s.ntu.at .step)))))
          ∧ (t.tsu.state = s.tsu.state → t.sq.backlog.tstate = s.sq.backlog.tstate)
          ∧ (t.tsu.state ≠ s.tsu.state → t.sq.backlog.tstate = some (match s.sq.backlog.tstate with
            | none => ⟨h, t.tsu.state, 1⟩
            | some e => ⟨h, t.tsu.state, if e.count + 1 ≤ 4294967295 then e.count + 1 else 4294967295⟩))
          ∧ (waits → t.ntu.at .tstate =
            noticed (if t.tsu.state = s.tsu.state then 0 else 1) (.tstate t.tsu.state) t.now.sec (s.ntu.at .tstate))
          ∧ (waits → ∀ i : Input,
            let changes := (if (t.input i).state = (s.input i).state then 0 else 1)
              + (if t.ref.sel = some i ↔ s.ref.sel = some i then 0 else 1)
            t.ntu.at (.ref i) = noticed changes (.ref (t.input i).state (t.ref.sel == some i) (t.input i).cause) t.now.sec
              (s.ntu.at (.ref i)))))
  ∧ (∀ (s : State) (drmFirst : Bool) (receiving : BitVec 16) (T : RowSec), s.mlc.held = false →
      s.tsu.staged = some T → s.ref.a.state = .absent → s.ref.b.state = .absent → s.ref.a.staged = none →
      s.ref.b.staged = none →
      let u := s.runTicks s.ticksToRoll
      s.tsu.mark ≠ some u.tsu.ts.sec →
      ∃ t : State, exec (.secondBoundary ⟨drmFirst, receiving⟩) s = .next t ∧ t.tsu.ts = ⟨T, 0, 0⟩
        ∧ t.tsu.staged = none ∧ t.tsu.gen = s.tsu.gen + 1
        ∧ t.tsu.hist =
          (⟨s.tsu.gen + 1, secDiff T u.tsu.ts.sec * 1000000000 - u.tsu.ts.ns⟩ :: s.tsu.hist).take 4)

/-- What leaves with an input's verdicts on an entry to OFF or ABSENT (02 R27, R37). -/
def verdictsGone (r : InputRec) (st : InputState) : InputRec :=
  { r with
    state := st
    obs := none
    slot := none
    goodRun := 0
    badRun := 0
    holdOff := 0
    missed := 0
    expected := none
    pulse := r.pulse.map (fun p => { p with exempt := true }) }

/-- 02 R26, R37: REF's boundary work puts each input's staged settings into force, then judges absence, then the slot; then
the shared settings come into force, and the selection is made. An input disabled goes OFF, one enabled from OFF is ABSENT.
02 R27: an input without a pulse for 3 × 10^9 ns of elapsed time enters ABSENT.
02 R31: the report names the selection and, with an input selected, its verdict: GOOD with its phase error and message, BAD,
or EMPTY, which an empty slot and a verdict of another generation, BAD ones among them, are.
02 R32: the A/B spread is the difference of the phase errors where both inputs are QUALIFIED with such verdicts and neither
error is gross; otherwise the old one stays.
02 R29, R30: a change of an input's state raises its REF notice with the state after it, and a change of whether it is
selected raises one with the selection after it; each carries the last verdict cause. Nothing else is raised. That an input
whose state and selected status both change has two notices raised, the state's first and with the selection as it was
before, is the model's inference (log entry 20). -/
def Obligations.BoundaryWorkOfReferences : Prop :=
  (∀ (r : Ref) (gen : Gen) (elapsed : Nat) (sec : RowSec),
      let y := r.boundary gen elapsed sec
      let judged := fun (i : Input) => (((r.input i).applyStaged).checkAbsent elapsed).judgeSlot
      let usable := fun (i : Input) (e : PhaseErr) (m : RefMessage) => ∃ v : Verdict,
        (judged i).slot = some v ∧ v.cause = .good ∧ v.gen = gen ∧ v.err = some e ∧ v.msg = some m
      let differ := fun (ea eb : PhaseErr) => (judged .a).state = .qualified ∧ (judged .b).state = .qualified
        ∧ (∃ m : RefMessage, usable .a ea m) ∧ (∃ m : RefMessage, usable .b eb m) ∧ ea.gross = false ∧ eb.gross = false
      (∀ i : Input, y.1.input i = { judged i with slot := none })
      ∧ y.1.preferred = r.stagedPreferred.getD r.preferred ∧ y.1.revertive = r.stagedRevertive.getD r.revertive
      ∧ y.1.stagedPreferred = none ∧ y.1.stagedRevertive = none
      ∧ y.1.sel = Ref.select { y.1 with sel := r.sel }
      ∧ y.2.2.sel = y.1.sel
      ∧ (y.1.sel = none → y.2.2.verdict = none)
      ∧ (∀ (i : Input) (e : PhaseErr) (m : RefMessage), y.1.sel = some i → usable i e m →
        y.2.2.verdict = some (.good e m))
      ∧ (∀ (i : Input) (v : Verdict), y.1.sel = some i → (judged i).slot = some v → v.gen = gen → v.cause ≠ .good →
        y.2.2.verdict = some .bad)
      ∧ (∀ i : Input, y.1.sel = some i → (judged i).slot = none → y.2.2.verdict = some .empty)
      ∧ (∀ (i : Input) (v : Verdict), y.1.sel = some i → (judged i).slot = some v → v.gen ≠ gen →
        y.2.2.verdict = some .empty)
      ∧ (∀ i : Input, y.1.sel = some i → (∀ (e : PhaseErr) (m : RefMessage), ¬usable i e m) → y.2.2.good = none)
      ∧ (∀ ea eb : PhaseErr, differ ea eb → y.1.spread = some ⟨ea.e - eb.e, sec⟩)
      ∧ ((∀ ea eb : PhaseErr, ¬differ ea eb) → y.1.spread = r.spread)
      ∧ (∀ i : Input,
        let notice := fun (selected : Bool) => Raise.notice (.ref i) (.ref (y.1.input i).state selected (y.1.input i).cause)
        y.2.1.filter (fun x => match x with
            | .notice q _ => decide (q = .ref i)
            | .marker _ => false) =
          (if (y.1.input i).state = (r.input i).state then [] else [notice (r.sel == some i)])
            ++ (if y.1.sel = some i ↔ r.sel = some i then [] else [notice (y.1.sel == some i)]))
      ∧ (∀ x ∈ y.2.1, ∃ (i : Input) (v : NoticeValue), x = .notice (.ref i) v))
  ∧ (∀ r : InputRec,
      (r.staged = none → r.applyStaged = r)
      ∧ ∀ set : RefSettings, r.staged = some set →
        let x := { r with set := set, staged := none }
        (set.enable = true → r.state = .off → r.applyStaged = { x with state := .absent })
        ∧ (set.enable = true → r.state ≠ .off → r.applyStaged = x)
        ∧ (set.enable = false → r.state = .off → r.applyStaged = x)
        ∧ (set.enable = false → r.state ≠ .off → r.applyStaged = verdictsGone x .off))
  ∧ (∀ (r : InputRec) (elapsed : Nat),
      let absent := ∃ p : Pulse, r.pulse = some p ∧ p.stamp + 3000000000 * 4294967296 ≤ elapsed
        ∧ (r.state = .checking ∨ r.state = .qualified ∨ r.state = .disqualified)
      (absent → r.checkAbsent elapsed = verdictsGone r .absent) ∧ (¬absent → r.checkAbsent elapsed = r))

/-- 01 R10: TSU's boundary work in its order: selection, loop update, holdover, adoption, leap, slew, step. That the
boundary that enters HOLDOVER counts as its first second is the model's inference (log entry 21).
01 R9: each change of state that a selection or the loop update makes raises a TSTATE marker and a TSTATE notice with the
new state; what is raised comes in the order of the parts.
01 R6, R8: a selection takes FREERUN and HOLDOVER to ACQUIRING, I and F_loop seeded with the freerun or holdover rate, the
slew and a staged SET TIME dropped; without one ACQUIRING falls back to FREERUN, or, once locked, like LOCKED to HOLDOVER at
the mean of the ring. That FREERUN keeps the lock and unlock runs is the model's inference (log entry 22). In HOLDOVER the
count rises, and at the limit expiry is flagged and noted once.
01 R16: a message's differing UTC offset and leap are adopted; a leap due by the second that ended (log entry 41) is applied
and cleared. Each raises a LEAP notice, and but for PENDING a marker.
02 R33, R34: an update that wants a step leaves ACQUIRING and the step's error, where the policy takes it in that state; any
other runs the filter. -/
def Obligations.BoundaryWorkOfTheTimescale : Prop :=
  (∀ (t : Tsu) (rep : Report),
      let t1 : Tsu := Tsu.takeSelection { t with quiet := false } rep.sel.isSome
      let t2 : Tsu × Option Int := match rep.good with
        | some (e, _) => if t1.state = .acquiring ∨ t1.state = .locked then t1.loopUpdate e else (t1, none)
        | none => (t1, none)
      let t3 := t2.1.countHoldover.1
      let t4 : Tsu := match rep.good with
        | some (_, m) => ((t3.adoptOffset m).1.adoptLeap m).1
        | none => t3
      let t5 := (t4.applyLeap (t.ts.sec - 1)).1
      let w := t5.slew.settle t5.fLoop
      let t6 := { t5 with slew := w, fTotal := clamp (-200000000) 200000000 (t5.fLoop + 1000 * w.term) }
      let changed := fun (x y : TsState) =>
        if x = y then [] else [Raise.marker (.tstate y 1), Raise.notice .tstate (.tstate y)]
      let adopted : List Raise := match rep.good with
        | some (_, m) => (t3.adoptOffset m).2 ++ ((t3.adoptOffset m).1.adoptLeap m).2
        | none => []
      (t.boundary rep).1 = (t6.step t2.2).1
        ∧ (t.boundary rep).2 = changed t.state t1.state ++ changed t1.state t2.1.state ++ t2.1.countHoldover.2 ++ adopted
          ++ (t4.applyLeap (t.ts.sec - 1)).2 ++ (t6.step t2.2).2)
  ∧ (∀ t : Tsu,
      let acquired := fun (seed : Int) => { t with
        state := .acquiring
        integ := clamp (-t.cfg.fmax) t.cfg.fmax seed
        fLoop := clamp (-t.cfg.fmax) t.cfg.fmax seed
        slew := if t.slew.remainder = 0 then t.slew
          else { t.slew with remainder := 0, term := 0, ended := .selection }
        staged := none
        holdExpired := false
        lockRun := 0
        unlockRun := 0 }
      let rate := if t.ring = [] then t.cfg.freerun
        else clamp (-t.cfg.fmax) t.cfg.fmax (roundDiv t.ring.sum t.ring.length)
      let held := { t with
        state := .holdover
        holdRate := rate
        fLoop := rate
        holdCount := 0
        holdExpired := false
        lockRun := 0
        unlockRun := 0 }
      (t.state = .freerun → t.takeSelection true = acquired t.cfg.freerun ∧ t.takeSelection false = t)
      ∧ (t.state = .holdover → t.takeSelection true = acquired t.holdRate ∧ t.takeSelection false = t)
      ∧ (t.state = .acquiring → t.takeSelection true = t ∧ t.takeSelection false =
        if t.lockedSince then held else { t with state := .freerun, fLoop := t.cfg.freerun })
      ∧ (t.state = .locked → t.takeSelection true = t ∧ t.takeSelection false = held))
  ∧ (∀ t : Tsu,
      let n := if t.holdCount + 1 ≤ 4294967295 then t.holdCount + 1 else 4294967295
      (t.state ≠ .holdover → t.countHoldover = (t, []))
      ∧ (t.state = .holdover → t.cfg.holdLimit ≤ n → t.holdExpired = false → t.countHoldover =
        ({ t with holdCount := n, holdExpired := true }, [.notice .holdoverLimit (.holdoverLimit n t.cfg.holdLimit)]))
      ∧ (t.state = .holdover → n < t.cfg.holdLimit ∨ t.holdExpired = true →
        t.countHoldover = ({ t with holdCount := n }, [])))
  ∧ (∀ (t : Tsu) (m : RefMessage) (ended : RowSec),
      let raised := fun (u : Tsu) (c : LeapCause) =>
        [Raise.marker (.leap c u.utc), Raise.notice .leap (.leap c u.utc u.leap)]
      (m.utc = t.utc → t.adoptOffset m = (t, []))
      ∧ (m.utc ≠ t.utc → t.adoptOffset m = ({ t with utc := m.utc }, raised { t with utc := m.utc } .adopt))
      ∧ (2 < m.warn.toNat → t.adoptLeap m = (t, []))
      ∧ (∀ l : Leap, m.warn.toNat = 0 ∧ l = .none ∨ m.warn.toNat = 1 ∧ l = .insert m.eff
          ∨ m.warn.toNat = 2 ∧ l = .delete m.eff →
        (l = t.leap → t.adoptLeap m = (t, []))
        ∧ (l ≠ t.leap →
          t.adoptLeap m = ({ t with leap := l }, [.notice .leap (.leap .pending t.utc l)])))
      ∧ (t.leap = .none → t.applyLeap ended = (t, []))
      ∧ (∀ e : RowSec, t.leap = .insert e ∨ t.leap = .delete e → ended.toNat < e.toNat → t.applyLeap ended = (t, []))
      ∧ (∀ e : RowSec, t.leap = .insert e → e.toNat ≤ ended.toNat →
        let u := { t with utc := clamp (-128) 127 (t.utc + 1), leap := .none }
        t.applyLeap ended = (u, raised u .insert))
      ∧ (∀ e : RowSec, t.leap = .delete e → e.toNat ≤ ended.toNat →
        let u := { t with utc := clamp (-128) 127 (t.utc - 1), leap := .none }
        t.applyLeap ended = (u, raised u .delete)))
  ∧ (∀ (t : Tsu) (e : PhaseErr),
      let far := e.gross = true ∨ t.cfg.stepThr ≤ e.e.natAbs
      let takes := t.cfg.policy = .always ∨ (t.cfg.policy = .acquireOnly ∧ t.state = .acquiring)
      let ef := clamp (-1000000) 1000000 e.e * 1000
      let i := clamp (-t.cfg.fmax) t.cfg.fmax (t.integ - roundDiv ef (2 ^ t.cfg.ki))
      let f := clamp (-t.cfg.fmax) t.cfg.fmax (-(roundDiv ef (2 ^ t.cfg.kp)) + i)
      (far ∧ takes → t.loopUpdate e =
        ({ t with state := .acquiring, lockRun := 0, unlockRun := 0, lastErr := some e }, some e.e))
      ∧ (¬(far ∧ takes) →
        ((t.loopUpdate e).2 = none ∧ (t.loopUpdate e).1.integ = i ∧ (t.loopUpdate e).1.fLoop = f
          ∧ (t.loopUpdate e).1.lastErr = some e ∧ (t.loopUpdate e).1.ts = t.ts ∧ (t.loopUpdate e).1.slew = t.slew)))

/-- The nominal instant of cycle `k` of second `sec` less the compensation `c` (04 R60, R61). -/
def compensatedInstant (sec : RowSec) (k n c : Nat) : Time :=
  if k = 0 ∧ 0 < c then ⟨sec - 1, 1000000000 - c⟩ else ⟨sec, k * (1000000000 / n) - c⟩

/-- 04 R65, R74: the mode work that a forward step from `b` to `v` passes over on a port, second by second: that of cycle 0
and of the last cycle, where their compensated instants lie after `b` and not after `v`. -/
def modesPassed (b v : Time) (n c : Nat) (r : PortRec) : PortRec :=
  (List.range ((v.sec - b.sec).toNat + 2)).foldl (fun r i =>
    let sec := b.sec + BitVec.ofNat 48 i
    let passed := fun (k : Nat) =>
      0 < (compensatedInstant sec k n c).diff b ∧ (compensatedInstant sec k n c).diff v ≤ 0
    let x := if passed 0 then modesMoved r 0 n false else r
    if 1 < n ∧ passed (n - 1) then modesMoved x (n - 1) n false else x) r

/-- 04 R61, R66, R74: the mode work of cycle 0 of `sec` on a port of `v` that is not DOWN, and its departure unless it is
suppressed. -/
def cycleZero (v : State) (p : Port) (sec : RowSec) (left : Time) (suppressed : Bool) (receiving : Bool) : State :=
  let w := v.setPort p (modesMoved (v.port p) 0 v.rle.cycle.divisor false)
  if suppressed then w
  else
    let x := overtakenClosed w p receiving
    x.setPort p (departureMade x p sec 0 left)

/-- 03 R46, R53; 04 R77; 01 R5: at a second boundary an armed schedule and a staged divisor come into force, and each
compensation moves toward its target by at most the compensation step; a DOWN port keeps its own. The target is D limited to
0..20,000 ns once valid, and until then the initial compensation.
03 R48: what was early under the old compensation is not made again in the new second: the bound of an offset becomes the
old compensation (log entry 7).
04 R61, R65, R66, R74: cycle 0 of the second that begins, on a port not DOWN. Where it was early under the old compensation
and the roll's tick reaches its instant, it is taken up there, with no departure and no freeze while a SET CYCLE is staged
(log entry 30). Where the old compensation is 0 and the new one is not, it is taken up at the boundary tick, its timing point
the capture there. A SET CYCLE that comes into force leaves no departure on any port, a DOWN one enabled at this tick among
them: cycle 0 is noted as taken, so that CYCLE_COMPENSATED_INSTANT does nothing. The frozen mode comes into force where cycle
0 was not early, and a divisor of 1 freezes the staged mode. At a step the departures are suppressed and the mode work is
done, then that of the instants a forward step passes, the one it lands on among them; a backward step reaches the instant
it lands on again, for CYCLE_COMPENSATED_INSTANT to take at this tick (both the model's choice, log entry 45). With both
compensations 0 and no step that command takes the instant.
04 R73: every port's seconds in state rise by 1, after a departure of this tick has taken a port to FAULTED (the model's
choice, log entry 55).
That no framing error counts with no exchange open (log entry 23) and the order of the blocks (log entry 15) are the model's
inferences. The command lets the ticks up to the roll pass (log entry 4). A TIME frame still being sent is replaced (log
entry 62). The premises are invariants that O56 and O57 state. -/
def Obligations.BoundaryAppliesStagedWorkAndMovesCompensation : Prop :=
  ∀ (s : State) (drmFirst : Bool) (receiving : BitVec 16), s.mlc.held = false → s.tsu.RatesInRange →
    s.tsu.ts.InRange → s.rle.DivisorsPermitted →
    let u := s.runTicks s.ticksToRoll
    s.tsu.mark ≠ some u.tsu.ts.sec →
    ∃ t : State, exec (.secondBoundary ⟨drmFirst, receiving⟩) s = .next t
      ∧ t.eds.active = (if s.eds.armed then s.eds.pend else s.eds.active) ∧ t.eds.pend = s.eds.pend
      ∧ t.eds.armed = false ∧ t.eds.lastAct = (if s.eds.armed then some u.tsu.ts.sec else s.eds.lastAct)
      ∧ t.rle.cycle = s.rle.staged.getD s.rle.cycle ∧ t.rle.staged = none
      ∧ ∀ p : Port,
        let old := s.comp p
        let target : Nat :=
          if (s.rack p).delayCount = 8 then (clamp 0 20000 (s.rack p).delay).toNat else (s.port p).initComp
        let stepped := decide (t.tsu.gen ≠ s.tsu.gen)
        let sec := u.tsu.ts.sec
        let n := t.rle.cycle.divisor
        let risen := fun (r : PortRec) => { r with secs := if r.secs + 1 ≤ 4294967295 then r.secs + 1 else 4294967295 }
        (stepped = true → t.now.diff u.now < 0 → compensatedInstant sec 0 n (t.comp p) = t.now →
          t.reach t.now = some t ∧ TickEvent.departure p sec 0 ∉ t.clk.taken)
        ∧ (s.rle.staged ≠ none →
          ¬(stepped = true ∧ t.now.diff u.now < 0 ∧ compensatedInstant sec 0 n (t.comp p) = t.now) →
          TickEvent.departure p sec 0 ∈ t.clk.taken)
        ∧ t.comp p =
          (if (s.port p).state = .down then old
          else if old ≤ target then min (old + s.eds.compStep) target
          else max (old - s.eds.compStep) target)
        ∧ t.eds.earlyBelow[p] = (if (s.port p).state = .down then 0 else old)
        ∧ ((s.port p).state = .down → t.port p = risen (s.port p))
        ∧ ((s.port p).state ≠ .down →
          let v := (t.setPort p (s.port p)).setRack p (if drmFirst then t.rack p else s.rack p)
          let first := fun (r : PortRec) => { r with mode := r.frozen.getD r.mode, frozen := none }
          let last := fun (r : PortRec) =>
            { r with frozen := if r.staged = none then r.frozen else r.staged, staged := none }
          let early : PortRec :=
            if ¬(0 < old ∧ u.clk.tickFrom.ns + old < 1000000000) then s.port p
            else if s.rle.staged ≠ none then first (s.port p)
            else (cycleZero (v.setEds s.eds) p sec ⟨sec - 1, 1000000000 - old⟩ stepped (receiving.getLsbD p)).port p
          let rolled : PortRec :=
            if s.rle.staged ≠ none then
              let r := if old = 0 then first early else early
              if n = 1 then last r else r
            else if old = 0 ∧ (0 < t.comp p ∨ stepped = true) then
              (cycleZero (v.setPort p early) p sec t.now stepped (receiving.getLsbD p)).port p
            else early
          t.port p = risen (if stepped = true ∧ 0 < t.now.diff u.now then modesPassed u.now t.now n (t.comp p) rolled
            else rolled))

/-- 01 R5, 03 R47, 04 R60: the tick that a timed event of the current second waits for is the first whose advance brings the
timescale to or past its instant; with no frame and no message in assembly only time has passed by then.
01 R5, R12: a cycle start is raised once, at the tick that reaches its instant; cycle 0 at the tick of the roll that begins
its second. It carries the quiet flag of the interval that is open then. One that has been raised at the tick is not raised
again there, and none is raised of a cycle number that the divisor in force does not have, nor where no tick of the present
second reaches its instant. That the latest one is kept is the model's choice
(log entry 6), and so are that the command lets the ticks up to the instant pass (log entry 4), once at a tick by the events
noted at it (log entry 5), that a step which lands on an instant has passed it or, backward, reaches it again (log entry
45), and that cycle starts recur after a backward step of less than a second (log entry 52). -/
def Obligations.CycleStartIsRaisedAtItsInstant : Prop :=
  (∀ (s t : State) (i : Time), s.tsu.RatesInRange → s.tsu.ts.InRange → s.reach i = some t →
      0 < i.diff t.clk.tickFrom ∧ i.diff t.now ≤ 0 ∧ t.tsu = { s.tsu with ts := t.tsu.ts }
        ∧ (s.LinesIdle → t = (s.setTsu t.tsu).setClk t.clk))
  ∧ (∀ (s t : State) (sec : RowSec) (k : Nat), s.mlc.held = false → k < s.rle.cycle.divisor →
      (k = 0 ∧ s.clk.rolled = some sec ∧ t = s
        ∨ ¬(k = 0 ∧ s.clk.rolled = some sec) ∧ s.reach ⟨sec, k * (1000000000 / s.rle.cycle.divisor)⟩ = some t) →
      (TickEvent.cycle sec k ∉ t.clk.taken →
        exec (.cycleStart sec k) s =
          .next ((t.setTsu { t.tsu with lastCycle := some ⟨sec, k, t.tsu.quiet⟩ }).setClk
            { t.clk with taken := .cycle sec k :: t.clk.taken }))
      ∧ (TickEvent.cycle sec k ∈ t.clk.taken → exec (.cycleStart sec k) s = .next s))
  ∧ (∀ (s : State) (sec : RowSec) (k : Nat), s.mlc.held = false →
      s.rle.cycle.divisor ≤ k
        ∨ (¬(k = 0 ∧ s.clk.rolled = some sec) ∧ s.reach ⟨sec, k * (1000000000 / s.rle.cycle.divisor)⟩ = none) →
      exec (.cycleStart sec k) s = .next s)

/-- 01 R13, 09 R156: ADJUST. A boost other than 1, 2 and 4 is INVALID in every state; in ACQUIRING and LOCKED the request
is refused with WRONG_STATE. Otherwise the amount is clamped to ±999,999,999 ns and the rate to 1..100,000 ppb, a rate of 0
is the default 50,000, a boost of 4 becomes 2 above an |F_loop| of 100,000,000 ppt; the slew running is replaced, its term
is 0, and F_total is F_loop limited. Any clamp or reduction makes the reply DONE_CLAMPED. -/
def Obligations.AdjustStartsASlew : Prop :=
  ∀ (s : State) (r : Req), s.Takes kindAdjust r →
    let q := AdjustReq.read r.payload
    let valid := q.boost = 1 ∨ q.boost = 2 ∨ q.boost = 4
    let amount := clamp (-999999999) 999999999 q.amount
    let rate := if q.rate = 0 then 50000 else clampNat 1 100000 q.rate
    let boost := if q.boost = 4 ∧ 100000000 < s.tsu.fLoop.natAbs then 2 else q.boost
    let changed := amount ≠ q.amount ∨ (q.rate ≠ 0 ∧ rate ≠ q.rate) ∨ boost ≠ q.boost
    let t := s.setTsu { s.tsu with
      slew := ⟨amount, 0, rate, boost, if s.tsu.slew.remainder = 0 then s.tsu.slew.ended else .replaced⟩
      fTotal := clamp (-200000000) 200000000 s.tsu.fLoop }
    (¬valid → exec (.adjust r) s = .next (s.concluded 0x88 r .invalid []))
    ∧ (valid → s.tsu.state = .acquiring ∨ s.tsu.state = .locked →
      exec (.adjust r) s = .next (s.concluded 0x88 r .wrongState []))
    ∧ (valid → s.tsu.state = .freerun ∨ s.tsu.state = .holdover →
      (changed → exec (.adjust r) s = .next (t.concluded 0x88 r .doneClamped []))
      ∧ (¬changed → exec (.adjust r) s = .next (t.concluded 0x88 r .done [])))

/-- 01 R15, R17: SET TIME stages its row second and abandons a running slew; SET LEAP sets the UTC offset, clamped to
−128..127, and the pending leap. Both are taken in FREERUN and HOLDOVER only; a leap kind above 2 is INVALID in every
state. -/
def Obligations.SetTimeAndSetLeapNeedNoReference : Prop :=
  ∀ (s : State) (r : Req),
    (s.Takes kindSetTime r →
      let w : Slew :=
        if s.tsu.slew.remainder = 0 then s.tsu.slew
        else { s.tsu.slew with remainder := 0, term := 0, ended := .setTime }
      (s.tsu.state = .acquiring ∨ s.tsu.state = .locked →
        exec (.setTime r) s = .next (s.concluded 0x87 r .wrongState []))
      ∧ (s.tsu.state = .freerun ∨ s.tsu.state = .holdover →
        exec (.setTime r) s = .next ((s.setTsu { s.tsu with
          staged := some (BitVec.ofNat 48 (field r.payload 0 6))
          slew := w
          fTotal := clamp (-200000000) 200000000 (s.tsu.fLoop + 1000 * w.term) }).concluded 0x87 r .done [])))
    ∧ (s.Takes kindSetLeap r →
      let q := LeapReq.read r.payload
      let utc := clamp (-128) 127 q.utc
      let leap : Leap := if q.kind = 0 then .none else if q.kind = 1 then .insert q.second else .delete q.second
      let res : Result := if utc = q.utc then .done else .doneClamped
      (2 < q.kind → exec (.setLeap r) s = .next (s.concluded 0x89 r .invalid []))
      ∧ (q.kind ≤ 2 → s.tsu.state = .acquiring ∨ s.tsu.state = .locked →
        exec (.setLeap r) s = .next (s.concluded 0x89 r .wrongState []))
      ∧ (q.kind ≤ 2 → s.tsu.state = .freerun ∨ s.tsu.state = .holdover →
        exec (.setLeap r) s = .next ((s.setTsu { s.tsu with utc := utc, leap := leap }).concluded 0x89 r res [])))

/-- 02 R39, 01 R2: SET LOOP clamps its fields in the order listed, takes them at once, and clamps the rates held to the
new ±Fmax; the reply carries the configuration in force. A policy above 2 is INVALID. -/
def Obligations.SetLoopClampsRatesToTheNewLimit : Prop :=
  ∀ (s : State) (r : Req), s.Takes kindSetLoop r →
    let q := LoopReq.read r.payload
    let fmax := clampNat 1000 200000000 q.fmax
    let lock := clampNat 1 1000000 q.lockThr
    (2 < q.policy → exec (.setLoop r) s = .next (s.concluded 0x8D r .invalid []))
    ∧ ∀ p : StepPolicy, p.code = q.policy →
      let c : LoopCfg :=
        ⟨clampNat 0 15 q.kp, clampNat 0 24 q.ki, fmax, clamp (-(fmax : Int)) fmax q.freerun, lock,
          clampNat lock 1000000 q.unlockThr, clampNat 1000 999999999 q.stepThr, p, clampNat 60 1000000 q.holdLimit⟩
      let asked : LoopCfg :=
        ⟨q.kp, q.ki, q.fmax, q.freerun, q.lockThr, q.unlockThr, q.stepThr, p, q.holdLimit⟩
      let fLoop := if s.tsu.state = .freerun then c.freerun else clamp (-(fmax : Int)) fmax s.tsu.fLoop
      exec (.setLoop r) s = .next ((s.setTsu { s.tsu with
        cfg := c
        integ := clamp (-(fmax : Int)) fmax s.tsu.integ
        holdRate := clamp (-(fmax : Int)) fmax s.tsu.holdRate
        fLoop := fLoop
        fTotal := clamp (-200000000) 200000000 (fLoop + 1000 * s.tsu.slew.term) }).concluded 0x8D r
          (if c = asked then .done else .doneClamped) c.bytes)

/-- 01 R14: settling a running slew takes the term from the remainder; at 0 the slew has completed, and otherwise the new
term is the largest whole ppb, in the remainder's direction, within the remainder, the slew rate times boost, and the
total limit.
01 R11: a reference step for phase error e sets the value to B − e, keeping the fraction; it is entered in the step
history with its full amount, sets the mark to the second of B and opens the quiet interval. A step raises a STEP marker of
its amount and a STEP notice of it, saturated. Without one a staged SET TIME is taken, to T exactly; with neither nothing is
done. -/
def Obligations.SlewsAndStepsMoveByTheirAmounts : Prop :=
  (∀ (w : Slew) (fLoop : Int), w.remainder ≠ 0 → -200000000 ≤ fLoop → fLoop ≤ 200000000 →
      let x := w.settle fLoop
      x.remainder = w.remainder - w.term ∧ x.rate = w.rate ∧ x.boost = w.boost
      ∧ (x.remainder = 0 → x.term = 0 ∧ x.ended = .completed)
      ∧ (x.remainder ≠ 0 → x.ended = w.ended
        ∧ x.term.natAbs ≤ w.rate * w.boost ∧ x.TermWithin
        ∧ -200000000 ≤ fLoop + 1000 * x.term ∧ fLoop + 1000 * x.term ≤ 200000000
        ∧ ∀ y : Int, y.natAbs ≤ w.rate * w.boost →
          (0 ≤ y ∧ y ≤ x.remainder) ∨ (x.remainder ≤ y ∧ y ≤ 0) →
          -200000000 ≤ fLoop + 1000 * y → fLoop + 1000 * y ≤ 200000000 → y.natAbs ≤ x.term.natAbs))
  ∧ (∀ (t : Tsu) (e : Int), t.ts.InRange → e.natAbs ≤ 70000000000000 * 1000000000 →
      let u := (t.step (some e)).1
      u.ts.capture.diff t.ts.capture = -e ∧ u.ts.InRange ∧ u.ts.frac = t.ts.frac ∧ u.gen = t.gen + 1
        ∧ u.hist = (⟨t.gen + 1, -e⟩ :: t.hist).take 4 ∧ u.mark = some t.ts.sec ∧ u.quiet = true ∧ u.state = t.state
        ∧ u.fLoop = t.fLoop ∧ u.integ = t.integ)
  ∧ (∀ t : Tsu,
      let raised := fun (a : Int) =>
        [Raise.marker (.step 1 a), Raise.notice .step (.step (clamp (-2147483647) 2147483647 a))]
      (∀ e : Int, (t.step (some e)).2 = raised (-e))
      ∧ (∀ T : RowSec, t.staged = some T →
        let a := secDiff T t.ts.sec * 1000000000 - t.ts.ns
        t.step none = ({ t with
          ts := ⟨T, 0, 0⟩
          gen := t.gen + 1
          hist := (⟨t.gen + 1, a⟩ :: t.hist).take 4
          mark := some t.ts.sec
          quiet := true
          staged := none }, raised a))
      ∧ (t.staged = none → t.step none = (t, [])))

/-- 01 R7, 02 R33, R35: with no step wanted, eight updates in a row below the lock threshold take ACQUIRING to LOCKED,
and no fewer; three in a row at or above the unlock threshold take LOCKED to ACQUIRING, and no fewer. LOCKED has set the
locked-since-reset flag and left its F_loop in the holdover ring.
02 R35: one update at which no step is taken. In ACQUIRING one below the lock threshold raises the lock run, and any other, a
gross one too, sets it to 0; in LOCKED one at or above the unlock threshold, or gross, raises the unlock run, and any other
sets it to 0. At 8 and at 3 the state changes and both runs are 0. An update that leaves LOCKED pushes its F_loop into the
ring of 64, no other does; nothing but these, the filter's values and the last phase error is changed. -/
def Obligations.LockAndUnlockNeedTheirRuns : Prop :=
  (∀ (t : Tsu) (es : List PhaseErr),
    let run := fun (u : Tsu) (e : PhaseErr) => (u.loopUpdate e).1
    (∀ e ∈ es, e.gross = false ∧ e.e.natAbs < t.cfg.stepThr) →
    (t.state = .acquiring → t.lockRun = 0 → (∀ e ∈ es, e.e.natAbs < t.cfg.lockThr) →
      (es.length < 8 → (es.foldl run t).state = .acquiring)
      ∧ (es.length = 8 → (es.foldl run t).state = .locked ∧ (es.foldl run t).lockedSince = true
        ∧ (es.foldl run t).ring.getLast? = some (es.foldl run t).fLoop))
    ∧ (t.state = .locked → t.unlockRun = 0 → (∀ e ∈ es, t.cfg.unlockThr ≤ e.e.natAbs) →
      (es.length < 3 → (es.foldl run t).state = .locked)
      ∧ (es.length = 3 → (es.foldl run t).state = .acquiring)))
  ∧ (∀ (t : Tsu) (e : PhaseErr),
      let wanted := e.gross = true ∨ t.cfg.stepThr ≤ e.e.natAbs
      let takes := t.cfg.policy = .always ∨ (t.cfg.policy = .acquireOnly ∧ t.state = .acquiring)
      let near := e.gross = false ∧ e.e.natAbs < t.cfg.lockThr
      let far := e.gross = true ∨ t.cfg.unlockThr ≤ e.e.natAbs
      let y := (t.loopUpdate e).1
      ¬(wanted ∧ takes) →
      (t.state = .acquiring →
        (¬near → y.state = .acquiring ∧ y.lockRun = 0 ∧ y.unlockRun = t.unlockRun)
        ∧ (near → t.lockRun < 7 → y.state = .acquiring ∧ y.lockRun = t.lockRun + 1 ∧ y.unlockRun = t.unlockRun)
        ∧ (near → 7 ≤ t.lockRun → y.state = .locked ∧ y.lockRun = 0 ∧ y.unlockRun = 0))
      ∧ (t.state = .locked →
        (¬far → y.state = .locked ∧ y.unlockRun = 0 ∧ y.lockRun = t.lockRun)
        ∧ (far → t.unlockRun < 2 → y.state = .locked ∧ y.unlockRun = t.unlockRun + 1 ∧ y.lockRun = t.lockRun)
        ∧ (far → 2 ≤ t.unlockRun → y.state = .acquiring ∧ y.lockRun = 0 ∧ y.unlockRun = 0))
      ∧ y = { t with
        state := y.state
        integ := y.integ
        fLoop := y.fLoop
        lastErr := some e
        lockRun := y.lockRun
        unlockRun := y.unlockRun
        lockedSince := decide (t.lockedSince = true ∨ (t.state = .acquiring ∧ y.state = .locked))
        ring := if y.state = .locked then (t.ring ++ [y.fLoop]).drop (t.ring.length + 1 - 64) else t.ring })

/-! ### Reference inputs -/

/-- 02 R22, R24: the counter that a verdict's cause raises. -/
def causeCounted (c : RefCounters) : Cause → RefCounters
  | .good => c
  | .interval => { c with interval := bump c.interval }
  | .noMessage => { c with missingMessages := bump c.missingMessages }
  | .checksum => { c with checksum := bump c.checksum }
  | .content => { c with content := bump c.content }
  | .sequence => { c with sequence := bump c.sequence }
  | .quality => { c with quality := bump c.quality }
  | .missingPulse => { c with missingPulses := bump c.missingPulses }

/-- 02 R22, R25: an input's counters after a verdict: its cause's, and the superseded counter where the slot held one. -/
def verdictCounted (r : InputRec) (c : Cause) : RefCounters :=
  let x := causeCounted r.ctr c
  if r.slot = none then x else { x with superseded := bump x.superseded }

/-- 02 R25: what a verdict leaves in the slot: itself, but for a GOOD one that meets a BAD one. -/
def slotAfter (r : InputRec) (v : Verdict) : Option Verdict :=
  match r.slot with
  | none => some v
  | some w => if w.cause ≠ .good ∧ v.cause = .good then some w else some v

/-- 02 R20: a pulse. In OFF it does nothing. In ABSENT the input enters CHECKING with good run 0 and a REF notice. In the
other states an observation still open first closes without a message, its BAD verdict counted (R22, R25). The pulse then
opens an observation with the interval from the last pulse, exempt where there was none, where it is marked, or where it is
of another generation. -/
def Obligations.PulseOpensAnObservation : Prop :=
  ∀ (s : State) (i : Input), s.mlc.held = false →
    let r := s.input i
    let interval : Int := match r.pulse with
      | none => 0
      | some p => s.now.diff p.cap
    let exempt : Bool := match r.pulse with
      | none => true
      | some p => p.exempt || p.gen != s.tsu.gen
    let obs : Obs := ⟨s.now, s.tsu.gen, interval, exempt, r.missed, s.clk.elapsed⟩
    let pulse : Pulse := ⟨s.now, s.tsu.gen, false, r.set.tol, s.clk.elapsed⟩
    (r.state = .off → exec (.referencePulse i) s = .next s)
    ∧ (r.state = .absent → exec (.referencePulse i) s = .next ((s.setInput i { r with
        state := .checking, goodRun := 0, obs := some obs, missed := 0, pulse := some pulse }).raiseNotice (.ref i)
          (.ref .checking (s.ref.sel == some i) r.cause)))
    ∧ (r.state.watched = true → r.obs = none →
      exec (.referencePulse i) s = .next (s.setInput i { r with
        obs := some obs, missed := 0, pulse := some pulse }))
    ∧ (∀ o : Obs, r.state.watched = true → r.obs = some o →
      ∃ x : InputRec, exec (.referencePulse i) s = .next (s.setInput i x)
        ∧ x.obs = some obs ∧ x.missed = 0 ∧ x.pulse = some pulse ∧ x.state = r.state
        ∧ x.cause = (if o.badInterval r.set.tol then .interval else .noMessage)
        ∧ x.slot = some ⟨x.cause, o.gen, none, none⟩ ∧ x.expected = r.expected.map (· + 1) ∧ x.msg = r.msg
        ∧ x.err = r.err ∧ x.ctr = verdictCounted r x.cause)

/-- 02 R21 to R23: a message. In OFF it is discarded; without an open observation it is stray. With one it is judged in
the order of R22 and closes it: a message of good checksum becomes the last message, sets the expected seconds and the
phase error e = (C.sec − S) × 10^9 + C.ns − cable delay; a message of bad checksum leaves both and raises a set expected
seconds by 1. The first check that fails raises its counter. The verdict, with the phase error and the message where the
checksum is good, enters the slot by R25, which raises the superseded counter where another was there. -/
def Obligations.MessageClosesTheObservation : Prop :=
  ∀ (s : State) (i : Input) (body : Vector Byte 18), s.mlc.held = false →
    let r := s.input i
    let m := refMessage body.toList
    (r.state = .off → exec (.messageArrival i body) s = .next (s.setInput i { r with assembling := [] }))
    ∧ (r.state ≠ .off → r.obs = none →
      exec (.messageArrival i body) s = .next (s.setInput i { r with
        assembling := [], ctr := { r.ctr with stray := bump r.ctr.stray } }))
    ∧ (∀ o : Obs, r.state ≠ .off → r.obs = some o →
      ∃ x : InputRec, exec (.messageArrival i body) s = .next (s.setInput i x)
        ∧ x.obs = none ∧ x.state = r.state ∧ x.set = r.set ∧ x.pulse = r.pulse ∧ x.assembling = []
        ∧ x.cause =
          (if o.badInterval r.set.tol then .interval
          else if m.sumGood = false then .checksum
          else if 2 < m.warn.toNat then .content
          else if r.expected ≠ none ∧ r.expected ≠ some m.sec then .sequence
          else if r.set.qmax < m.quality then .quality
          else .good)
        ∧ (m.sumGood = true → x.msg = some m ∧ x.expected = some (m.sec + 1)
          ∧ x.err = some ⟨secDiff o.cap.sec m.sec * 1000000000 + o.cap.ns - r.set.cable,
            decide (1 < (secDiff o.cap.sec m.sec).natAbs)⟩)
        ∧ (m.sumGood = false → x.msg = r.msg ∧ x.err = r.err ∧ x.expected = r.expected.map (· + 1))
        ∧ x.slot = slotAfter r (if m.sumGood then ⟨x.cause, o.gen, x.err, some m⟩ else ⟨x.cause, o.gen, none, none⟩)
        ∧ x.ctr = verdictCounted r x.cause)

/-- 02 R21: an oscillator tick at which only one message line shows something. A start bit is noted; a byte whose start bit
was not noted is not taken. With no message in assembly only a start byte (3CH) is taken, and that one with a zero stop bit
or any other byte is discarded without counting (the first is the model's choice, log entry 46). In a message a zero stop
bit abandons it and counts a framing error; a good byte joins it, and the last of its 19 bytes completes it: it arrives as
MESSAGE_ARRIVAL says. `u` is the state at that tick.
MESSAGE_FRAMING_ERROR and MESSAGE_GAP_TIMEOUT abandon the message in assembly and count, in every state of the input (log
entry 19); the gap is passed at the first tick more than 250,000 after the last byte's end (log entries 4 and 34). -/
def Obligations.MessageBytesAreAssembledOrAbandoned : Prop :=
  (∀ (s : State) (i : Input) (n : Nat) (x : Pins) (z : SerialLine), s.mlc.held = false → n + 1 < s.ticksToRoll →
      s.stl.hstb = some x.hstb → x.linkRx = ⟨none, false⟩ → (∀ l : Line, (s.line l).sample = x.lines.getLsbD l.val) →
      (i = .a ∧ x.todA = z ∧ x.todB = ⟨none, false⟩ ∨ i = .b ∧ x.todB = z ∧ x.todA = ⟨none, false⟩) →
      let u := s.runTicks (n + 1)
      let r := u.input i
      let at' := u.setClk { u.clk with taken := [.hstb, .pins] }
      (z = ⟨none, true⟩ → exec (.oscillatorTick n x) s = .next (at'.setInput i { r with inByte := true }))
      ∧ ∀ b : SerialByte, z = ⟨some b, false⟩ →
        (r.inByte = false → exec (.oscillatorTick n x) s = .next at')
        ∧ (r.inByte = true → r.assembling = [] →
          (b.stopHigh = true → b.value = 0x3C → exec (.oscillatorTick n x) s =
            .next (at'.setInput i { r with inByte := false, assembling := [0x3C], lastTick := u.clk.ticks }))
          ∧ (b.stopHigh = false ∨ b.value ≠ 0x3C →
            exec (.oscillatorTick n x) s = .next (at'.setInput i { r with inByte := false })))
        ∧ (r.inByte = true → r.assembling ≠ [] →
          (b.stopHigh = false → exec (.oscillatorTick n x) s = .next (at'.setInput i { r with
            inByte := false, assembling := [], ctr := { r.ctr with framing := bump r.ctr.framing } }))
          ∧ (b.stopHigh = true → r.assembling.length < 18 → exec (.oscillatorTick n x) s = .next (at'.setInput i { r with
            inByte := false, assembling := r.assembling ++ [b.value], lastTick := u.clk.ticks }))
          ∧ (∀ body : Vector Byte 18, b.stopHigh = true → r.assembling.drop 1 ++ [b.value] = body.toList →
            exec (.oscillatorTick n x) s = exec (.messageArrival i body) (at'.setInput i { r with inByte := false }))))
  ∧ (∀ (s : State) (i : Input), s.mlc.held = false →
      let r := s.input i
      (r.assembling = [] →
        exec (.messageFramingError i) s = .next s ∧ exec (.messageGapTimeout i) s = .next s)
      ∧ (r.assembling ≠ [] → exec (.messageFramingError i) s = .next (s.setInput i { r with
          assembling := [], inByte := false, ctr := { r.ctr with framing := bump r.ctr.framing } }))
      ∧ (r.inByte = true → exec (.messageGapTimeout i) s = .next s)
      ∧ (r.assembling ≠ [] → r.inByte = false → (∀ j : Input, j ≠ i → (s.input j).assembling = []) →
        s.mlc.rx.phase = .hunt → s.clk.ticks ≤ r.lastTick + 250000 → r.lastTick + 250001 - s.clk.ticks < s.ticksToRoll →
        ∃ (v : Ts) (c : Clock), c.ticks = r.lastTick + 250001 ∧ v.sec = s.tsu.ts.sec
          ∧ exec (.messageGapTimeout i) s = .next (((s.setTsu { s.tsu with ts := v }).setClk c).setInput i { r with
            assembling := [], ctr := { r.ctr with framing := bump r.ctr.framing } })))

/-- 02 R24, R22, R25: 600,000,000 ns after its pulse an open observation closes without a message; the k-th missing pulse falls
k × 10^9 ns and the tolerance after the last pulse, where no observation is open. Both put a BAD verdict in the slot; that a
MISSING_PULSE verdict carries the last pulse's generation is the model's inference (log entry 44). The command lets the
ticks up to the instant pass (log entry 4), and one that comes after its instant acts at the present tick: the model's
choice (log entry 36). -/
def Obligations.ReferenceExpiriesGiveBadVerdicts : Prop :=
  ∀ (s t : State) (i : Input), s.mlc.held = false →
    let r := s.input i
    (∀ o : Obs, r.obs = some o → s.reachElapsed o.stamp 600000000 = some t →
      ∃ x : InputRec, exec (.messageWindowExpiry i) s = .next (t.setInput i x)
        ∧ x.obs = none ∧ x.cause = (if o.badInterval r.set.tol then .interval else .noMessage)
        ∧ x.slot = some ⟨x.cause, o.gen, none, none⟩ ∧ x.expected = r.expected.map (· + 1)
        ∧ x.msg = r.msg ∧ x.err = r.err ∧ x.state = r.state ∧ x.pulse = r.pulse ∧ x.missed = r.missed
        ∧ x.ctr = verdictCounted (t.input i) x.cause)
    ∧ (∀ p : Pulse, r.state.watched = true → r.obs = none → r.pulse = some p →
      s.reachElapsed p.stamp ((r.missed + 1) * 1000000000 + p.tol) = some t →
      ∃ x : InputRec, exec (.missingPulseExpiry i) s = .next (t.setInput i x)
        ∧ x.missed = r.missed + 1 ∧ x.cause = .missingPulse ∧ x.slot = some ⟨.missingPulse, p.gen, none, none⟩
        ∧ x.expected = r.expected.map (· + 1) ∧ x.ctr = verdictCounted (t.input i) .missingPulse
        ∧ x.msg = r.msg ∧ x.err = r.err ∧ x.state = r.state ∧ x.pulse = r.pulse ∧ x.obs = none)

/-- A run of boundaries of an input, one slot each. -/
def judgeRun (r : InputRec) (slots : List (Option Verdict)) : InputRec :=
  slots.foldl (fun x v => { x with slot := v }.judgeSlot) r

/-- 02 R25: the verdict slot holds one verdict: a GOOD one does not displace a BAD one, any other takes the slot, and a
verdict that meets another raises the superseded counter.
02 R28, the whole table: at a boundary each input's slot is judged in the state it holds after parts 1 and 2, and is
emptied. Four GOOD slots qualify an input in CHECKING, BAD ones set it back; two BAD slots in a row disqualify with
hold-off 16; in DISQUALIFIED the hold-off falls by 1 at every boundary, and the boundary that brings it to 0 with a GOOD
slot returns the input to CHECKING with good run 1: at the sixteenth boundary after it at the earliest. -/
def Obligations.InputsAreJudgedByTheirSlots : Prop :=
  (∀ (r : InputRec) (v : Verdict),
      let more := { r.ctr with superseded := bump r.ctr.superseded }
      (r.slot = none → r.enterSlot v = { r with slot := some v })
      ∧ (∀ w : Verdict, r.slot = some w → w.cause = .good → r.enterSlot v = { r with slot := some v, ctr := more })
      ∧ (∀ w : Verdict, r.slot = some w → w.cause ≠ .good → v.cause ≠ .good →
        r.enterSlot v = { r with slot := some v, ctr := more })
      ∧ (∀ w : Verdict, r.slot = some w → w.cause ≠ .good → v.cause = .good → r.enterSlot v = { r with ctr := more }))
  ∧ ((∀ (r : Ref) (gen : Gen) (elapsed : Nat) (sec : RowSec) (i : Input),
      ((r.boundary gen elapsed sec).1.input i).state =
        ((((r.input i).applyStaged).checkAbsent elapsed).judgeSlot).state
      ∧ ((r.boundary gen elapsed sec).1.input i).slot = none)
    ∧ (∀ (r : InputRec) (v : Verdict), v.cause = .good →
      let x := { r with slot := some v }.judgeSlot
      (r.state = .checking → r.goodRun < 3 → x.state = .checking ∧ x.goodRun = r.goodRun + 1)
      ∧ (r.state = .checking → 3 ≤ r.goodRun → x.state = .qualified ∧ x.goodRun = 0 ∧ x.badRun = 0)
      ∧ (r.state = .qualified → x.state = .qualified ∧ x.badRun = 0))
    ∧ (∀ (r : InputRec) (v : Verdict), v.cause ≠ .good →
      let x := { r with slot := some v }.judgeSlot
      (r.state = .checking → x.state = .checking ∧ x.goodRun = 0)
      ∧ (r.state = .qualified → r.badRun = 0 → x.state = .qualified ∧ x.badRun = 1)
      ∧ (r.state = .qualified → 1 ≤ r.badRun → x.state = .disqualified ∧ x.badRun = 0 ∧ x.holdOff = 16))
    ∧ (∀ r : InputRec,
      (r.state = .off ∨ r.state = .absent → r.judgeSlot = r)
      ∧ (r.slot = none → r.state = .checking ∨ r.state = .qualified → r.judgeSlot = r)
      ∧ (r.state = .disqualified → (∃ v : Verdict, r.slot = some v ∧ v.cause = .good) → r.holdOff ≤ 1 →
        r.judgeSlot.state = .checking ∧ r.judgeSlot.goodRun = 1)
      ∧ (r.state = .disqualified → (∀ v : Verdict, r.slot = some v → v.cause ≠ .good) ∨ 1 < r.holdOff →
        r.judgeSlot = { r with holdOff := r.holdOff - 1 }))
    ∧ (∀ (r : InputRec) (slots : List (Option Verdict)), r.state = .disqualified → r.holdOff = 16 →
      (slots.length < 16 → (judgeRun r slots).state = .disqualified)
      ∧ ∀ v : Verdict, slots.length = 15 → v.cause = .good →
        (judgeRun r (slots ++ [some v])).state = .checking ∧ (judgeRun r (slots ++ [some v])).goodRun = 1))

/-- 02 R30: with revertive off a selection that is still QUALIFIED stays; otherwise, and always with revertive on, the
preferred input is selected if QUALIFIED, then the other, and else none.
02 R36: SET REFERENCE stages an input's settings, clamped, and the shared priority and revertive settings; nothing is
in force before the next boundary. An input or a priority other than 0 and 1 is INVALID. -/
def Obligations.SetReferenceStagesAndSelectionFollows : Prop :=
  (∀ r : Ref,
      (∀ i : Input, r.revertive = false → r.sel = some i → (r.input i).state = .qualified → r.select = some i)
      ∧ ((r.revertive = true ∨ ∀ i : Input, r.sel = some i → (r.input i).state ≠ .qualified) →
        r.select =
          if (r.input r.preferred).state = .qualified then some r.preferred
          else if (r.input (otherInput r.preferred)).state = .qualified then some (otherInput r.preferred)
          else none))
  ∧ (∀ (s : State) (r : Req), s.Takes kindSetReference r →
      let q := ReferenceReq.read r.payload
      let set : RefSettings := ⟨q.enable, clampNat 0 1000000 q.cable, clampNat 100 100000 q.tol, clampNat 0 15 q.qmax⟩
      let res : Result := if set.cable = q.cable ∧ set.tol = q.tol ∧ set.qmax = q.qmax then .done else .doneClamped
      let pr : Input := if q.priority = 0 then .a else .b
      (1 < q.input ∨ 1 < q.priority → exec (.setReference r) s = .next (s.concluded 0x8B r .invalid []))
      ∧ (q.input = 0 → q.priority ≤ 1 → exec (.setReference r) s = .next ((s.setRef { s.ref with
          a := { s.ref.a with staged := some set }
          stagedPreferred := some pr
          stagedRevertive := some q.revertive }).concluded 0x8B r res []))
      ∧ (q.input = 1 → q.priority ≤ 1 → exec (.setReference r) s = .next ((s.setRef { s.ref with
          b := { s.ref.b with staged := some set }
          stagedPreferred := some pr
          stagedRevertive := some q.revertive }).concluded 0x8B r res [])))

/-! ### The edge schedule -/

/-- 03 R47, R49 to R52; 01 R12: an emission drives its port's line at its compensated instant, the tick that first brings
the timescale there, and changes nothing else. Of several emissions of one port at one tick the line shows the last in the
order of compensated instant and then of second, in whatever order they are commanded. A DOWN port has none, and neither has
an entry that is unused, is no RISE or FALL, does not name the port or does not fire in the second (R42). Nothing is made, and
nothing changes, of an early emission while the armed flag is set (R47), of an offset below the compensation of the second
before, which was early then (R48), of one already made at this tick, of one whose instant no tick of the present second
reaches, and of one of the second that the latest tick left, which its boundary makes (log entry 30). In the quiet
interval an emission is suppressed, but for those of the second that the closing boundary begins: the next, unless the roll
into it is the suppressed one.
03 R51, R52; 07 R126, R127: a TICK emission raises a TICK marker at its nominal instant: a new entry with the header of that
instant and count 1, or one more in the entry that waits, with its first header. None is raised by an entry that is unused, no
TICK or does not fire in the second, nor a second time at its tick, nor where no tick of the present second reaches its
instant.
The model's choices: the commands let the ticks up to the instant pass (log entry 4), once at a tick by the events noted at it
(log entry 5), and emissions and TICKs of the second that a stepping boundary began are made when it comes again after the
quiet interval (log entry 54). The bound of what was early in the second before is its inference (log entry 7). -/
def Obligations.EmissionsDriveLinesAndRaiseTicks : Prop :=
  (∀ (s : State) (p : Port) (ix : EntryIx) (sec : RowSec), s.mlc.held = false →
      let e := s.eds.active[ix]
      let c := s.comp p
      let early := decide (e.offset < c)
      let at' : Time := if early then ⟨sec - 1, 1000000000 + e.offset - c⟩ else ⟨sec, e.offset - c⟩
      ((s.port p).state = .down ∨ e.used = false ∨ e.action = .tick ∨ e.has p = false ∨ e.fires sec = false →
        exec (.edgeEmission p ix sec) s = .next s)
      ∧ (early = true → s.eds.armed = true → exec (.edgeEmission p ix sec) s = .next s)
      ∧ (early = false → e.offset < s.eds.earlyBelow[p] → exec (.edgeEmission p ix sec) s = .next s)
      ∧ (s.reach at' = none → exec (.edgeEmission p ix sec) s = .next s)
      ∧ (∀ t : State, s.reach at' = some t → at'.sec ≠ t.now.sec ∨ TickEvent.edge p ix sec ∈ t.clk.taken →
        exec (.edgeEmission p ix sec) s = .next s)
      ∧ (∀ t : State, e.used = true → e.action ≠ .tick → e.has p = true → e.fires sec = true → (s.port p).state ≠ .down →
        (if early then s.eds.armed = false else s.eds.earlyBelow[p] ≤ e.offset) →
        s.reach at' = some t → at'.sec = t.now.sec → TickEvent.edge p ix sec ∉ t.clk.taken →
        let quiet := t.tsu.quiet = true ∧ (sec = t.tsu.ts.sec + 1 → t.tsu.mark = some sec)
        let later := ∃ (j : Time) (v : RowSec), TickEvent.drive p j v ∈ t.clk.taken
          ∧ (0 < j.diff at' ∨ (j = at' ∧ 0 < secDiff v sec))
        let clk : Clock := { t.clk with taken := .edge p ix sec :: .drive p at' sec :: t.clk.taken }
        (quiet → exec (.edgeEmission p ix sec) s = .next s)
        ∧ (¬quiet → ¬later → exec (.edgeEmission p ix sec) s =
          .next ((t.setEds { t.eds with level := t.eds.level.set p (decide (e.action = .rise)) }).setClk clk))
        ∧ (¬quiet → later → exec (.edgeEmission p ix sec) s = .next (t.setClk clk))))
  ∧ (∀ (s t : State) (ix : EntryIx) (sec : RowSec), s.mlc.held = false →
      let e := s.eds.active[ix]
      e.used = true → e.action = .tick → e.fires sec = true → s.reach ⟨sec, e.offset⟩ = some t → sec = t.now.sec →
      TickEvent.tick ix sec ∉ t.clk.taken →
      let entry : CountWait := match t.sq.backlog.tick with
        | none => ⟨⟨t.now, t.tsu.grade, t.tsu.gen⟩, 1⟩
        | some w => ⟨w.hdr, if w.count + 1 ≤ 4294967295 then w.count + 1 else 4294967295⟩
      (t.tsu.quiet = true → exec (.tickEmission ix sec) s = .next s)
      ∧ (t.tsu.quiet = false → exec (.tickEmission ix sec) s =
        .next ((t.setSq { t.sq with backlog := { t.sq.backlog with tick := some entry } }).setClk
          { t.clk with taken := .tick ix sec :: t.clk.taken })))
  ∧ (∀ (s : State) (ix : EntryIx) (sec : RowSec), s.mlc.held = false →
      let e := s.eds.active[ix]
      (e.used = false ∨ e.action ≠ .tick ∨ e.fires sec = false → exec (.tickEmission ix sec) s = .next s)
      ∧ (s.reach ⟨sec, e.offset⟩ = none → exec (.tickEmission ix sec) s = .next s)
      ∧ (∀ t : State, s.reach ⟨sec, e.offset⟩ = some t → sec ≠ t.now.sec ∨ TickEvent.tick ix sec ∈ t.clk.taken →
        exec (.tickEmission ix sec) s = .next s))

/-- 03 R47 to R49, R52: the emissions that a second boundary's own tick makes on a port, in force as the schedule and the
compensation of the second that ended put them: one of that second whose instant lies after the tick before, an early one of
the second begun, and, where the compensation rose and no schedule is activated, its catch-ups. None of the first in a quiet
interval, none of the others at a step. Each has its compensated instant, counted from the boundary, and 0 or 1 for its
second. The last of them in the order of R49 gives the line its level; without one the level stays.
03 R51: the TICKs of the second that ended that the tick reaches raise their markers. That the boundary makes these
emissions, under the schedule and the compensation of the second that ended, is the model's inference (log entry 30), and so
is the bound of what was early in the second that ended (log entry 7).
So is the order of the blocks (log entry 15); the command lets the ticks up to the roll pass (log entry 4). -/
def Obligations.BoundaryTickMakesItsEmissions : Prop :=
  ∀ (s : State) (drmFirst : Bool) (receiving : BitVec 16), s.mlc.held = false →
    let u := s.runTicks s.ticksToRoll
    let sec := u.tsu.ts.sec
    let fromNs := u.clk.tickFrom.ns
    s.tsu.mark ≠ some sec →
    ∃ t : State, exec (.secondBoundary ⟨drmFirst, receiving⟩) s = .next t
      ∧ (∀ p : Port, (s.port p).state ≠ .down →
        let made := fun (ix : EntryIx) (i : Int) (w : Nat) =>
          let e := s.eds.active[ix]
          let drives := e.used = true ∧ e.action ≠ .tick ∧ e.has p = true
          drives ∧
            ((e.fires (sec - 1) = true ∧ s.tsu.quiet = false ∧ s.comp p ≤ e.offset ∧ s.eds.earlyBelow[p] ≤ e.offset
                ∧ fromNs < e.offset - s.comp p ∧ i = (e.offset : Int) - s.comp p - 1000000000 ∧ w = 0)
              ∨ (e.fires sec = true ∧ s.eds.armed = false ∧ t.tsu.gen = s.tsu.gen ∧ e.offset < s.comp p
                ∧ fromNs + s.comp p < 1000000000 + e.offset ∧ i = (e.offset : Int) - s.comp p ∧ w = 1)
              ∨ (e.fires sec = true ∧ s.eds.armed = false ∧ t.tsu.gen = s.tsu.gen ∧ s.comp p ≤ e.offset
                ∧ e.offset < t.comp p ∧ i = (e.offset : Int) - t.comp p ∧ w = 1))
        ((∀ (ix : EntryIx) (i : Int) (w : Nat), ¬made ix i w) → t.eds.level[p] = s.eds.level[p])
        ∧ (∀ (ix : EntryIx) (i : Int) (w : Nat), made ix i w →
          (∀ (jx : EntryIx) (j : Int) (v : Nat), made jx j v → jx ≠ ix → j < i ∨ (j = i ∧ v < w)) →
          (∀ (j : Int) (v : Nat), made ix j v → j ≤ i) →
          t.eds.level[p] = decide (s.eds.active[ix].action = .rise)))
      ∧ (let n := allEntries.countP (fun ix =>
          let e := s.eds.active[ix]
          e.used && e.action == .tick && e.fires (sec - 1) && !s.tsu.quiet && decide (fromNs < e.offset))
        (n = 0 → t.sq.backlog.tick = s.sq.backlog.tick)
        ∧ (0 < n → t.sq.backlog.tick = some (match s.sq.backlog.tick with
          | none => ⟨⟨t.now, t.tsu.grade, t.tsu.gen⟩, n⟩
          | some w => ⟨w.hdr, if w.count + n ≤ 4294967295 then w.count + n else 4294967295⟩)))

/-- 03 R43 to R45: SCHEDULE EDIT writes one pending entry, its offset clamped, and disarms; SCHEDULE COMMIT arms a
pending schedule without conflicts, and otherwise answers CONFLICT with the conflicting pair of lowest i, then lowest j,
changing nothing; SCHEDULE DISCARD copies the active schedule back and disarms. -/
def Obligations.ScheduleRequestsEditCommitDiscard : Prop :=
  ∀ (s : State) (r : Req),
    (s.Takes kindScheduleEdit r →
      let q := EditReq.read r.payload
      let off := clampNat 0 999999999 q.offset
      (32 ≤ q.index ∨ 2 < q.action → exec (.scheduleEdit r) s = .next (s.concluded 0x8E r .invalid []))
      ∧ ∀ (i : EntryIx) (a : Action), i.val = q.index → a.code = q.action →
        exec (.scheduleEdit r) s = .next ((s.setEds { s.eds with
          pend := s.eds.pend.set i ⟨q.used, off, q.ports, a, q.mask⟩, armed := false }).concluded 0x8E r
            (if off = q.offset then .done else .doneClamped) []))
    ∧ (s.Takes kindScheduleCommit r →
      (ConflictFree s.eds.pend →
        exec (.scheduleCommit r) s = .next ((s.setEds { s.eds with armed := true }).concluded 0x8F r .done []))
      ∧ (∀ i j : EntryIx, i.val < j.val → s.eds.pend[i].conflicts s.eds.pend[j] = true →
        (∀ k l : EntryIx, k.val < l.val → s.eds.pend[k].conflicts s.eds.pend[l] = true →
          i.val < k.val ∨ (i.val = k.val ∧ j.val ≤ l.val)) →
        exec (.scheduleCommit r) s =
          .next (s.concluded 0x8F r .conflict [BitVec.ofNat 8 i.val, BitVec.ofNat 8 j.val])))
    ∧ (s.Takes kindScheduleDiscard r →
      exec (.scheduleDiscard r) s =
        .next ((s.setEds { s.eds with pend := s.eds.active, armed := false }).concluded 0x90 r .done []))

/-! ### The rack link -/

/-- 04 R60 to R66, R74, R76: the compensated instant of a cycle. The mode work is done (R74). A departure that is due, not
suppressed and, where early, has no SET CYCLE staged, first closes an exchange still open as its expiry would, counting a
framing error for a frame being received there (R66); it enters the log, opens its exchange, clears the solicited flag, is
counted, closes the receiver and puts its TIME frame on the line (R63), as `departureMade` says. That with no exchange open
no framing error is counted, whatever `receiving` says, is the model's inference (log entry 23).
06 R114: `receiving` tells of a frame that does not end at this tick; without one, a receiver that was open leaves the note
that a frame which ends at this tick may still be taken, with the exchange closed here (log entry 50;
ValidEchoHandsOnMarksAndSample says what becomes of it). An instant already noted at its tick is not taken again there.
Nothing is taken, and nothing changes, on a DOWN port, for a cycle number that the divisor in force does not have (R60), where no tick of the present second reaches the instant, or for an instant of the second that the latest tick left, which its
boundary takes (log entry 30).
The model's choices: the command lets the ticks up to the instant pass (log entry 4), once at a tick by the events noted at it
(log entry 5), a step that lands on an instant has passed it or, backward, reaches it again (log entry 45), departures of the
second that a stepping boundary began are made when it comes again after the quiet interval (log entry 54), and a TIME frame
still being sent is replaced at once by the new one (log entry 62). -/
def Obligations.DepartureOpensItsExchange : Prop :=
  (∀ (s t : State) (p : Port) (sec : RowSec) (k : Nat) (receiving : Bool), s.mlc.held = false →
    (s.port p).state ≠ .down → k < s.rle.cycle.divisor →
    let n := s.rle.cycle.divisor
    let c := s.comp p
    let early := decide (k = 0 ∧ 0 < c)
    let left := compensatedInstant sec k n c
    (k = 0 ∧ c = 0 ∧ s.clk.rolled = some sec ∧ t = s
      ∨ ¬(k = 0 ∧ c = 0 ∧ s.clk.rolled = some sec) ∧ s.reach left = some t ∧ left.sec = t.now.sec) →
    (TickEvent.departure p sec k ∈ t.clk.taken → exec (.cycleCompensatedInstant p sec k receiving) s = .next s)
    ∧ (TickEvent.departure p sec k ∉ t.clk.taken →
      let r := modesMoved (t.port p) k n t.rle.staged.isSome
      let u := (t.setPort p r).setClk { t.clk with taken := .departure p sec k :: t.clk.taken }
      let quiet := t.tsu.quiet = true ∧ (sec = t.tsu.ts.sec + 1 → t.tsu.mark = some sec)
      let due := (r.mode = .polled ∨ k = 0 ∨ r.solicited = true) ∧ ¬quiet ∧ (early = true → t.rle.staged = none)
      let hears := r.rx = .looking ∨ r.rx = .receiving
      let departs := fun (v : State) => v.setPort p (departureMade v p sec k left)
      let noted := fun (v : State) => v.setClk { v.clk with taken := .overtaken p r.exch :: v.clk.taken }
      (¬due → exec (.cycleCompensatedInstant p sec k receiving) s = .next u)
      ∧ (due → ¬(hears ∧ receiving = false) →
        exec (.cycleCompensatedInstant p sec k receiving) s = .next (departs (overtakenClosed u p receiving)))
      ∧ (due → hears → receiving = false →
        exec (.cycleCompensatedInstant p sec k receiving) s = .next (noted (departs (overtakenClosed u p receiving))))))
  ∧ (∀ (s : State) (p : Port) (sec : RowSec) (k : Nat) (receiving : Bool), s.mlc.held = false →
      let left := compensatedInstant sec k s.rle.cycle.divisor (s.comp p)
      (s.port p).state = .down ∨ s.rle.cycle.divisor ≤ k
        ∨ (¬(k = 0 ∧ s.comp p = 0 ∧ s.clk.rolled = some sec)
          ∧ (s.reach left = none ∨ ∃ t : State, s.reach left = some t ∧ left.sec ≠ t.now.sec)) →
      exec (.cycleCompensatedInstant p sec k receiving) s = .next s)

/-- 04 R63; 11 section 11.4: a TIME frame has 27 bytes with a good CRC, and each field in its place: kind 31H, the tag, the
grade, the mode of the next cycle, the flags that O and the acknowledgement are valid, the full row second, the UTC offset, the
pending leap with its second, the generation, O, the compensation and the acknowledgement, what is not valid as zero and a
reserved bit clear.
11 section 11.4, 04 R59: the bytes an adapter sends for an ECHO are read back as that ECHO, and a CALL as a CALL. -/
def Obligations.RackFramesAreWrittenAndReadBack : Prop :=
  (∀ f : TimeFrame, -128 ≤ f.utc → f.utc ≤ 127 →
      f.bytes.length = 27 ∧ crcGood f.bytes = true ∧ f.bytes.head? = some 0x31
      ∧ field f.bytes 1 1 % 16 = f.tag.sec.toNat ∧ field f.bytes 1 1 / 16 % 4 = f.grade.code
      ∧ (fieldBit f.bytes 1 6 = true ↔ f.next = .quiet) ∧ fieldBit f.bytes 1 7 = false
      ∧ field f.bytes 2 1 % 64 = f.tag.cycle.toNat ∧ fieldBit f.bytes 2 6 = f.offset.isSome
      ∧ fieldBit f.bytes 2 7 = f.ack.isSome
      ∧ field f.bytes 3 6 = f.sec.toNat ∧ fieldS f.bytes 9 1 = f.utc
      ∧ (f.leap = .none → field f.bytes 10 1 = 0 ∧ field f.bytes 11 6 = 0)
      ∧ (∀ e : RowSec, f.leap = .insert e → field f.bytes 10 1 = 1 ∧ field f.bytes 11 6 = e.toNat)
      ∧ (∀ e : RowSec, f.leap = .delete e → field f.bytes 10 1 = 2 ∧ field f.bytes 11 6 = e.toNat)
      ∧ field f.bytes 17 1 = f.gen.toNat
      ∧ (f.offset = none → field f.bytes 18 4 = 0)
      ∧ (∀ o : Int, f.offset = some o → -2147483648 ≤ o → o ≤ 2147483647 → fieldS f.bytes 18 4 = o)
      ∧ field f.bytes 22 2 = f.comp % 65536
      ∧ (f.ack = none → field f.bytes 24 1 = 0) ∧ (∀ a : Byte, f.ack = some a → field f.bytes 24 1 = a.toNat))
  ∧ ((∀ e : Echo, e.rxNs < 4294967296 → e.turn ≤ 1000000 → e.marks.length ≤ 12 → (∀ k ∈ e.marks, k.m < 1073741824) →
      judgeRack (echoBytes e) = .echo e ∧ (echoBytes e).length = 16 + 8 * e.marks.length)
    ∧ judgeRack (withCrc [0x33]) = .call)

/-- 04 R67, R70, R73; 05 R82; 06 R117: a valid ECHO, whose leading edge lies in the open exchange's window and whose tag is
the awaited one, closes the exchange, sets the missing run to 0, is counted and kept as the last echo, and takes the port
UP; a FAULTED port's record first enters SETTLING. Its marks are dated by the record before the sample, and the sample, of
the port, the log entry, the window, A, T, the rack receive time and the rack flags, then goes to the record. Every other port, rack record and mark buffer, the timescale, the references and the edge schedule stay.
04 R58: its arrival time is the timescale value at its leading edge: the present capture less the edge's age, and less the
step between where the edge came before it (the model's inference, log entry 26).
04 R73; 05 R83, R88, R91; 07 R126, R127; 10 R169: what it raises, in this order: where the port comes UP, a FAULTED port's
RACK marker and RACK notice of cause RECOVER, then a PORT notice of cause ECHO; a PATH notice for a re-seed; a RACK marker
and a RACK notice of cause GROSS for a change to DRIFTING (the model's inferences: the RACK notice before the PORT notice,
log entry 32, and the PATH notice before the RACK notice of a gross offset, log entry 43; its choice: the RECOVER notice
carries O and R after the change, log entry 57). Where no notice goes out, each is in the pending set.
06 R114: an ECHO whose frame-end is taken after a departure of its tick is taken likewise, against the exchange that the
departure closed, the departure's own exchange staying open and the receiver closed (the model's reading, log entry 50). -/
def Obligations.ValidEchoHandsOnMarksAndSample : Prop :=
  ∀ (s h : State) (p : Port) (frame : List Byte) (ago : Nat) (e : Echo) (x : Exchange), s.mlc.held = false →
    ((s.port p).canReceive = true ∧ (s.port p).exch = some x
        ∧ h = s.setPort p { s.port p with rx := .looking, exch := none }
      ∨ (s.port p).state ≠ .down ∧ (s.port p).rx = .closed ∧ TickEvent.overtaken p (some x) ∈ s.clk.taken
        ∧ (∀ y : Option Exchange, TickEvent.overtaken p y ∈ s.clk.taken → y = some x)
        ∧ h = s.settleOvertaken p) →
    judgeRack frame = .echo e → e.tag = x.entry.tag →
    ((x.stamp : Int) ≤ s.clk.elapsed - ago * 4294967296) →
    (s.clk.elapsed - ago * 4294967296 ≤ (x.stamp : Int) + x.window * 4294967296) →
    let r := h.port p
    let a : Time := s.now.plus (-(ago : Int) - (match s.tsu.hist with
      | [] => 0
      | y :: _ => if (s.clk.elapsed : Int) - ago * 4294967296 < s.clk.stepStamp then y.amount else 0))
    let b : RackRec := if r.state = .faulted then (s.rack p).toSettling else s.rack p
    let y := b.sample s.drm.cfg s.tsu.gen
      ⟨p, x.entry, x.window, a, e.turn, e.rxSec, e.rxNs, e.stepped, e.holdover⟩
    let up : PortRec := { r with
      state := .up
      secs := if r.state = .up then r.secs else 0
      missRun := 0
      lastEcho := some ⟨a, e.turn, e.rxSec, e.rxNs, e.stepped, e.holdover⟩
      ctr := { r.ctr with echoes := bump r.ctr.echoes } }
    let marks := PortMarks.takeMarks
      ⟨r.log, s.tsu.gen, s.tsu.hist, b.delay, b.rate, b.state, s.tsu.grade, a⟩ e.marks (s.marks p)
    let recovers : Nat := if r.state = .faulted then 1 else 0
    let grosses : Nat := if y.gross then 1 else 0
    let waiting := rackWaiting (recovers + grosses) s.hdr (if y.gross then .drifting else .settling) s.sq.backlog.rack[p]
    ∃ t : State, exec (.echoReceived p frame ago) s = .next t
      ∧ t.port p = up ∧ t.rack p = y.record ∧ t.marks p = marks
      ∧ (∀ q : Port, q ≠ p → t.port q = s.port q ∧ t.rack q = s.rack q ∧ t.marks q = s.marks q)
      ∧ t.tsu = s.tsu ∧ t.ref = s.ref ∧ t.eds = s.eds ∧ t.stl = s.stl ∧ t.clk = h.clk
      ∧ (∀ z : Option Exchange, (s.port p).canReceive = false → TickEvent.overtaken p z ∉ t.clk.taken)
      ∧ t.ecu.lines = s.ecu.lines ∧ t.sq.queue = s.sq.queue ∧ t.sq.nextSeq = s.sq.nextSeq
      ∧ t.sq.backlog = { s.sq.backlog with rack := s.sq.backlog.rack.set p waiting }
      ∧ (r.state = .up → y.path = none → y.gross = false → t.ntu = s.ntu ∧ t.mlc = s.mlc)
      ∧ (s.mlc.mode = .shared ∨ s.mlc.owner ≠ .free → t.mlc = s.mlc
        ∧ t.ntu.at (.port p) =
          noticed (if r.state = .up then 0 else 1) (.port .up .echo) s.now.sec (s.ntu.at (.port p))
        ∧ t.ntu.at (.path p) = (match y.path with
          | none => s.ntu.at (.path p)
          | some (new, old) => noticed 1 (.path new old) s.now.sec (s.ntu.at (.path p)))
        ∧ t.ntu.at (.rack p) = noticed (recovers + grosses)
          (if y.gross then .rack .drifting .gross y.record.offset y.record.rate
            else .rack .settling .recover b.offset b.rate) s.now.sec (s.ntu.at (.rack p))
        ∧ ∀ q : Place, q ≠ .port p → q ≠ .path p → q ≠ .rack p → t.ntu.at q = s.ntu.at q)
      ∧ (let t1 := h.setPort p up
        let t2 := if r.state = .up then t1
          else (if r.state = .faulted then recordChanged t1 p b .recover else t1).raiseNotice (.port p) (.port .up .echo)
        let t3 := (t2.setMarks p marks).setRack p y.record
        let t4 := match y.path with
          | none => t3
          | some (new, old) => t3.raiseNotice (.path p) (.path new old)
        t = if y.gross then recordChanged t4 p y.record .gross else t4)

/-- 04 R69, R73; 05 R82: the reply window's expiry closes the exchange and counts a missing echo (`echoMissed` says how; that
the RACK notice comes before the PORT notice is the model's inference, log entry 32). A frame being received whose leading
edge fell within the window defers it. The command lets the ticks up to the instant pass (log entry 4), and one that comes
after its instant acts at the present tick: the model's choice (log entry 36). -/
def Obligations.WindowExpiryCountsAMissingEcho : Prop :=
  ∀ (s t : State) (p : Port) (receiving : Bool) (x : Exchange), s.mlc.held = false → (s.port p).exch = some x →
    x.deferred = false → s.reachElapsed x.stamp x.window = some t →
    let r := s.port p
    (receiving = true ∧ r.canReceive = true → exec (.replyWindowExpiry p receiving) s =
      .next (t.setPort p { r with exch := some { x with deferred := true }, rx := .receiving }))
    ∧ (¬(receiving = true ∧ r.canReceive = true) →
      exec (.replyWindowExpiry p receiving) s = .next (echoMissed t p))

/-- 04 R59, R67, R68, R75: frames that are no valid ECHO. An ECHO without an open exchange is late; one with another tag is
a tag error and leaves the exchange open; a CALL sets the solicited flag in QUIET without an exchange, and is a protocol
error otherwise; a failed check raises its counter. Each ends the frame's reception and changes nothing else.
04 R58: after a frame received the receiver looks for the next start symbol; after one abandoned, and after the hub's own,
it does once the line has been idle.
04 R68, R69: an expiry deferred to the frame, or fallen due in its course (log entries 24 and 36), is taken up at its end,
after the frame is counted; but an ECHO whose leading edge fell after the window is late, its missing echo counted first, and
so is a CALL's before it where the expiry was not deferred. An ECHO whose edge lies before the open exchange's departure is
not seen (log entry 25).
06 R114: a frame whose frame-end is taken after a departure of its tick counts as it does beside an open exchange, once; an
ECHO is judged against the exchange that the departure closed, and without one it is late (log entry 50). Any other frame
that ends with the receiver closed, or waiting for idle, does nothing. -/
def Obligations.OtherRackFramesAreCounted : Prop :=
  (∀ (s : State) (p : Port) (frame : List Byte) (ago : Nat), s.mlc.held = false → (s.port p).canReceive = true →
      let r := s.port p
      let ctr := r.ctr
      let edge : Int := s.clk.elapsed - ago * 4294967296
      let heard := fun (c : PortCounters) => s.setPort p { r with rx := .looking, ctr := c }
      let dropped := fun (c : PortCounters) => s.setPort p { r with rx := .waitIdle, ctr := c }
      let called := fun (v : State) => v.setPort p
        (if (v.port p).mode = .quiet ∧ (v.port p).exch = none then { v.port p with solicited := true }
        else { v.port p with ctr := { (v.port p).ctr with protocol := bump (v.port p).ctr.protocol } })
      let failed : RackCheck → PortCounters := fun c => match c with
        | .framing => { ctr with framing := bump ctr.framing }
        | .kind => { ctr with protocol := bump ctr.protocol }
        | .count => { ctr with count := bump ctr.count }
        | .crc => { ctr with crc := bump ctr.crc }
      let due := fun (x : Exchange) => x.deferred = true ∨ x.stamp + x.window * 4294967296 ≤ s.clk.elapsed
      (∀ e : Echo, judgeRack frame = .echo e →
        (r.exch = none → exec (.echoReceived p frame ago) s = .next (heard { ctr with late := bump ctr.late }))
        ∧ (∀ x : Exchange, r.exch = some x →
          (edge < x.stamp → exec (.echoReceived p frame ago) s = .next s)
          ∧ ((x.stamp : Int) + x.window * 4294967296 < edge → (x.stamp : Int) ≤ edge →
            let v := echoMissed (heard ctr) p
            exec (.echoReceived p frame ago) s = .next (v.setPort p { v.port p with
              ctr := { (v.port p).ctr with late := bump (v.port p).ctr.late } }))
          ∧ ((x.stamp : Int) ≤ edge → edge ≤ (x.stamp : Int) + x.window * 4294967296 → e.tag ≠ x.entry.tag →
            (¬due x → exec (.echoReceived p frame ago) s = .next (heard { ctr with tag := bump ctr.tag }))
            ∧ (due x → exec (.echoReceived p frame ago) s =
              .next (echoMissed (heard { ctr with tag := bump ctr.tag }) p)))))
      ∧ (r.exch = none → exec (.callReceived p) s = .next (called (heard ctr)))
      ∧ (∀ x : Exchange, r.exch = some x →
        (¬due x → exec (.callReceived p) s = .next (called (heard ctr)))
        ∧ (x.deferred = true → exec (.callReceived p) s = .next (echoMissed (called (heard ctr)) p))
        ∧ (x.deferred = false → due x → exec (.callReceived p) s = .next (called (echoMissed (heard ctr) p))))
      ∧ (judgeRack frame = .call → exec (.echoReceived p frame ago) s = exec (.callReceived p) s)
      ∧ (∀ c : RackCheck,
        (r.exch = none → exec (.rackFrameRejected p c) s = .next (dropped (failed c)))
        ∧ (∀ x : Exchange, r.exch = some x →
          (¬due x → exec (.rackFrameRejected p c) s = .next (dropped (failed c)))
          ∧ (due x → exec (.rackFrameRejected p c) s = .next (echoMissed (dropped (failed c)) p)))
        ∧ (judgeRack frame = .bad c → exec (.echoReceived p frame ago) s = exec (.rackFrameRejected p c) s)))
  ∧ (∀ (s : State) (p : Port) (frame : List Byte) (ago : Nat), s.mlc.held = false → (s.port p).canReceive = false →
      let r := s.port p
      let ctr := r.ctr
      let edge : Int := s.clk.elapsed - ago * 4294967296
      let told := fun (x : Option Exchange) => r.state ≠ .down ∧ r.rx = .closed ∧ TickEvent.overtaken p x ∈ s.clk.taken
        ∧ ∀ y : Option Exchange, TickEvent.overtaken p y ∈ s.clk.taken → y = x
      let taken := fun (c : PortCounters) =>
        Host.Outcome.next ((s.settleOvertaken p).setPort p { r with ctr := c })
      ((∀ x : Option Exchange, r.state = .down ∨ r.rx ≠ .closed ∨ TickEvent.overtaken p x ∉ s.clk.taken) →
        exec (.echoReceived p frame ago) s = .next s ∧ exec (.callReceived p) s = .next s
          ∧ ∀ c : RackCheck, exec (.rackFrameRejected p c) s = .next s)
      ∧ (∀ (x : Option Exchange) (e : Echo), told x → judgeRack frame = .echo e →
        (x = none → exec (.echoReceived p frame ago) s = taken { ctr with late := bump ctr.late })
        ∧ (∀ y : Exchange, x = some y →
          (edge < y.stamp → exec (.echoReceived p frame ago) s = .next (s.settleOvertaken p))
          ∧ ((y.stamp : Int) ≤ edge → (y.stamp : Int) + y.window * 4294967296 < edge →
            exec (.echoReceived p frame ago) s = taken { ctr with late := bump ctr.late })
          ∧ ((y.stamp : Int) ≤ edge → edge ≤ (y.stamp : Int) + y.window * 4294967296 → e.tag ≠ y.entry.tag →
            exec (.echoReceived p frame ago) s = taken { ctr with tag := bump ctr.tag })))
      ∧ (∀ x : Option Exchange, told x →
        (r.mode = .polled ∨ r.exch ≠ none → exec (.callReceived p) s = taken { ctr with protocol := bump ctr.protocol })
        ∧ (judgeRack frame = .call → exec (.echoReceived p frame ago) s = exec (.callReceived p) s)
        ∧ exec (.rackFrameRejected p .framing) s = taken { ctr with framing := bump ctr.framing }
        ∧ exec (.rackFrameRejected p .kind) s = taken { ctr with protocol := bump ctr.protocol }
        ∧ exec (.rackFrameRejected p .count) s = taken { ctr with count := bump ctr.count }
        ∧ exec (.rackFrameRejected p .crc) s = taken { ctr with crc := bump ctr.crc }
        ∧ ∀ c : RackCheck, judgeRack frame = .bad c →
          exec (.echoReceived p frame ago) s = exec (.rackFrameRejected p c) s))
  ∧ (∀ (s : State) (p : Port), s.mlc.held = false → (s.port p).state ≠ .down →
      ((s.port p).rx = .closed ∨ (s.port p).rx = .waitIdle →
        exec (.rackReceiverReopen p) s = .next (s.setPort p { s.port p with rx := .looking, tx := none }))
      ∧ ((s.port p).rx = .looking ∨ (s.port p).rx = .receiving → exec (.rackReceiverReopen p) s = .next s))

/-- 04 R71, R72, R78; 03 R54; 05 R82; 06 R116: SET PORT. The loss count and the initial compensation come into force at
once. Enabling a DOWN port takes it to SEEKING with the request's mode, its compensation set, its marks emptied, its record
to SETTLING; disabling takes it to DOWN with its line LOW, its exchange, log and marks gone, its record UNSEEN. On a port
that stays enabled the mode is staged; on one that stays DOWN it is in force.
04 R73, R78; 05 R83; 09 R155 to R158: an enable and a disable raise a RACK marker, a RACK notice and then a PORT notice,
each of cause ENABLE or DISABLE (the order is log entry 32; that the RACK notice carries the O and R after the change, log
entry 57). An addressed one is answered, with DONE_CLAMPED where a field was clamped, before any notice of its own raising
(the model's inference, log entry 40); a broadcast one is not, and a free transmitter may then begin a notice at once. -/
def Obligations.SetPortEnablesDisablesAndStages : Prop :=
  ∀ (s : State) (r : Req), s.Takes kindSetPort r →
    let q := PortReq.read r.payload
    let loss := clampNat 2 255 q.loss
    let comp := clampNat 0 20000 q.comp
    let res : Result := if loss = q.loss ∧ comp = q.comp then .done else .doneClamped
    (16 ≤ q.port ∨ 1 < q.mode → exec (.setPort r) s = .next (s.concluded 0x93 r .invalid []))
    ∧ ∀ (p : Port) (m : Mode), p.val = q.port → m.code = q.mode →
      let x := { s.port p with loss := loss, initComp := comp }
      let marks : PortMarks := ⟨[], none, (s.marks p).ctr⟩
      let leaves := fun (v : State) (record : RackRec) (cause : RackCause) (state : PortState) (why : PortCause) =>
        let w := (v.setMarks p marks).setRack p record
        let rackNotice : NoticeValue := .rack record.state cause record.offset record.rate
        let waiting := rackWaiting 1 s.hdr record.state s.sq.backlog.rack[p]
        let marked := w.setSq { s.sq with backlog := { s.sq.backlog with rack := s.sq.backlog.rack.set p waiting } }
        if r.broadcast then
          ((marked.setMlc (s.mlc.counted res)).raiseNotice (.rack p) rackNotice).raiseNotice (.port p) (.port state why)
        else
          (marked.setNtu ((s.ntu.raise (.rack p) rackNotice s.now.sec).raise (.port p) (.port state why)
            s.now.sec)).concluded 0x93 r res []
      ((s.port p).state = .down → q.enable = false → exec (.setPort r) s =
        .next ((s.setPort p { x with mode := m, staged := none, frozen := none }).concluded 0x93 r res []))
      ∧ ((s.port p).state ≠ .down → q.enable = true → exec (.setPort r) s =
        .next ((s.setPort p { x with staged := some m }).concluded 0x93 r res []))
      ∧ ((s.port p).state = .down → q.enable = true → exec (.setPort r) s = .next (leaves
        ((s.setPort p { x with
            state := .seeking
            secs := 0
            mode := m
            staged := none
            frozen := none
            solicited := false
            missRun := 0
            exch := none
            rx := .waitIdle }).setEds { s.eds with
              comp := s.eds.comp.set p comp, earlyBelow := s.eds.earlyBelow.set p 0 })
        { s.rack p with
          state := .settling
          history := []
          delayCount := 0
          delaySeed := true
          offsetSeed := true
          rate := 0
          alarmIn := 65535
          outlierRun := 0
          watchRun := 0
          alarmRun := 0
          quietRun := 0
          accepted := false } .enable .seeking .enable))
      ∧ ((s.port p).state ≠ .down → q.enable = false → exec (.setPort r) s = .next (leaves
        ((s.setPort p { x with
            state := .down
            secs := 0
            mode := m
            staged := none
            frozen := none
            solicited := false
            missRun := 0
            exch := none
            log := []
            lastEcho := none
            tx := none
            rx := .closed }).setEds { s.eds with level := s.eds.level.set p false })
        { RackRec.initial with ctr := (s.rack p).ctr } .disable .down .disable))

/-- 04 R77; 05 R104 with 03 R54; 07 R139: SET CYCLE stages a permitted divisor with its window clamped to a quarter of the
cycle; SET DRIFT and SET QUEUE take their fields, clamped, at once. A divisor or a policy out of its set is INVALID. The
policy that a SET QUEUE replaced still governs the tick of its receipt. -/
def Obligations.SetCycleSetDriftSetQueueTakeClampedFields : Prop :=
  ∀ (s : State) (r : Req),
    (s.Takes kindSetCycle r →
      let q := CycleReq.read r.payload
      let w := clampNat 20000 (1000000000 / q.divisor / 4) q.window
      let permitted := q.divisor = 1 ∨ q.divisor = 2 ∨ q.divisor = 4 ∨ q.divisor = 8 ∨ q.divisor = 16 ∨ q.divisor = 32
        ∨ q.divisor = 64
      (¬permitted → exec (.setCycle r) s = .next (s.concluded 0x92 r .invalid []))
      ∧ (permitted → exec (.setCycle r) s = .next ((s.setRle { s.rle with staged := some ⟨q.divisor, w⟩ }).concluded
          0x92 r (if w = q.window then .done else .doneClamped) [])))
    ∧ (s.Takes kindSetDrift r →
      let q := DriftReq.read r.payload
      let ow := clampNat 10 100000000 q.offWatch
      let rw := clampNat 1000 100000000 q.rateWatch
      let c : DriftReq := ⟨ow, clampNat ow 100000000 q.offAlarm, rw, clampNat rw 100000000 q.rateAlarm,
        clampNat 10 10000 q.gate, clampNat 1000 500000 q.rtMax, clampNat 0 8 q.kd, clampNat 0 8 q.ko,
        clampNat 10 100000000 q.spreadLimit, clampNat 1 1000 q.compStep⟩
      exec (.setDrift r) s = .next (((s.setDrm { s.drm with cfg := ⟨c.offWatch, c.offAlarm, c.rateWatch, c.rateAlarm,
          c.gate, c.rtMax, c.kd, c.ko, c.spreadLimit⟩ }).setEds { s.eds with compStep := c.compStep }).concluded 0x95 r
        (if c = q then .done else .doneClamped) c.bytes))
    ∧ (s.Takes kindSetQueue r →
      let q := QueueReq.read r.payload
      let w := clampNat 1 1008 q.watermark
      (1 < q.policy → exec (.setQueue r) s = .next (s.concluded 0x9A r .invalid []))
      ∧ ∀ new : Policy, new.code = q.policy → ∃ x : Sq,
        exec (.setQueue r) s = .next ((s.setSq x).concluded 0x9A r (if w = q.watermark then .done else .doneClamped) [])
        ∧ x = { s.sq with policy := new, watermark := w, prior := x.prior }
        ∧ (s.setSq x).policyNow = s.policyNow
        ∧ ∀ c : Clock, c.ticks ≠ s.clk.ticks → ((s.setSq x).setClk c).policyNow = new)

/-- 11 section 11.2: every request payload, laid out as the table of request payloads gives it, is read back field by field
and has its kind's one length, where every field fits its bytes; a reserved bit is ignored.
11 section 11.1: the states, modes, causes and other codes have the numbers of its table.
11 R183: in a block of bytes followed by its CRC, any change of one byte is seen. -/
def Obligations.RequestPayloadsAreReadBackAndCrcsSeeChanges : Prop :=
  ((∀ q : AdjustReq, -2147483648 ≤ q.amount → q.amount < 2147483648 → q.rate < 4294967296 → q.boost < 256 →
      AdjustReq.read q.bytes = q ∧ q.bytes.length = kindAdjust.length)
    ∧ (∀ q : EditReq, q.index < 256 → q.action < 256 → q.offset < 4294967296 →
      EditReq.read q.bytes = q ∧ q.bytes.length = kindScheduleEdit.length)
    ∧ (∀ q : PortReq, q.port < 256 → q.mode < 256 → q.loss < 256 → q.comp < 65536 →
      PortReq.read q.bytes = q ∧ q.bytes.length = kindSetPort.length)
    ∧ (∀ q : DriftReq, q.offWatch < 4294967296 → q.offAlarm < 4294967296 → q.rateWatch < 4294967296 →
      q.rateAlarm < 4294967296 → q.gate < 65536 → q.rtMax < 4294967296 → q.kd < 256 → q.ko < 256 →
      q.spreadLimit < 4294967296 → q.compStep < 65536 →
      DriftReq.read q.bytes = q ∧ q.bytes.length = kindSetDrift.length)
    ∧ (∀ q : QueueReq, q.policy < 256 → q.watermark < 65536 →
      QueueReq.read q.bytes = q ∧ q.bytes.length = kindSetQueue.length)
    ∧ (∀ q : StampsReq, q.maximum < 256 → StampsReq.read q.bytes = q ∧ q.bytes.length = kindStamps.length)
    ∧ (∀ q : LoopReq, q.kp < 256 → q.ki < 256 → q.fmax < 4294967296 → -2147483648 ≤ q.freerun → q.freerun < 2147483648 →
      q.lockThr < 4294967296 → q.unlockThr < 4294967296 → q.stepThr < 4294967296 → q.policy < 256 →
      q.holdLimit < 4294967296 →
      let bs := byte q.kp ++ byte q.ki ++ beNat 4 q.fmax ++ beInt 4 q.freerun ++ beNat 4 q.lockThr ++ beNat 4 q.unlockThr
        ++ beNat 4 q.stepThr ++ byte q.policy ++ beNat 4 q.holdLimit
      LoopReq.read bs = q ∧ bs.length = kindSetLoop.length)
    ∧ (∀ q : LeapReq, -32768 ≤ q.utc → q.utc < 32768 → q.kind < 256 →
      let bs := beInt 2 q.utc ++ byte q.kind ++ beNat 6 q.second.toNat
      LeapReq.read bs = q ∧ bs.length = kindSetLeap.length)
    ∧ (∀ T : RowSec, readSetTime (beNat 6 T.toNat) = T ∧ (beNat 6 T.toNat).length = kindSetTime.length)
    ∧ (∀ (q : ReferenceReq) (reserved : Nat), q.input < 256 → q.priority < 256 → q.cable < 4294967296 →
      q.tol < 4294967296 → q.qmax < 256 → reserved < 64 →
      let bs := byte q.input ++ byte (q.enable.toNat + 2 * q.revertive.toNat + 4 * reserved) ++ byte q.priority
        ++ beNat 4 q.cable ++ beNat 4 q.tol ++ byte q.qmax
      ReferenceReq.read bs = q ∧ bs.length = kindSetReference.length)
    ∧ (∀ q : CycleReq, q.divisor < 256 → q.window < 4294967296 →
      let bs := byte q.divisor ++ beNat 4 q.window
      CycleReq.read bs = q ∧ bs.length = kindSetCycle.length)
    ∧ (∀ q : LineReq, q.line < 256 → q.mode < 256 → q.width < 65536 → q.delay < 65536 → q.runt < 256 →
      let bs := byte q.line ++ byte q.mode ++ beNat 2 q.width ++ beNat 2 q.delay ++ byte q.runt
      LineReq.read bs = q ∧ bs.length = kindSetLine.length)
    ∧ (∀ q : ScheduleReq, q.view < 256 → q.first < 256 → q.count < 256 →
      let bs := byte q.view ++ byte q.first ++ byte q.count
      ScheduleReq.read bs = q ∧ bs.length = kindReadSchedule.length)
    ∧ (∀ (q : PortRead) (reserved : Nat), q.port < 256 → reserved < 128 →
      let bs := byte q.port ++ byte (q.clear.toNat + 2 * reserved)
      PortRead.read bs = q ∧ bs.length = kindReadPort.length ∧ bs.length = kindReadRack.length)
    ∧ (∀ (q : LinesReq) (reserved : Nat), q.view < 256 → q.port < 256 → reserved < 128 →
      let bs := byte q.view ++ byte q.port ++ byte (q.clear.toNat + 2 * reserved)
      LinesReq.read bs = q ∧ bs.length = kindReadLines.length)
    ∧ (∀ (masks : BitVec 12) (reserved : Nat), reserved < 16 →
      let bs := beNat 2 (masks.toNat + 4096 * reserved)
      readMasks bs = masks ∧ bs.length = kindSetNotices.length)
    ∧ (∀ (clear : Bool) (reserved : Nat), reserved < 128 →
      let bs := byte (clear.toNat + 2 * reserved)
      clearFlag bs 0 = clear ∧ bs.length = kindStatus.length ∧ bs.length = kindReadReference.length)
    ∧ (∀ k ∈ [kindIdentify, kindRestart, kindReadTime, kindLatch, kindReadStrobe, kindReadLoop, kindScheduleCommit,
      kindScheduleDiscard, kindReadRow, kindPoll], k.length = 0))
  ∧ ([TsState.freerun, .acquiring, .locked, .holdover].map TsState.code = [0, 1, 2, 3]
    ∧ [Grade.a, .b, .c, .d].map Grade.code = [0, 1, 2, 3]
    ∧ [Input.a, .b].map inputCode = [0, 1]
    ∧ [InputState.off, .absent, .checking, .qualified, .disqualified].map InputState.code = [0, 1, 2, 3, 4]
    ∧ [Cause.good, .interval, .noMessage, .checksum, .content, .sequence, .quality, .missingPulse].map Cause.code =
      [0, 1, 2, 3, 4, 5, 6, 7]
    ∧ [StepPolicy.never, .acquireOnly, .always].map StepPolicy.code = [0, 1, 2]
    ∧ (∀ e : RowSec, [Leap.none, .insert e, .delete e].map Leap.code = [0, 1, 2])
    ∧ [Action.rise, .fall, .tick].map Action.code = [0, 1, 2]
    ∧ [PortState.down, .seeking, .up, .faulted].map PortState.code = [0, 1, 2, 3]
    ∧ [Mode.polled, .quiet].map Mode.code = [0, 1]
    ∧ [RackState.unseen, .settling, .settled, .watch, .drifting, .lost].map RackState.code = [0, 1, 2, 3, 4, 5]
    ∧ [LineMode.off, .rise, .fall, .both, .high, .low].map LineMode.code = [0, 1, 2, 3, 4, 5]
    ∧ [Policy.keepOldest, .keepNewest].map Policy.code = [0, 1]
    ∧ [StrobeSource.hstb, .latch].map StrobeSource.code = [0, 1]
    ∧ [ResetCause.powerOn, .pin, .request].map ResetCause.code = [0, 1, 2])
  ∧ (∀ (bs : List Byte) (i : Nat) (b : Byte) (h : i < (withCrc bs).length), b ≠ (withCrc bs)[i] →
      crcGood (withCrc bs) = true ∧ crcGood ((withCrc bs).set i b) = false)

/-! ### Rack records -/

/-- 05 R84 to R91: one sample. Of another generation it is STALE; with a round trip below 0 or above the limit, or a
turnaround above the exchange's window, IMPLAUSIBLE: each is counted, noted, and leaves the averages. A plausible one that
is no outlier sets D to half the round trip where the delay seed is pending and moves it by the rounded 2^-k part of the
difference where not; o = rack receive − L − D then does the same with O. From 500,000,000 ns on o is gross: O stands at the
limit, the offset seed is pending under a step hold, and without one a record in SETTLING, SETTLED or WATCH is DRIFTING. That
a gross sample's outcome is that of its delay stage is the model's inference (log entry 27).
05 R88, R90, R91: samples outside the outlier gate of a record whose D is valid are set aside, and the fourth in a row
re-seeds D, hands on the new and the old D for a PATH notice, and seeds O by the same sample, outcome RESEEDED; a gross o is
taken there as above.
04 R67: the two rack flags of a sample change nothing here. -/
def Obligations.SamplesSeedAndAverageDelayAndOffset : Prop :=
  (∀ (r : RackRec) (cfg : DriftCfg) (gen : Gen) (x : Sample),
      let trt := x.arrival.diff x.entry.left - x.turn
      let plausible := 0 ≤ trt ∧ trt ≤ cfg.rtMax ∧ x.turn ≤ x.window
      let half := roundDiv trt 2
      let d := if r.delaySeed then half else r.delay + roundDiv (half - r.delay) (2 ^ cfg.kd)
      let o := (x.rxSec - x.entry.left.sec.setWidth 16).toInt * 1000000000 + x.rxNs - x.entry.left.ns - d
      let y := { r with
        delay := d
        delayCount := if r.delaySeed then 1 else min 8 (r.delayCount + 1)
        delaySeed := false
        outlierRun := 0
        accepted := true }
      let g := { y with
        offset := if 0 ≤ o then 500000000 else -500000000
        offsetSeed := decide (0 < r.stepHold)
        ctr := { r.ctr with gross := bump r.ctr.gross }
        last := some ⟨x.entry.tag, some trt, some half, some o, if r.delaySeed then .seeded else .accepted⟩ }
      (x.entry.gen ≠ gen → r.sample cfg gen x =
        ⟨{ r with
          last := some ⟨x.entry.tag, none, none, none, .stale⟩
          ctr := { r.ctr with stale := bump r.ctr.stale } }, none, false⟩)
      ∧ (x.entry.gen = gen → ¬plausible → r.sample cfg gen x =
        ⟨{ r with
          last := some ⟨x.entry.tag, some trt, none, none, .implausible⟩
          ctr := { r.ctr with implausible := bump r.ctr.implausible } }, none, false⟩)
      ∧ (x.entry.gen = gen → plausible →
        (r.delaySeed = true ∨ r.delayCount ≠ 8 ∨ (half - r.delay).natAbs ≤ cfg.gate) →
        (o.natAbs < 500000000 → r.sample cfg gen x =
          ⟨{ y with
            offset := if r.offsetSeed then o else r.offset + roundDiv (o - r.offset) (2 ^ cfg.ko)
            offsetSeed := false
            last := some ⟨x.entry.tag, some trt, some half, some o,
              if r.delaySeed ∨ r.offsetSeed then .seeded else .accepted⟩ }, none, false⟩)
        ∧ (500000000 ≤ o.natAbs → r.stepHold = 0 → r.state = .settling ∨ r.state = .settled ∨ r.state = .watch →
          r.sample cfg gen x =
            ⟨{ g with state := .drifting, watchRun := 0, alarmRun := 0, quietRun := 0 }, none, true⟩)
        ∧ (500000000 ≤ o.natAbs →
          0 < r.stepHold ∨ (r.state ≠ .settling ∧ r.state ≠ .settled ∧ r.state ≠ .watch) →
          r.sample cfg gen x = ⟨g, none, false⟩)))
  ∧ (∀ (r : RackRec) (cfg : DriftCfg) (gen : Gen) (x : Sample),
      let trt := x.arrival.diff x.entry.left - x.turn
      let d := roundDiv trt 2
      x.entry.gen = gen → 0 ≤ trt → trt ≤ cfg.rtMax → x.turn ≤ x.window → r.delaySeed = false → r.delayCount = 8 →
      cfg.gate < (d - r.delay).natAbs →
      let o := (x.rxSec - x.entry.left.sec.setWidth 16).toInt * 1000000000 + x.rxNs - x.entry.left.ns - d
      let y := { r with
        delay := d
        delayCount := 1
        outlierRun := 0
        accepted := true
        ctr := { r.ctr with outliers := bump r.ctr.outliers, reseeds := bump r.ctr.reseeds }
        last := some ⟨x.entry.tag, some trt, some d, some o, .reseeded⟩ }
      let g := { y with
        offset := if 0 ≤ o then 500000000 else -500000000
        offsetSeed := decide (0 < r.stepHold)
        ctr := { y.ctr with gross := bump r.ctr.gross } }
      (r.outlierRun < 3 → r.sample cfg gen x =
        ⟨{ r with
          outlierRun := r.outlierRun + 1
          last := some ⟨x.entry.tag, some trt, some d, none, .outlier⟩
          ctr := { r.ctr with outliers := bump r.ctr.outliers } }, none, false⟩)
      ∧ (3 ≤ r.outlierRun → o.natAbs < 500000000 →
        r.sample cfg gen x = ⟨{ y with offset := o, offsetSeed := false }, some (d, r.delay), false⟩)
      ∧ (3 ≤ r.outlierRun → 500000000 ≤ o.natAbs → r.stepHold = 0 →
        r.state = .settling ∨ r.state = .settled ∨ r.state = .watch →
        r.sample cfg gen x =
          ⟨{ g with state := .drifting, watchRun := 0, alarmRun := 0, quietRun := 0 }, some (d, r.delay), true⟩)
      ∧ (3 ≤ r.outlierRun → 500000000 ≤ o.natAbs →
        0 < r.stepHold ∨ (r.state ≠ .settling ∧ r.state ≠ .settled ∧ r.state ≠ .watch) →
        r.sample cfg gen x = ⟨g, some (d, r.delay), false⟩))
  ∧ (∀ (r : RackRec) (cfg : DriftCfg) (gen : Gen) (x : Sample) (stepped holdover : Bool),
      r.sample cfg gen { x with stepped := stepped, holdover := holdover } = r.sample cfg gen x)

/-- 05 R97 to R99: an evaluation. The runs count the alarms, watches and quiet seconds in a row. A first evaluation takes
SETTLING to DRIFTING on an alarm, else to WATCH on a watch, else to SETTLED. A third alarm in a row takes SETTLED and WATCH
to DRIFTING; otherwise a third watch takes SETTLED to WATCH, and a tenth quiet second WATCH and DRIFTING to SETTLED. Without
these the state stays: SETTLED unless this second is the third alarm or the third watch in a row, WATCH unless it is the third
alarm or the tenth quiet one, DRIFTING unless it is the tenth quiet one; so it stays too where a run long enough before is
broken by this second. A change of state sets the runs to 0. -/
def Obligations.WarningsNeedTheirRuns : Prop :=
  ∀ (r : RackRec) (cfg : DriftCfg),
    let alarm := cfg.offAlarm < r.offset.natAbs ∨ cfg.rateAlarm < r.rate.natAbs
    let watch := cfg.offWatch < r.offset.natAbs ∨ cfg.rateWatch < r.rate.natAbs
    let y := r.evaluate cfg
    (alarm → r.state = .settling → y.state = .drifting)
    ∧ (¬alarm → watch → r.state = .settling → y.state = .watch)
    ∧ (¬alarm → ¬watch → r.state = .settling → y.state = .settled)
    ∧ (r.state = .settled → ¬alarm ∨ r.alarmRun < 2 → ¬watch ∨ r.watchRun < 2 → y.state = .settled)
    ∧ (r.state = .watch → ¬alarm ∨ r.alarmRun < 2 → watch ∨ r.quietRun < 9 → y.state = .watch)
    ∧ (r.state = .drifting → watch ∨ r.quietRun < 9 → y.state = .drifting)
    ∧ (alarm → 2 ≤ r.alarmRun → r.state = .settled ∨ r.state = .watch → y.state = .drifting)
    ∧ (watch → 2 ≤ r.watchRun → ¬alarm ∨ r.alarmRun < 2 → r.state = .settled → y.state = .watch)
    ∧ (¬watch → ¬alarm ∨ r.alarmRun < 2 → 9 ≤ r.quietRun → r.state = .watch → y.state = .settled)
    ∧ (¬watch → 9 ≤ r.quietRun → r.state = .drifting → y.state = .settled)
    ∧ (y.state ≠ r.state →
      y = { r with state := y.state, alarmRun := 0, watchRun := 0, quietRun := 0 })
    ∧ (y.state = r.state →
      y = { r with
        alarmRun := if alarm then (if r.alarmRun + 1 ≤ 255 then r.alarmRun + 1 else 255) else 0
        watchRun := if watch then (if r.watchRun + 1 ≤ 255 then r.watchRun + 1 else 255) else 0
        quietRun := if watch then 0 else (if r.quietRun + 1 ≤ 255 then r.quietRun + 1 else 255) })

/-- 05 R92 to R96, R100: at a second boundary each record's step hold falls by 1, but not at the boundary of the step that
set it. A record of an UP port with an accepted sample and no step hold pushes O into its history of 16, works out R and the
time to alarm from it, and is evaluated once the ring is full (WarningsNeedTheirRuns says how). Any other only clears the
mark of the accepted sample. A step taken there sets the hold of 4 and the offset seed of every record but an UNSEEN one,
before or after this work as the command says (log entries 8 and 16). A departure of the boundary tick that overtakes an
exchange and so faults its port (DepartureOpensItsExchange) is no part of this.
05 R83, R97: an evaluation that changes the state raises a RACK marker, with the capture, the grade and the generation after
any step, and a RACK notice of cause EVALUATION with the O and R then in force; where no notice goes out it enters the
pending set or merges there.
05 R102, R103: the row spread is the greatest less the least O of at least two valid records, the earlier port among equals;
the number of valid records is recorded with it; its flag is set above the limit, and a change of the flag raises a SPREAD
notice. The model's own: with fewer than two valid records their number is recorded and the row second is not (log entry
56), the order of the blocks (log entry 15), and that the command lets the ticks up to the roll pass (log entry 4). -/
def Obligations.EachSecondPushesHistoryAndSpread : Prop :=
  (∀ (s : State) (drmFirst : Bool) (receiving : BitVec 16), s.mlc.held = false →
      let u := s.runTicks s.ticksToRoll
      s.tsu.mark ≠ some u.tsu.ts.sec →
      let stays := fun (p : Port) =>
        (s.port p).exch = none ∨ (0 < s.comp p ∧ 1000000000 ≤ u.clk.tickFrom.ns + s.comp p) ∨ (s.port p).state ≠ .up
          ∨ (s.port p).missRun + 1 < (s.port p).loss
      ∃ t : State, exec (.secondBoundary ⟨drmFirst, receiving⟩) s = .next t
        ∧ (drmFirst = false ∨ (∀ p : Port, stays p) → t.drm.spread = t.rowSpread u.tsu.ts.sec
          ∧ t.drm.counted = allPorts.countP (fun p => decide
            ((t.rack p).state = .settled ∨ (t.rack p).state = .watch ∨ (t.rack p).state = .drifting)))
        ∧ t.drm.high = (match t.drm.spread with
          | none => false
          | some x => decide ((s.drm.cfg.spreadLimit : Int) < x.ns))
        ∧ ∀ p : Port, stays p →
          let r := s.rack p
          let lowered := if r.holdFresh then { r with holdFresh := false } else { r with stepHold := r.stepHold - 1 }
          let y := lowered.eachSecond s.drm.cfg (s.port p).state
          (t.tsu.gen = s.tsu.gen ∨ r.state = .unseen → t.rack p = y)
          ∧ (t.tsu.gen ≠ s.tsu.gen → r.state ≠ .unseen → drmFirst = true →
            t.rack p = { y with stepHold := 4, holdFresh := false, offsetSeed := true })
          ∧ (t.tsu.gen ≠ s.tsu.gen → r.state ≠ .unseen → drmFirst = false →
            t.rack p = { r with stepHold := 4, holdFresh := false, offsetSeed := true, accepted := false })
          ∧ (let changes := if (t.rack p).state = r.state then 0 else 1
            t.sq.backlog.rack[p] = rackWaiting changes ⟨t.now, t.tsu.grade, t.tsu.gen⟩ (t.rack p).state s.sq.backlog.rack[p]
            ∧ (s.mlc.mode = .shared ∨ s.mlc.owner ≠ .free → t.ntu.at (.rack p) = noticed changes
              (.rack (t.rack p).state .evaluation (t.rack p).offset (t.rack p).rate) t.now.sec (s.ntu.at (.rack p)))))
  ∧ (∀ (r : RackRec) (cfg : DriftCfg) (st : PortState),
      let h := if r.history.length < 16 then r.history ++ [r.offset] else r.history.drop 1 ++ [r.offset]
      let rate : Int :=
        if h.length < 2 then 0
        else clamp (-100000000) 100000000 (roundDiv ((r.offset - h.head?.getD 0) * 1000) (h.length - 1))
      let alarmIn : Nat :=
        if cfg.offAlarm ≤ r.offset.natAbs then 0
        else if rate = 0 ∨ (0 < r.offset ∧ rate < 0) ∨ (r.offset < 0 ∧ 0 < rate) then 65535
        else min 65535 ((cfg.offAlarm - r.offset.natAbs) * 1000 / rate.natAbs)
      let x := { r with history := h, rate := rate, alarmIn := alarmIn }
      let takes := st = .up ∧ r.accepted = true ∧ r.stepHold = 0
      (¬takes → r.eachSecond cfg st = { r with accepted := false })
      ∧ (takes → r.history.length < 15 → r.eachSecond cfg st = { x with accepted := false })
      ∧ (takes → r.history.length = 15 ∨ r.history.length = 16 →
        (r.state = .unseen ∨ r.state = .lost → r.eachSecond cfg st = { x with accepted := false })
        ∧ (r.state ≠ .unseen → r.state ≠ .lost →
          r.eachSecond cfg st = { x.evaluate cfg with accepted := false })))
  ∧ (∀ (s : State) (sec : RowSec),
      let valid := fun (p : Port) => (s.rack p).state = .settled ∨ (s.rack p).state = .watch ∨ (s.rack p).state = .drifting
      let n := allPorts.countP (fun p => decide (valid p))
      (n < 2 → s.rowSpread sec = none)
      ∧ (∀ hi lo : Port, 2 ≤ n → valid hi → valid lo →
        (∀ p : Port, valid p → (s.rack p).offset < (s.rack hi).offset
          ∨ ((s.rack p).offset = (s.rack hi).offset ∧ hi ≤ p)) →
        (∀ p : Port, valid p → (s.rack lo).offset < (s.rack p).offset
          ∨ ((s.rack p).offset = (s.rack lo).offset ∧ lo ≤ p)) →
        s.rowSpread sec = some ⟨(s.rack hi).offset - (s.rack lo).offset, hi, lo, sec⟩)
      ∧ (let sp := s.rowSpread sec
        let high := match sp with
          | none => false
          | some x => decide ((s.drm.cfg.spreadLimit : Int) < x.ns)
        let t := s.setDrm { s.drm with spread := sp, counted := n, high := high }
        (high = s.drm.high → s.takeSpread sec = t)
        ∧ (high ≠ s.drm.high →
          s.takeSpread sec = t.raiseNotice .spread (.spread high sp s.drm.cfg.spreadLimit))))

/-! ### Local lines and marks -/

/-- 06 section 6.1: the active edge of each mode, as its table gives it: none in OFF, low to high in RISE and HIGH, high to low
in FALL and LOW, either in BOTH.
06 R108 to R111: an edge of a line without WAIT_RELEASE, as its latch finds it, at a tick at which the line has not been
sampled. An active edge finds EMPTY: it is captured, and without a width held at once, its time less the input delay. One
that finds the latch HELD is an overrun. An edge that ends a qualification is a runt, reported or not as configured; in BOTH
it is then an active edge, an overrun behind a reported runt and else captured. An inactive edge only changes the sample.
06 R112: an edge to the inactive level releases WAIT_RELEASE; an active edge there is no overrun.
06 R108: a line has one sample a tick, so on one that has been sampled at this tick the edge falls at the next, and nothing
happens where that tick would roll (log entry 42).
06 R109: when the elapsed time since the edge tick reaches the width, the latch is HELD with the edge's record, its time
less the input delay, and the qualified counter rises by 1. The command lets the ticks up to the instant pass (log entry 4),
and one commanded after its instant acts at the present tick: the model's choice (log entry 36). -/
def Obligations.LineEdgesQualifyOrAreCounted : Prop :=
  (∀ (s : State) (l : Line) (level : Bool), s.mlc.held = false → (s.line l).sample ≠ level →
      TickEvent.pins ∉ s.clk.taken → TickEvent.line l ∉ s.clk.taken →
      let r := s.line l
      let c : EdgeCapture := ⟨s.now, level, s.tsu.grade, s.tsu.gen, s.clk.elapsed⟩
      let active : Bool := match r.cfg.mode with
        | .off => false
        | .rise => level
        | .fall => !level
        | .both => true
        | .high => level
        | .low => !level
      let now : LocalRec := ⟨s.now.plus (-(r.cfg.delay : Int)), level, s.tsu.grade, s.tsu.gen, false⟩
      let leaves := fun (x : LineRec) =>
        Host.Outcome.next ((s.setLine l { x with sample := level }).setClk { s.clk with taken := .line l :: s.clk.taken })
      (active = true → r.latch = .empty → 0 < r.cfg.width →
        exec (.lineEdge l level) s = leaves { r with latch := .qualifying c })
      ∧ (active = true → r.latch = .empty → r.cfg.width = 0 → exec (.lineEdge l level) s = leaves { r with
          latch := .held now, ctr := { r.ctr with qualified := bump r.ctr.qualified } })
      ∧ (∀ h : LocalRec, active = true → r.latch = .held h → exec (.lineEdge l level) s = leaves { r with
          ctr := { r.ctr with overruns := bump r.ctr.overruns } })
      ∧ (∀ q : EdgeCapture, r.latch = .qualifying q → q.rising ≠ level →
        let report : LocalRec := ⟨q.cap.plus (-(r.cfg.delay : Int)), q.rising, q.grade, q.gen, true⟩
        (active = false → exec (.lineEdge l level) s = leaves { r with
          latch := if r.cfg.runt then .held report else .empty, ctr := { r.ctr with runts := bump r.ctr.runts } })
        ∧ (active = true → r.cfg.runt = true → exec (.lineEdge l level) s = leaves { r with
          latch := .held report
          ctr := { r.ctr with runts := bump r.ctr.runts, overruns := bump r.ctr.overruns } })
        ∧ (active = true → r.cfg.runt = false → 0 < r.cfg.width → exec (.lineEdge l level) s = leaves { r with
          latch := .qualifying c, ctr := { r.ctr with runts := bump r.ctr.runts } })
        ∧ (active = true → r.cfg.runt = false → r.cfg.width = 0 → exec (.lineEdge l level) s = leaves { r with
          latch := .held now
          ctr := { r.ctr with runts := bump r.ctr.runts, qualified := bump r.ctr.qualified } }))
      ∧ (active = false → r.latch = .empty → exec (.lineEdge l level) s = leaves r)
      ∧ (∀ h : LocalRec, active = false → r.latch = .held h → exec (.lineEdge l level) s = leaves r)
      ∧ (r.latch = .waitRelease → exec (.lineEdge l level) s = leaves { r with
          latch := if active then .waitRelease else .empty }))
  ∧ (∀ (s : State) (l : Line) (level : Bool), s.mlc.held = false →
      ((s.line l).sample = level → exec (.lineEdge l level) s = .next s)
      ∧ ((s.line l).sample ≠ level → TickEvent.pins ∈ s.clk.taken ∨ TickEvent.line l ∈ s.clk.taken → 1 < s.ticksToRoll →
        exec (.lineEdge l level) s = exec (.lineEdge l level) (s.runTicks 1))
      ∧ ((s.line l).sample ≠ level → TickEvent.pins ∈ s.clk.taken ∨ TickEvent.line l ∈ s.clk.taken → s.ticksToRoll ≤ 1 →
        exec (.lineEdge l level) s = .next s))
  ∧ (∀ (s t : State) (l : Line) (q : EdgeCapture), s.mlc.held = false → (s.line l).latch = .qualifying q →
      s.reachElapsed q.stamp (s.line l).cfg.width = some t →
      exec (.qualificationExpiry l) s = .next (t.setLine l { s.line l with
        latch := .held ⟨q.cap.plus (-((s.line l).cfg.delay : Int)), q.rising, q.grade, q.gen, false⟩
        ctr := { (s.line l).ctr with qualified := bump (s.line l).ctr.qualified } }))

/-- 06 R121, R112: an accepted SET LINE replaces the line's configuration, its width clamped to 10,000 ns, and abandons
the latch's contents: a level mode whose level the line shows waits for release, any other is EMPTY. A line, mode or runt
policy out of its set is INVALID. -/
def Obligations.SetLineAbandonsTheLatch : Prop :=
  ∀ (s : State) (r : Req), s.Takes kindSetLine r →
    let q := LineReq.read r.payload
    (8 ≤ q.line ∨ 5 < q.mode ∨ 1 < q.runt → exec (.setLine r) s = .next (s.concluded 0x98 r .invalid []))
    ∧ ∀ (l : Line) (m : LineMode), l.val = q.line → m.code = q.mode → q.runt ≤ 1 →
      exec (.setLine r) s = .next ((s.setLine l { s.line l with
        cfg := ⟨m, min q.width 10000, q.delay, decide (q.runt = 1)⟩
        latch :=
          if (m = .high ∧ (s.line l).sample = true) ∨ (m = .low ∧ (s.line l).sample = false) then .waitRelease
          else .empty }).concluded 0x98 r (if q.width ≤ 10000 then .done else .doneClamped) [])

/-- 06 R113, R114: of an ECHO's marks, one whose sequence is next-expected or up to 126 ahead, or any where next-expected is
unset, is a candidate; the others are duplicates. A candidate that finds 24 marks in the buffer stops acceptance. An accepted
one joins the buffer, sets next-expected to its sequence plus 1 and counts the sequences it skipped.
06 R117 to R120: its time is L of the newest departure with its reference tag, plus D, plus the mark offset m less the
rounded m R / 10^12, plus the sum of the steps since, where the step history tells them. A time after the arrival is
clamped to it. Without the departure or the steps it takes the arrival time. Either then has grade D; any other has the
worse of the timescale's and the rack's grade, one level lower after a step. -/
def Obligations.MarksAreAcceptedInSequence : Prop :=
  (∀ (d : Dating) (k : MarkIn) (ks : List MarkIn) (x : PortMarks),
      (∀ n : Byte, x.nextExp = some n → 126 < (k.seq - n).toNat →
        PortMarks.takeMarks d (k :: ks) x =
          PortMarks.takeMarks d ks { x with ctr := { x.ctr with duplicates := bump x.ctr.duplicates } })
      ∧ ∀ skipped : Nat, (x.nextExp = none ∧ skipped = 0
          ∨ ∃ n : Byte, x.nextExp = some n ∧ skipped = (k.seq - n).toNat ∧ skipped ≤ 126) →
        (24 ≤ x.buf.length →
          PortMarks.takeMarks d (k :: ks) x = { x with ctr := { x.ctr with fullStops := bump x.ctr.fullStops } })
        ∧ (x.buf.length < 24 →
          let accepts := fun (t : Time) (g : Grade) (corrected clamped lost : Bool) (c : MarkCounters) =>
            PortMarks.takeMarks d (k :: ks) x = PortMarks.takeMarks d ks
              { buf := x.buf ++ [⟨t, g, d.gen, k.shelf, k.kind, k.seq, ⟨corrected, decide (0 < skipped), clamped, lost⟩⟩]
                nextExp := some (k.seq + 1)
                ctr := { c with
                  accepted := bump x.ctr.accepted
                  gaps := if x.ctr.gaps + skipped ≤ 65535 then x.ctr.gaps + skipped else 65535 } }
          let lost := accepts d.arrival .d false false true { x.ctr with unreferenced := bump x.ctr.unreferenced }
          (d.log.find? (fun e => e.tag == k.ref) = none → lost)
          ∧ ∀ e : LogEntry, d.log.find? (fun e => e.tag == k.ref) = some e →
            let steps := (d.gen - e.gen).toNat
            (4 < steps ∨ d.hist.length < steps → lost)
            ∧ (steps ≤ 4 → steps ≤ d.hist.length →
              let t := e.left.plus (d.delay + (k.m - roundDiv (k.m * d.rate) 1000000000000)
                + ((d.hist.take steps).map (·.amount)).sum)
              let g := d.scale.worse d.rack.grade
              (0 < t.diff d.arrival → d.gen = e.gen →
                accepts d.arrival .d false true false { x.ctr with clamped := bump x.ctr.clamped })
              ∧ (0 < t.diff d.arrival → d.gen ≠ e.gen → accepts d.arrival .d true true false { x.ctr with
                  clamped := bump x.ctr.clamped, corrected := bump x.ctr.corrected })
              ∧ (t.diff d.arrival ≤ 0 → d.gen = e.gen → accepts t g false false false x.ctr)
              ∧ (t.diff d.arrival ≤ 0 → d.gen ≠ e.gen →
                accepts t g.lower true false false { x.ctr with corrected := bump x.ctr.corrected }))))
  ∧ (∀ g h : Grade, (g.worse h).code = max g.code h.code ∧ g.lower.code = min 3 (g.code + 1))
  ∧ RackState.grade .settled = .a ∧ RackState.grade .watch = .b ∧ RackState.grade .settling = .c
  ∧ RackState.grade .drifting = .c ∧ RackState.grade .lost = .d

/-! ### The stamp queue -/

/-- 07 R133: one loss. It enters the GAP entry, whose header stays that of the first; where none waited a QUEUE_GAP notice
is raised, with the fill as it is then (log entry 28). -/
def lossCounted (s : State) : State :=
  let gap : CountWait := match s.sq.backlog.gap with
    | none => ⟨s.hdr, 1⟩
    | some g => ⟨g.hdr, if g.count + 1 ≤ 4294967295 then g.count + 1 else 4294967295⟩
  let t := s.setSq { s.sq with backlog := { s.sq.backlog with gap := some gap } }
  if s.sq.backlog.gap = none then t.raiseNotice .queueGap (.queueGap 1 s.sq.queue.length) else t

/-- 07 R135: `n` head records discarded, each counted as a loss in its turn (log entry 28). -/
def headsDiscarded : Nat → State → State
  | 0, s => s
  | n + 1, s => headsDiscarded n (lossCounted (s.setSq { s.sq with queue := s.sq.queue.drop 1 }))

/-- 07 R125, R132: records join the queue at its tail, numbered on; where the fill has risen from `before`, below the
watermark, to the watermark or above, a QUEUE_LEVEL notice is raised. With heads discarded, `before` is the fill before the
discards (log entry 28). -/
def joined (s : State) (before : Nat) (records : List (Hdr × Body)) : State :=
  let t := s.setSq { s.sq with
    queue := s.sq.queue ++ records.mapIdx (fun i x => ⟨s.sq.nextSeq + BitVec.ofNat 32 i, x.1, x.2⟩)
    nextSeq := s.sq.nextSeq + BitVec.ofNat 32 records.length }
  if before < s.sq.watermark ∧ s.sq.watermark ≤ t.sq.queue.length then
    t.raiseNotice .queueLevel (.queueLevel t.sq.queue.length s.sq.watermark)
  else t

/-- 07 section 7.3; 06 R112, R115: source `i` offers a record, and `t` is the state without it: a line's latch, sources 0 to
7, is released, to WAIT_RELEASE in a level mode whose level the line shows; a port's buffer, sources 8 to 23, gives up its
oldest mark. -/
def Offers (s : State) (i : Fin 24) (h : Hdr) (b : Body) (t : State) : Prop :=
  (∃ (l : Line) (r : LocalRec), i.val = l.val ∧ (s.line l).latch = .held r ∧ h = ⟨r.time, r.grade, r.gen⟩
    ∧ b = .localLine l r.rising r.runt
    ∧ t = s.setLine l { s.line l with
        latch :=
          if ((s.line l).cfg.mode = .high ∧ (s.line l).sample = true)
            ∨ ((s.line l).cfg.mode = .low ∧ (s.line l).sample = false) then .waitRelease
          else .empty })
  ∨ (∃ (p : Port) (k : MarkRec) (ks : List MarkRec), i.val = 8 + p.val ∧ (s.marks p).buf = k :: ks
    ∧ h = ⟨k.time, k.grade, k.gen⟩ ∧ b = .rackMark p k.shelf k.kind k.seq k.flags
    ∧ t = s.setMarks p { s.marks p with buf := ks })

/-- 07 R128: the backlog entry that is admitted first: STEP, TSTATE, LEAP, TICK, RACK 0 to 15.
07 R129 to R131, R135: it becomes the tail record and leaves the backlog where the fill is below 1,024, or, under
KEEP_NEWEST, after one head discard; the rotation pointer stays. The policy is the one that governs this tick (R139).
That under KEEP_NEWEST losses are counted one by one, a QUEUE_GAP notice carrying the fill after the first removal, and that
QUEUE_LEVEL compares the fill before the discards, is the model's inference (log entry 28).
07 R129, R130, R133 to R135; 06 R112: else the first source after the pointer, in a search round to the pointer itself,
that the policy lets be served: a line always, a port under KEEP_NEWEST or where its record fits, below 1,008 or, with a
GAP entry waiting, below 1,007. Where it fits, its record joins, the GAP entry ahead of it. Where not, KEEP_NEWEST discards
heads until it does, and KEEP_OLDEST refuses a line's record, counting a discard and a loss. The pointer moves to the
source. With nothing to serve nothing changes.
07 R129: at a tick at which the arbiter has acted the admission is the next tick's, and nothing where that tick would roll
(log entry 29). -/
def Obligations.AdmissionServesBacklogThenSources : Prop :=
  (∀ b : Backlog,
      (∀ e : StepWait, b.step = some e → b.next = some (e.hdr, .step e.count e.amount, { b with step := none }))
      ∧ (∀ e : TstateWait, b.step = none → b.tstate = some e →
        b.next = some (e.hdr, .tstate e.state e.count, { b with tstate := none }))
      ∧ (∀ e : LeapWait, b.step = none → b.tstate = none → b.leap = some e →
        b.next = some (e.hdr, .leap e.cause e.utc, { b with leap := none }))
      ∧ (∀ e : CountWait, b.step = none → b.tstate = none → b.leap = none → b.tick = some e →
        b.next = some (e.hdr, .tick e.count, { b with tick := none }))
      ∧ (∀ (p : Port) (e : RackWait), b.step = none → b.tstate = none → b.leap = none → b.tick = none →
        b.rack[p] = some e → (∀ q : Port, q < p → b.rack[q] = none) →
        b.next = some (e.hdr, .rack p e.state e.count, { b with rack := b.rack.set p none }))
      ∧ (b.step = none → b.tstate = none → b.leap = none → b.tick = none → (∀ p : Port, b.rack[p] = none) →
        b.next = none))
  ∧ (∀ s : State, s.mlc.held = false → TickEvent.arbiter ∉ s.clk.taken →
      let fill := s.sq.queue.length
      let fits := if s.sq.backlog.gap = none then fill < 1008 else fill < 1007
      let leaves := fun (t : State) =>
        Host.Outcome.next (t.setClk { t.clk with taken := .arbiter :: t.clk.taken })
      (∀ (h : Hdr) (m : Marker) (b : Backlog), s.sq.backlog.next = some (h, m, b) →
        (fill < 1024 →
          exec .admission s = leaves (joined (s.setSq { s.sq with backlog := b }) fill [(h, .marker m)]))
        ∧ (1024 ≤ fill → s.policyNow = .keepNewest →
          let t := headsDiscarded 1 s
          exec .admission s =
            leaves (joined (t.setSq { t.sq with backlog := { b with gap := t.sq.backlog.gap } }) fill [(h, .marker m)])))
      ∧ (s.sq.backlog.next = none ∨ (1024 ≤ fill ∧ s.policyNow = .keepOldest) →
        let serves := fun (i : Fin 24) => (∃ (h : Hdr) (b : Body) (t : State), Offers s i h b t)
          ∧ (i.val < 8 ∨ s.policyNow = .keepNewest ∨ fits)
        ((∀ i : Fin 24, ¬serves i) → exec .admission s = .next s)
        ∧ ∀ (i : Fin 24) (h : Hdr) (b : Body) (t : State), serves i → Offers s i h b t →
          (∀ j : Fin 24, serves j → (i.val + 23 - s.sq.rotation.val) % 24 ≤ (j.val + 23 - s.sq.rotation.val) % 24) →
          (fits → s.sq.backlog.gap = none →
            exec .admission s = leaves (joined (t.setSq { t.sq with rotation := i }) fill [(h, b)]))
          ∧ (∀ g : CountWait, fits → s.sq.backlog.gap = some g →
            exec .admission s = leaves (joined (t.setSq { t.sq with
              rotation := i, backlog := { t.sq.backlog with gap := none } }) fill
                [(g.hdr, .marker (.gap g.count)), (h, b)]))
          ∧ (¬fits → s.policyNow = .keepNewest →
            let u := headsDiscarded (max 1 (fill - 1007)) t
            exec .admission s = leaves (joined (u.setSq { u.sq with rotation := i }) fill [(h, b)]))
          ∧ (¬fits → s.policyNow = .keepOldest → ∀ l : Line, i.val = l.val →
            let u := lossCounted (t.setLine l { t.line l with
              ctr := { (t.line l).ctr with discards := bump (t.line l).ctr.discards } })
            exec .admission s = leaves (u.setSq { u.sq with rotation := i }))))
  ∧ (∀ s : State, s.mlc.held = false → TickEvent.arbiter ∈ s.clk.taken → 1 < s.ticksToRoll →
      exec .admission s = exec .admission (s.runTicks 1))
  ∧ (∀ s : State, s.mlc.held = false → TickEvent.arbiter ∈ s.clk.taken → s.ticksToRoll ≤ 1 → exec .admission s = .next s)

/-- 07 R136 to R138: STAMPS releases the records before the release-before sequence, by the serial comparison, or all of
them where it lies after the next sequence, and answers the head sequence, the fill, the backlog flags and up to 10
records, which stay in the queue. Of records in sequence an equal one releases all.
07 R137, R138: a STAMPS sent again, its reply lost, releases nothing more.
11 section 11.3: every stamp record takes 24 bytes: its sequence, most significant byte first, the type, grade and kind, the
source, the generation, the time, the flags, a reserved byte and the extra bytes, as its type lays them out. -/
def Obligations.StampsReleasesAndReports : Prop :=
  (∀ (s : State) (r : Req), s.Takes kindStamps r →
      let q := StampsReq.read r.payload
      let n := clampNat 1 10 q.maximum
      let after := decide (1 ≤ (q.before - s.sq.nextSeq).toNat ∧ (q.before - s.sq.nextSeq).toNat ≤ 2147483647)
      let kept := if after then [] else s.sq.queue.dropWhile (fun x =>
        decide (1 ≤ (q.before - x.seq).toNat ∧ (q.before - x.seq).toNat ≤ 2147483647))
      let head := match kept with
        | [] => s.sq.nextSeq
        | x :: _ => x.seq
      exec (.stamps r) s = .next ((s.setSq { s.sq with queue := kept }).concluded 0x9B r
        (if after = false ∧ n = q.maximum then .done else .doneClamped)
        (beNat 4 head.toNat ++ beNat 2 kept.length ++ [s.sq.backlog.flags] ++ (kept.take n).flatMap Stamp.bytes)))
  ∧ (∀ (q : Sq) (rb : BitVec 32), consecutive q.nextSeq q.queue → q.queue.length ≤ 1024 →
      (q.release rb).1.release rb = q.release rb ∧ q.release q.nextSeq = ({ q with queue := [] }, false))
  ∧ (∀ r : Stamp, r.bytes.length = 24 ∧ field r.bytes 0 4 = r.seq.toNat)
  ∧ (∀ r : Stamp,
      let bs := r.bytes
      let marks := fun (kind detail value : Nat) =>
        field bs 4 1 / 64 = 2 ∧ field bs 4 1 % 16 = kind ∧ field bs 5 2 = detail ∧ field bs 18 1 = 0 ∧ field bs 20 4 = value
      field bs 4 1 / 16 % 4 = r.hdr.grade.code ∧ field bs 7 1 = r.hdr.gen.toNat ∧ field bs 8 6 = r.hdr.time.sec.toNat
      ∧ field bs 14 4 = r.hdr.time.ns % 4294967296 ∧ field bs 19 1 = 0
      ∧ (∀ (l : Line) (rising runt : Bool), r.body = .localLine l rising runt →
        field bs 4 1 / 64 = 0 ∧ field bs 4 1 % 16 = (if rising then 0 else 1) ∧ field bs 5 1 = l.val ∧ field bs 6 1 = 0
          ∧ field bs 18 1 = 16 * runt.toNat ∧ field bs 20 4 = 0)
      ∧ (∀ (p : Port) (shelf : BitVec 5) (kind : BitVec 4) (seq : Byte) (f : MarkFlags),
        r.body = .rackMark p shelf kind seq f →
        field bs 4 1 / 64 = 1 ∧ field bs 4 1 % 16 = kind.toNat ∧ field bs 5 1 = p.val ∧ field bs 6 1 = shelf.toNat
          ∧ field bs 18 1 =
            f.stepCorrected.toNat + 2 * f.seqGap.toNat + 4 * f.clamped.toNat + 8 * f.unreferenced.toNat
          ∧ field bs 20 4 = seq.toNat)
      ∧ (∀ (c : ResetCause) (n : Nat), r.body = .marker (.restart c n) → marks 0 c.code (n % 4294967296))
      ∧ (∀ (n : Nat) (a : Int), r.body = .marker (.step n a) → marks 1 (n % 65536) (a % 4294967296).toNat)
      ∧ (∀ (st : TsState) (n : Nat), r.body = .marker (.tstate st n) → marks 2 st.code (n % 4294967296))
      ∧ (∀ u : Int, (r.body = .marker (.leap .adopt u) → marks 3 0 (u % 4294967296).toNat)
        ∧ (r.body = .marker (.leap .insert u) → marks 3 2 (u % 4294967296).toNat)
        ∧ (r.body = .marker (.leap .delete u) → marks 3 3 (u % 4294967296).toNat))
      ∧ (∀ n : Nat, (r.body = .marker (.gap n) → marks 4 0 (n % 4294967296))
        ∧ (r.body = .marker (.tick n) → marks 5 0 (n % 4294967296)))
      ∧ (∀ (p : Port) (st : RackState) (n : Nat), r.body = .marker (.rack p st n) →
        marks 6 p.val (n % 256 * 256 + st.code)))

/-! ### The strobe latch -/

/-- 08 R142 to R144: a strobe edge, HSTB sampled high after a low sample, fills the EMPTY latch with the five items of its
tick and raises a STROBE notice; a FULL latch keeps its record and counts it, up to 255. Nothing else changes. Where the
latest sample is not low, none taken since a reset among them, HSTB is sampled low first, which strobes nothing; and with
HSTB sampled at this tick the sample is the next tick's; where a tick needed for this would roll, the command does nothing
(all the model's choice, log entry 42).
08 R145, R158: an addressed LATCH strobes at its receipt, with source LATCH, and its reply tells whether it filled
the latch; that the notice of a fill waits behind the reply is the model's inference (log entry 40).
08 R145, 09 R158: a broadcast LATCH strobes too and is not answered; a transmitter that is FREE may then begin the
notice at once. -/
def Obligations.StrobesFillOnlyAnEmptyLatch : Prop :=
  (∀ s : State, s.mlc.held = false →
      let free := TickEvent.pins ∉ s.clk.taken ∧ TickEvent.hstb ∉ s.clk.taken
      let needed : Nat := (if free then 0 else 1) + (if s.stl.hstb = some false then 0 else 1)
      let t := s.setClk { s.clk with taken := .hstb :: s.clk.taken }
      (free → s.stl.hstb = some false → s.stl.latched = none → exec .strobeEdge s = .next ((t.setStl { s.stl with
        latched := some ⟨s.now, s.tsu.gen, s.tsu.state, s.tsu.grade, .hstb⟩, hstb := some true }).raiseNotice
          .strobe (.strobe .hstb s.now)))
      ∧ (∀ x : Strobe, free → s.stl.hstb = some false → s.stl.latched = some x →
        exec .strobeEdge s = .next (t.setStl { s.stl with
          ignored := if s.stl.ignored + 1 ≤ 255 then s.stl.ignored + 1 else 255, hstb := some true }))
      ∧ (free → s.stl.hstb ≠ some false → needed < s.ticksToRoll →
        exec .strobeEdge s = exec .strobeEdge (t.setStl { s.stl with hstb := some false }))
      ∧ (¬free → needed < s.ticksToRoll → exec .strobeEdge s = exec .strobeEdge (s.runTicks 1))
      ∧ (0 < needed → s.ticksToRoll ≤ needed → exec .strobeEdge s = .next s))
  ∧ (∀ (s : State) (r : Req), s.Takes kindLatch r → r.broadcast = false →
      (s.stl.latched = none → exec (.latch r) s = .next ((((s.setStl { s.stl with
          latched := some ⟨s.now, s.tsu.gen, s.tsu.state, s.tsu.grade, .latch⟩ }).setNtu
            (s.ntu.raise .strobe (.strobe .latch s.now) s.now.sec))).concluded 0x85 r .done
          ([0] ++ timeBytes s.now ++ [s.tsu.gen, 0])))
      ∧ (∀ x : Strobe, s.stl.latched = some x →
        let n := if s.stl.ignored + 1 ≤ 255 then s.stl.ignored + 1 else 255
        exec (.latch r) s = .next ((s.setStl { s.stl with ignored := n }).concluded 0x85 r .done
          ([1] ++ List.replicate 11 0 ++ [BitVec.ofNat 8 n]))))
  ∧ (∀ (s : State) (r : Req), r.broadcast = true → s.Takes kindLatch r →
      (s.stl.latched = none → exec (.latch r) s = .next
        (((s.setMlc (s.mlc.counted .done)).setStl { s.stl with
          latched := some ⟨s.now, s.tsu.gen, s.tsu.state, s.tsu.grade, .latch⟩ }).raiseNotice
            .strobe (.strobe .latch s.now)))
      ∧ (∀ x : Strobe, s.stl.latched = some x → exec (.latch r) s = .next
        ((s.setMlc (s.mlc.counted .done)).setStl { s.stl with
          ignored := if s.stl.ignored + 1 ≤ 255 then s.stl.ignored + 1 else 255 })))

/-- 08 R146, R147: READ STROBE reports the latch and empties it and the ignored count. Of a FULL latch it tells the steps
since, k modulo 256, and the correction: 0 for k = 0, the sum of the k newest full amounts for k = 1 to 4 where the step
history holds them, and absent otherwise. -/
def Obligations.ReadStrobeReportsAndEmpties : Prop :=
  ∀ (s : State) (r : Req), s.Takes kindReadStrobe r →
    let t := s.setStl { s.stl with latched := none, ignored := 0 }
    (s.stl.latched = none → exec (.readStrobe r) s = .next (t.concluded 0x86 r .done
      (List.replicate 15 0 ++ [s.tsu.gen] ++ List.replicate 14 0 ++ [BitVec.ofNat 8 s.stl.ignored])))
    ∧ (∀ x : Strobe, s.stl.latched = some x →
      let k := (s.tsu.gen - x.gen).toNat
      let known := decide (k = 0 ∨ (k ≤ 4 ∧ k ≤ s.tsu.hist.length))
      exec (.readStrobe r) s = .next (t.concluded 0x86 r .done
        ([1] ++ timeBytes x.time ++ [x.gen, BitVec.ofNat 8 x.state.code, BitVec.ofNat 8 x.grade.code,
            BitVec.ofNat 8 x.source.code, s.tsu.gen, BitVec.ofNat 8 k]
          ++ (if known then [1] ++ beInt 12 ((s.tsu.hist.take k).map (·.amount)).sum else List.replicate 13 0)
          ++ [BitVec.ofNat 8 s.stl.ignored])))

/-! ### Notices -/

/-- 10 R169: a notice raised where no entry waits creates one of count 1; otherwise it merges: the new value, the new
second, the count one more up to 255. Every other place and the masks and pointers stay.
10 R174; 09 R159, R161: raising a notice begins a NOTICE frame at once where a POINT link's transmitter is FREE and
something is deliverable, and otherwise, one of a masked kind with nothing else deliverable among them, leaves the link as
it is. -/
def Obligations.RaisedNoticesMergeAndGoOut : Prop :=
  (∀ (n : Ntu) (p : Place) (v : NoticeValue) (sec : RowSec),
      let m := n.raise p v sec
      (n.at p = none → m.at p = some ⟨v, 1, sec⟩)
      ∧ (∀ e : Notice, n.at p = some e → m.at p = some ⟨v, if e.count + 1 ≤ 255 then e.count + 1 else 255, sec⟩)
      ∧ (∀ q : Place, q ≠ p → m.at q = n.at q) ∧ m.masks = n.masks ∧ m.pointers = n.pointers
      ∧ m.attn = m.anyDeliverable)
  ∧ (∀ (s : State) (p : Place) (v : NoticeValue),
      let n := s.ntu.raise p v s.now.sec
      (s.mlc.mode = .shared ∨ s.mlc.owner ≠ .free ∨ s.mlc.held = true ∨ n.attn = false →
        s.raiseNotice p v = s.setNtu n)
      ∧ (∀ (c : Place) (e : Notice), s.mlc.mode = .point → s.mlc.owner = .free → s.mlc.held = false →
        n.choose = some c → n.at c = some e →
        s.raiseNotice p v = (s.setNtu (n.remove c)).setMlc { s.mlc with
          owner := .notice
          tx := some (hubFrame s.mlc.addr 0xE0 s.mlc.noticeNo (noticeBytes c e))
          noticeNo := s.mlc.noticeNo + 1 }))

/-- 10 R172: the choice is a deliverable entry of the lowest class that holds one, the first found from the class pointer
on, wrapping; and there is one exactly where something is deliverable.
10 R173: a delivery removes the chosen entry only, and moves only its class's pointer, to the position after it. -/
def Obligations.DeliveryTakesLowestClassThenRotation : Prop :=
  (∀ n : Ntu, n.PointersInRange →
      ((n.choose = none) ↔ ∀ q : Place, n.deliverable q = false)
      ∧ ∀ p : Place, n.choose = some p → n.deliverable p = true
        ∧ ∀ q : Place, n.deliverable q = true →
          p.position.1.val ≤ q.position.1.val
          ∧ (p.position.1 = q.position.1 →
            (p.position.2 + classSize p.position.1 - n.pointers[p.position.1]) % classSize p.position.1
              ≤ (q.position.2 + classSize p.position.1 - n.pointers[p.position.1]) % classSize p.position.1))
  ∧ (∀ (n : Ntu) (p : Place) (e : Notice), n.choose = some p → n.at p = some e →
      let m := n.deliver.2
      n.deliver.1 = some (p, e) ∧ m.at p = none ∧ (∀ q : Place, q ≠ p → m.at q = n.at q) ∧ m.masks = n.masks
      ∧ m.pointers[p.position.1] = (p.position.2 + 1) % classSize p.position.1
      ∧ (∀ c : Fin 6, c ≠ p.position.1 → m.pointers[c] = n.pointers[c])
      ∧ m.attn = m.anyDeliverable)

/-- 10 R171, R175 to R177: an addressed SET NOTICES replaces the twelve masks and ATTN follows; its reply carries the masks
and the entries pending, and goes before any notice (the model's inference, log entry 40). POLL delivers the chosen entry in
its reply, with the entries left, those deliverable and ATTN; with none deliverable it answers NONE. That the masks take two
bytes in the SET NOTICES reply is the model's inference (log entry 14), and ATTN's byte, 1 or 0, its choice (log entry 47).
10 R176: a broadcast SET NOTICES is not answered, and a transmitter that is FREE then begins a newly deliverable notice at
once.
A POLL at the tick of a raise comes after the frame that the raise has begun (the model's choice, log entry 59).
11 section 11.2, Notice payload: a notice takes 21 bytes: its kind code, its source, its count, its row second, and its value
as the table lays it out for its kind, with zeros behind. That the places of an absent spread are zero is the model's choice
(log entry 63). -/
def Obligations.SetNoticesAndPollDeliver : Prop :=
  (∀ (s : State) (r : Req),
      (s.Takes kindSetNotices r → r.broadcast = false →
        let m : BitVec 12 := BitVec.ofNat 12 (field r.payload 0 2)
        let n := { s.ntu with masks := m }
        exec (.setNotices r) s = .next ((s.setNtu { n with attn := n.anyDeliverable }).concluded 0x9C r .done
          (beNat 2 m.toNat ++ beNat 2 s.ntu.count)))
      ∧ (s.Takes kindPoll r →
        (∀ (p : Place) (e : Notice), s.ntu.choose = some p → s.ntu.at p = some e →
          let n := s.ntu.remove p
          exec (.poll r) s = .next ((s.setNtu n).concluded 0x9D r .done
            ([1] ++ noticeBytes p e ++ [BitVec.ofNat 8 n.count, BitVec.ofNat 8 n.deliverableCount,
              BitVec.ofNat 8 n.attn.toNat])))
        ∧ (s.ntu.choose = none →
          exec (.poll r) s = .next (s.concluded 0x9D r .done
            (List.replicate 22 0 ++ [BitVec.ofNat 8 s.ntu.count, BitVec.ofNat 8 s.ntu.deliverableCount,
              BitVec.ofNat 8 s.ntu.attn.toNat])))))
  ∧ (∀ (s : State) (r : Req), r.broadcast = true → s.Takes kindSetNotices r →
      let n := { s.ntu with masks := BitVec.ofNat 12 (field r.payload 0 2) }
      exec (.setNotices r) s = .next
        (((s.setMlc (s.mlc.counted .done)).setNtu { n with attn := n.anyDeliverable }).handOut))
  ∧ (∀ (p : Place) (e : Notice),
      let head : Nat × Nat := match p with
        | .tstate => (0, 0)
        | .step => (1, 0)
        | .holdoverLimit => (2, 0)
        | .ref .a => (3, 0)
        | .ref .b => (3, 1)
        | .rack q => (4, q.val)
        | .path q => (5, q.val)
        | .spread => (6, 0)
        | .port q => (7, q.val)
        | .queueLevel => (8, 0)
        | .queueGap => (9, 0)
        | .strobe => (10, 0)
        | .leap => (11, 0)
      let value : List Byte := match e.value with
        | .tstate st => byte st.code ++ zeros 11
        | .step a => beInt 4 a ++ zeros 8
        | .holdoverLimit n limit => beNat 4 n ++ beNat 4 limit ++ zeros 4
        | .ref st sel c => byte st.code ++ flagByte sel ++ byte c.code ++ zeros 9
        | .rack st c o r =>
          byte st.code ++ byte (match c with
            | .enable => 0
            | .loss => 1
            | .recover => 2
            | .disable => 3
            | .gross => 4
            | .evaluation => 5) ++ beInt 4 o ++ beInt 4 r ++ zeros 2
        | .path new old => beInt 4 new ++ beInt 4 old ++ zeros 4
        | .spread above none limit => byte (if above then 0 else 1) ++ zeros 7 ++ beNat 4 limit
        | .spread above (some x) limit =>
          byte (if above then 0 else 1) ++ byte 1 ++ beInt 4 x.ns ++ byte x.high.val ++ byte x.low.val ++ beNat 4 limit
        | .port st c =>
          byte st.code ++ byte (match c with
            | .enable => 0
            | .disable => 1
            | .echo => 2
            | .loss => 3) ++ zeros 10
        | .queueLevel fill w => beNat 2 fill ++ beNat 2 w ++ zeros 8
        | .queueGap lost fill => beNat 4 lost ++ beNat 2 fill ++ zeros 6
        | .strobe src t => byte src.code ++ timeBytes t ++ zeros 1
        | .leap c u l =>
          byte (match c with
            | .adopt => 0
            | .pending => 1
            | .insert => 2
            | .delete => 3) ++ beInt 1 u ++ (match l with
            | .none => zeros 7
            | .insert e => byte 1 ++ secBytes e
            | .delete e => byte 2 ++ secBytes e) ++ zeros 3
      noticeBytes p e = byte head.1 ++ byte head.2 ++ byte e.count ++ secBytes e.sec ++ value
        ∧ (noticeBytes p e).length = 21)

/-! ### What every step keeps -/

/-- 07 R125: but for a reset or a RESTART taking effect, records leave the queue at its head only and join it at its tail
only, numbered from the next sequence on. While an addressed RESTART waits for its reply's completion this holds of every other
command as before (09 R165). Left out are the resets, a broadcast RESTART, the completion of a waiting RESTART's reply, and a
tick at which a byte of LINK_RX ends that could complete a broadcast RESTART's frame.
07 R125, R131: every step keeps the queue's records consecutive, at most 1,024 of them, at most 1,008 LOCAL or
RACK. -/
def Obligations.QueueStaysNumberedAndBounded : Prop :=
  (∀ (c : Instr) (s t : State), exec c s = .next t →
      (∀ st : Straps, c ≠ .powerOn st) → c ≠ .pinReset → (∀ st : Straps, c ≠ .resetnRelease st) →
      (∀ r : Req, c = .restart r → r.broadcast = false) → (c = .replyCompletion → s.mlc.restartDue = false) →
      (∀ (n : Nat) (x : Pins), c = .oscillatorTick n x → x.linkRx.ended = none ∨ s.mlc.rx.phase ≠ .body
        ∨ field s.mlc.rx.bytes 0 1 % 16 ≠ 15 ∨ field s.mlc.rx.bytes 1 1 ≠ 3) →
      ∃ (k : Nat) (new : List Stamp), t.sq.queue = s.sq.queue.drop k ++ new
        ∧ t.sq.nextSeq = s.sq.nextSeq + BitVec.ofNat 32 new.length
        ∧ ∀ (i : Nat) (h : i < new.length), new[i].seq = s.sq.nextSeq + BitVec.ofNat 32 i)
  ∧ (∀ s t : State, s.sq.Inv → step s = .next t → t.sq.Inv)

/-- 05 R82: every step keeps a record UNSEEN exactly while its port is DOWN, and LOST exactly while it is FAULTED.
03 R50; 04 R58, R72; 06 R116: every step keeps a DOWN port at rest: its line LOW, no exchange, no frame, no log, no
marks. -/
def Obligations.StepKeepsPortsAndRecordsTogether : Prop :=
  (∀ s t : State, s.RecordsFollowPorts → step s = .next t → t.RecordsFollowPorts)
  ∧ (∀ s t : State, s.DownPortsRest → step s = .next t → t.DownPortsRest)

/-- 03 R53, R54: every step keeps the applied and the initial compensations in 0..20,000 ns.
01 R2, R14: every step keeps F_loop and I within ±Fmax, F_total the limited sum of F_loop and the slew term, and the slew
term between 0 and the remainder.
04 R77: every step keeps the divisor in force, and a staged one, among the seven permitted. -/
def Obligations.StepKeepsRatesAndCompensationsInRange : Prop :=
  (∀ s t : State, s.CompensationInRange → step s = .next t → t.CompensationInRange)
  ∧ (∀ s t : State, s.tsu.RatesInRange → s.tsu.slew.TermWithin → step s = .next t →
      t.tsu.RatesInRange ∧ t.tsu.slew.TermWithin)
  ∧ (∀ s t : State, s.rle.DivisorsPermitted → step s = .next t → t.rle.DivisorsPermitted)

/-- 01 section 1.1, R6, R7, R10: every step keeps the timescale value in range, and while a reference is selected keeps
no SET TIME staged and no slew running; LOCKED keeps the locked-since-reset flag set and an entry in the ring.
01 R6: every step keeps a reference selected exactly in ACQUIRING and LOCKED.
01 R4, R11, R12: every step keeps the suppressed-roll mark set only while the quiet interval is open. -/
def Obligations.StepKeepsTheTimescaleSound : Prop :=
  (∀ s t : State, s.tsu.ts.InRange → s.tsu.ReferenceOwns → step s = .next t →
      t.tsu.ts.InRange ∧ t.tsu.ReferenceOwns)
  ∧ (∀ s t : State, s.SelectionMatches → step s = .next t → t.SelectionMatches)
  ∧ (∀ s t : State, s.tsu.MarkInQuiet → step s = .next t → t.tsu.MarkInQuiet)

/-- 03 R44, R46: every step keeps the active schedule free of conflicts, and so the pending one while it is armed.
10 R177: every step leaves ATTN asserted exactly where the pending set holds a deliverable entry.
10 R172, R173: every step keeps each class pointer on a position of its class. -/
def Obligations.StepKeepsSchedulesAndAttnSound : Prop :=
  (∀ s t : State, s.eds.SchedulesSound → step s = .next t → t.eds.SchedulesSound)
  ∧ ((∀ s t : State, s.ntu.AttnFollows → step s = .next t → t.ntu.AttnFollows)
    ∧ (∀ s t : State, s.ntu.PointersInRange → step s = .next t → t.ntu.PointersInRange))

/-- 04 R64; 06 R115; 05 R93; 01 R7, R11; 05 section 5.1: every step keeps the buffers in their places and the rack records
in their ranges: D within 0..250,000 ns, O within ±500,000,000 ns, R within ±100,000,000 ppt. -/
def Obligations.StepKeepsBuffersAndRecordsInRange : Prop :=
  ∀ s t : State, s.BuffersBounded → s.RecordsInRange → step s = .next t → t.BuffersBounded ∧ t.RecordsInRange

/-- The hub right after power-on meets every invariant of the statements above, whatever its straps. -/
def Obligations.ResetMeetsTheInvariants : Prop :=
  ∀ (cause : ResetCause) (st : Straps) (q : List Instr),
    let s := State.initial cause st q
    s.sq.Inv ∧ s.RecordsFollowPorts ∧ s.DownPortsRest ∧ s.CompensationInRange ∧ s.tsu.RatesInRange
    ∧ s.tsu.slew.TermWithin ∧ s.tsu.ts.InRange ∧ s.tsu.ReferenceOwns ∧ s.tsu.MarkInQuiet ∧ s.SelectionMatches
    ∧ s.rle.DivisorsPermitted ∧ s.eds.SchedulesSound
    ∧ s.ntu.AttnFollows ∧ s.ntu.PointersInRange ∧ s.BuffersBounded ∧ s.RecordsInRange
end

