-- ==== Sys2Proof/Laws/State.lean ====
section
/-! SUPPORT. One lemma per field per update of State: what each setter leaves in each field. -/

namespace Sys2Proof.Machine

variable (s : State)

@[simp] theorem State.setTsu_tsu (x : Tsu) : (s.setTsu x).tsu = x := rfl
@[simp] theorem State.setTsu_ref (x : Tsu) : (s.setTsu x).ref = s.ref := rfl
@[simp] theorem State.setTsu_eds (x : Tsu) : (s.setTsu x).eds = s.eds := rfl
@[simp] theorem State.setTsu_rle (x : Tsu) : (s.setTsu x).rle = s.rle := rfl
@[simp] theorem State.setTsu_drm (x : Tsu) : (s.setTsu x).drm = s.drm := rfl
@[simp] theorem State.setTsu_ecu (x : Tsu) : (s.setTsu x).ecu = s.ecu := rfl
@[simp] theorem State.setTsu_sq (x : Tsu) : (s.setTsu x).sq = s.sq := rfl
@[simp] theorem State.setTsu_stl (x : Tsu) : (s.setTsu x).stl = s.stl := rfl
@[simp] theorem State.setTsu_ntu (x : Tsu) : (s.setTsu x).ntu = s.ntu := rfl
@[simp] theorem State.setTsu_mlc (x : Tsu) : (s.setTsu x).mlc = s.mlc := rfl
@[simp] theorem State.setTsu_clk (x : Tsu) : (s.setTsu x).clk = s.clk := rfl
@[simp] theorem State.setTsu_pending (x : Tsu) : (s.setTsu x).pending = s.pending := rfl
@[simp] theorem State.setTsu_self : s.setTsu s.tsu = s := rfl
@[simp] theorem State.setTsu_setTsu (x y : Tsu) : (s.setTsu x).setTsu y = s.setTsu y := rfl

@[simp] theorem State.setRef_tsu (x : Ref) : (s.setRef x).tsu = s.tsu := rfl
@[simp] theorem State.setRef_ref (x : Ref) : (s.setRef x).ref = x := rfl
@[simp] theorem State.setRef_eds (x : Ref) : (s.setRef x).eds = s.eds := rfl
@[simp] theorem State.setRef_rle (x : Ref) : (s.setRef x).rle = s.rle := rfl
@[simp] theorem State.setRef_drm (x : Ref) : (s.setRef x).drm = s.drm := rfl
@[simp] theorem State.setRef_ecu (x : Ref) : (s.setRef x).ecu = s.ecu := rfl
@[simp] theorem State.setRef_sq (x : Ref) : (s.setRef x).sq = s.sq := rfl
@[simp] theorem State.setRef_stl (x : Ref) : (s.setRef x).stl = s.stl := rfl
@[simp] theorem State.setRef_ntu (x : Ref) : (s.setRef x).ntu = s.ntu := rfl
@[simp] theorem State.setRef_mlc (x : Ref) : (s.setRef x).mlc = s.mlc := rfl
@[simp] theorem State.setRef_clk (x : Ref) : (s.setRef x).clk = s.clk := rfl
@[simp] theorem State.setRef_pending (x : Ref) : (s.setRef x).pending = s.pending := rfl
@[simp] theorem State.setRef_self : s.setRef s.ref = s := rfl
@[simp] theorem State.setRef_setRef (x y : Ref) : (s.setRef x).setRef y = s.setRef y := rfl

@[simp] theorem State.setEds_tsu (x : Eds) : (s.setEds x).tsu = s.tsu := rfl
@[simp] theorem State.setEds_ref (x : Eds) : (s.setEds x).ref = s.ref := rfl
@[simp] theorem State.setEds_eds (x : Eds) : (s.setEds x).eds = x := rfl
@[simp] theorem State.setEds_rle (x : Eds) : (s.setEds x).rle = s.rle := rfl
@[simp] theorem State.setEds_drm (x : Eds) : (s.setEds x).drm = s.drm := rfl
@[simp] theorem State.setEds_ecu (x : Eds) : (s.setEds x).ecu = s.ecu := rfl
@[simp] theorem State.setEds_sq (x : Eds) : (s.setEds x).sq = s.sq := rfl
@[simp] theorem State.setEds_stl (x : Eds) : (s.setEds x).stl = s.stl := rfl
@[simp] theorem State.setEds_ntu (x : Eds) : (s.setEds x).ntu = s.ntu := rfl
@[simp] theorem State.setEds_mlc (x : Eds) : (s.setEds x).mlc = s.mlc := rfl
@[simp] theorem State.setEds_clk (x : Eds) : (s.setEds x).clk = s.clk := rfl
@[simp] theorem State.setEds_pending (x : Eds) : (s.setEds x).pending = s.pending := rfl
@[simp] theorem State.setEds_self : s.setEds s.eds = s := rfl
@[simp] theorem State.setEds_setEds (x y : Eds) : (s.setEds x).setEds y = s.setEds y := rfl

@[simp] theorem State.setRle_tsu (x : Rle) : (s.setRle x).tsu = s.tsu := rfl
@[simp] theorem State.setRle_ref (x : Rle) : (s.setRle x).ref = s.ref := rfl
@[simp] theorem State.setRle_eds (x : Rle) : (s.setRle x).eds = s.eds := rfl
@[simp] theorem State.setRle_rle (x : Rle) : (s.setRle x).rle = x := rfl
@[simp] theorem State.setRle_drm (x : Rle) : (s.setRle x).drm = s.drm := rfl
@[simp] theorem State.setRle_ecu (x : Rle) : (s.setRle x).ecu = s.ecu := rfl
@[simp] theorem State.setRle_sq (x : Rle) : (s.setRle x).sq = s.sq := rfl
@[simp] theorem State.setRle_stl (x : Rle) : (s.setRle x).stl = s.stl := rfl
@[simp] theorem State.setRle_ntu (x : Rle) : (s.setRle x).ntu = s.ntu := rfl
@[simp] theorem State.setRle_mlc (x : Rle) : (s.setRle x).mlc = s.mlc := rfl
@[simp] theorem State.setRle_clk (x : Rle) : (s.setRle x).clk = s.clk := rfl
@[simp] theorem State.setRle_pending (x : Rle) : (s.setRle x).pending = s.pending := rfl
@[simp] theorem State.setRle_self : s.setRle s.rle = s := rfl
@[simp] theorem State.setRle_setRle (x y : Rle) : (s.setRle x).setRle y = s.setRle y := rfl

@[simp] theorem State.setDrm_tsu (x : Drm) : (s.setDrm x).tsu = s.tsu := rfl
@[simp] theorem State.setDrm_ref (x : Drm) : (s.setDrm x).ref = s.ref := rfl
@[simp] theorem State.setDrm_eds (x : Drm) : (s.setDrm x).eds = s.eds := rfl
@[simp] theorem State.setDrm_rle (x : Drm) : (s.setDrm x).rle = s.rle := rfl
@[simp] theorem State.setDrm_drm (x : Drm) : (s.setDrm x).drm = x := rfl
@[simp] theorem State.setDrm_ecu (x : Drm) : (s.setDrm x).ecu = s.ecu := rfl
@[simp] theorem State.setDrm_sq (x : Drm) : (s.setDrm x).sq = s.sq := rfl
@[simp] theorem State.setDrm_stl (x : Drm) : (s.setDrm x).stl = s.stl := rfl
@[simp] theorem State.setDrm_ntu (x : Drm) : (s.setDrm x).ntu = s.ntu := rfl
@[simp] theorem State.setDrm_mlc (x : Drm) : (s.setDrm x).mlc = s.mlc := rfl
@[simp] theorem State.setDrm_clk (x : Drm) : (s.setDrm x).clk = s.clk := rfl
@[simp] theorem State.setDrm_pending (x : Drm) : (s.setDrm x).pending = s.pending := rfl
@[simp] theorem State.setDrm_self : s.setDrm s.drm = s := rfl
@[simp] theorem State.setDrm_setDrm (x y : Drm) : (s.setDrm x).setDrm y = s.setDrm y := rfl

@[simp] theorem State.setEcu_tsu (x : Ecu) : (s.setEcu x).tsu = s.tsu := rfl
@[simp] theorem State.setEcu_ref (x : Ecu) : (s.setEcu x).ref = s.ref := rfl
@[simp] theorem State.setEcu_eds (x : Ecu) : (s.setEcu x).eds = s.eds := rfl
@[simp] theorem State.setEcu_rle (x : Ecu) : (s.setEcu x).rle = s.rle := rfl
@[simp] theorem State.setEcu_drm (x : Ecu) : (s.setEcu x).drm = s.drm := rfl
@[simp] theorem State.setEcu_ecu (x : Ecu) : (s.setEcu x).ecu = x := rfl
@[simp] theorem State.setEcu_sq (x : Ecu) : (s.setEcu x).sq = s.sq := rfl
@[simp] theorem State.setEcu_stl (x : Ecu) : (s.setEcu x).stl = s.stl := rfl
@[simp] theorem State.setEcu_ntu (x : Ecu) : (s.setEcu x).ntu = s.ntu := rfl
@[simp] theorem State.setEcu_mlc (x : Ecu) : (s.setEcu x).mlc = s.mlc := rfl
@[simp] theorem State.setEcu_clk (x : Ecu) : (s.setEcu x).clk = s.clk := rfl
@[simp] theorem State.setEcu_pending (x : Ecu) : (s.setEcu x).pending = s.pending := rfl
@[simp] theorem State.setEcu_self : s.setEcu s.ecu = s := rfl
@[simp] theorem State.setEcu_setEcu (x y : Ecu) : (s.setEcu x).setEcu y = s.setEcu y := rfl

@[simp] theorem State.setSq_tsu (x : Sq) : (s.setSq x).tsu = s.tsu := rfl
@[simp] theorem State.setSq_ref (x : Sq) : (s.setSq x).ref = s.ref := rfl
@[simp] theorem State.setSq_eds (x : Sq) : (s.setSq x).eds = s.eds := rfl
@[simp] theorem State.setSq_rle (x : Sq) : (s.setSq x).rle = s.rle := rfl
@[simp] theorem State.setSq_drm (x : Sq) : (s.setSq x).drm = s.drm := rfl
@[simp] theorem State.setSq_ecu (x : Sq) : (s.setSq x).ecu = s.ecu := rfl
@[simp] theorem State.setSq_sq (x : Sq) : (s.setSq x).sq = x := rfl
@[simp] theorem State.setSq_stl (x : Sq) : (s.setSq x).stl = s.stl := rfl
@[simp] theorem State.setSq_ntu (x : Sq) : (s.setSq x).ntu = s.ntu := rfl
@[simp] theorem State.setSq_mlc (x : Sq) : (s.setSq x).mlc = s.mlc := rfl
@[simp] theorem State.setSq_clk (x : Sq) : (s.setSq x).clk = s.clk := rfl
@[simp] theorem State.setSq_pending (x : Sq) : (s.setSq x).pending = s.pending := rfl
@[simp] theorem State.setSq_self : s.setSq s.sq = s := rfl
@[simp] theorem State.setSq_setSq (x y : Sq) : (s.setSq x).setSq y = s.setSq y := rfl

@[simp] theorem State.setStl_tsu (x : Stl) : (s.setStl x).tsu = s.tsu := rfl
@[simp] theorem State.setStl_ref (x : Stl) : (s.setStl x).ref = s.ref := rfl
@[simp] theorem State.setStl_eds (x : Stl) : (s.setStl x).eds = s.eds := rfl
@[simp] theorem State.setStl_rle (x : Stl) : (s.setStl x).rle = s.rle := rfl
@[simp] theorem State.setStl_drm (x : Stl) : (s.setStl x).drm = s.drm := rfl
@[simp] theorem State.setStl_ecu (x : Stl) : (s.setStl x).ecu = s.ecu := rfl
@[simp] theorem State.setStl_sq (x : Stl) : (s.setStl x).sq = s.sq := rfl
@[simp] theorem State.setStl_stl (x : Stl) : (s.setStl x).stl = x := rfl
@[simp] theorem State.setStl_ntu (x : Stl) : (s.setStl x).ntu = s.ntu := rfl
@[simp] theorem State.setStl_mlc (x : Stl) : (s.setStl x).mlc = s.mlc := rfl
@[simp] theorem State.setStl_clk (x : Stl) : (s.setStl x).clk = s.clk := rfl
@[simp] theorem State.setStl_pending (x : Stl) : (s.setStl x).pending = s.pending := rfl
@[simp] theorem State.setStl_self : s.setStl s.stl = s := rfl
@[simp] theorem State.setStl_setStl (x y : Stl) : (s.setStl x).setStl y = s.setStl y := rfl

@[simp] theorem State.setNtu_tsu (x : Ntu) : (s.setNtu x).tsu = s.tsu := rfl
@[simp] theorem State.setNtu_ref (x : Ntu) : (s.setNtu x).ref = s.ref := rfl
@[simp] theorem State.setNtu_eds (x : Ntu) : (s.setNtu x).eds = s.eds := rfl
@[simp] theorem State.setNtu_rle (x : Ntu) : (s.setNtu x).rle = s.rle := rfl
@[simp] theorem State.setNtu_drm (x : Ntu) : (s.setNtu x).drm = s.drm := rfl
@[simp] theorem State.setNtu_ecu (x : Ntu) : (s.setNtu x).ecu = s.ecu := rfl
@[simp] theorem State.setNtu_sq (x : Ntu) : (s.setNtu x).sq = s.sq := rfl
@[simp] theorem State.setNtu_stl (x : Ntu) : (s.setNtu x).stl = s.stl := rfl
@[simp] theorem State.setNtu_ntu (x : Ntu) : (s.setNtu x).ntu = x := rfl
@[simp] theorem State.setNtu_mlc (x : Ntu) : (s.setNtu x).mlc = s.mlc := rfl
@[simp] theorem State.setNtu_clk (x : Ntu) : (s.setNtu x).clk = s.clk := rfl
@[simp] theorem State.setNtu_pending (x : Ntu) : (s.setNtu x).pending = s.pending := rfl
@[simp] theorem State.setNtu_self : s.setNtu s.ntu = s := rfl
@[simp] theorem State.setNtu_setNtu (x y : Ntu) : (s.setNtu x).setNtu y = s.setNtu y := rfl

@[simp] theorem State.setMlc_tsu (x : Mlc) : (s.setMlc x).tsu = s.tsu := rfl
@[simp] theorem State.setMlc_ref (x : Mlc) : (s.setMlc x).ref = s.ref := rfl
@[simp] theorem State.setMlc_eds (x : Mlc) : (s.setMlc x).eds = s.eds := rfl
@[simp] theorem State.setMlc_rle (x : Mlc) : (s.setMlc x).rle = s.rle := rfl
@[simp] theorem State.setMlc_drm (x : Mlc) : (s.setMlc x).drm = s.drm := rfl
@[simp] theorem State.setMlc_ecu (x : Mlc) : (s.setMlc x).ecu = s.ecu := rfl
@[simp] theorem State.setMlc_sq (x : Mlc) : (s.setMlc x).sq = s.sq := rfl
@[simp] theorem State.setMlc_stl (x : Mlc) : (s.setMlc x).stl = s.stl := rfl
@[simp] theorem State.setMlc_ntu (x : Mlc) : (s.setMlc x).ntu = s.ntu := rfl
@[simp] theorem State.setMlc_mlc (x : Mlc) : (s.setMlc x).mlc = x := rfl
@[simp] theorem State.setMlc_clk (x : Mlc) : (s.setMlc x).clk = s.clk := rfl
@[simp] theorem State.setMlc_pending (x : Mlc) : (s.setMlc x).pending = s.pending := rfl
@[simp] theorem State.setMlc_self : s.setMlc s.mlc = s := rfl
@[simp] theorem State.setMlc_setMlc (x y : Mlc) : (s.setMlc x).setMlc y = s.setMlc y := rfl

@[simp] theorem State.setClk_tsu (x : Clock) : (s.setClk x).tsu = s.tsu := rfl
@[simp] theorem State.setClk_ref (x : Clock) : (s.setClk x).ref = s.ref := rfl
@[simp] theorem State.setClk_eds (x : Clock) : (s.setClk x).eds = s.eds := rfl
@[simp] theorem State.setClk_rle (x : Clock) : (s.setClk x).rle = s.rle := rfl
@[simp] theorem State.setClk_drm (x : Clock) : (s.setClk x).drm = s.drm := rfl
@[simp] theorem State.setClk_ecu (x : Clock) : (s.setClk x).ecu = s.ecu := rfl
@[simp] theorem State.setClk_sq (x : Clock) : (s.setClk x).sq = s.sq := rfl
@[simp] theorem State.setClk_stl (x : Clock) : (s.setClk x).stl = s.stl := rfl
@[simp] theorem State.setClk_ntu (x : Clock) : (s.setClk x).ntu = s.ntu := rfl
@[simp] theorem State.setClk_mlc (x : Clock) : (s.setClk x).mlc = s.mlc := rfl
@[simp] theorem State.setClk_clk (x : Clock) : (s.setClk x).clk = x := rfl
@[simp] theorem State.setClk_pending (x : Clock) : (s.setClk x).pending = s.pending := rfl
@[simp] theorem State.setClk_self : s.setClk s.clk = s := rfl
@[simp] theorem State.setClk_setClk (x y : Clock) : (s.setClk x).setClk y = s.setClk y := rfl

@[simp] theorem State.setPending_tsu (x : List Instr) : (s.setPending x).tsu = s.tsu := rfl
@[simp] theorem State.setPending_ref (x : List Instr) : (s.setPending x).ref = s.ref := rfl
@[simp] theorem State.setPending_eds (x : List Instr) : (s.setPending x).eds = s.eds := rfl
@[simp] theorem State.setPending_rle (x : List Instr) : (s.setPending x).rle = s.rle := rfl
@[simp] theorem State.setPending_drm (x : List Instr) : (s.setPending x).drm = s.drm := rfl
@[simp] theorem State.setPending_ecu (x : List Instr) : (s.setPending x).ecu = s.ecu := rfl
@[simp] theorem State.setPending_sq (x : List Instr) : (s.setPending x).sq = s.sq := rfl
@[simp] theorem State.setPending_stl (x : List Instr) : (s.setPending x).stl = s.stl := rfl
@[simp] theorem State.setPending_ntu (x : List Instr) : (s.setPending x).ntu = s.ntu := rfl
@[simp] theorem State.setPending_mlc (x : List Instr) : (s.setPending x).mlc = s.mlc := rfl
@[simp] theorem State.setPending_clk (x : List Instr) : (s.setPending x).clk = s.clk := rfl
@[simp] theorem State.setPending_pending (x : List Instr) : (s.setPending x).pending = x := rfl
@[simp] theorem State.setPending_self : s.setPending s.pending = s := rfl
@[simp] theorem State.setPending_setPending (x y : List Instr) : (s.setPending x).setPending y = s.setPending y := rfl

end Sys2Proof.Machine
end

