-- ==== Sys2Proof/Laws/Access.lean ====
section
/-! SUPPORT. Reading one port, record, line or input after writing one: the read gives what was written there, every
other place and every other unit is as before. -/

namespace Sys2Proof.Machine

variable (s : State)

/-! ### Ports -/

theorem State.port_setPort (p q : Port) (r : PortRec) :
    (s.setPort p r).port q = if p = q then r else s.port q := by
  by_cases h : p = q
  · subst h
    simp [State.port, State.setPort]
  · have h' : p.val ≠ q.val := fun e => h (Fin.ext e)
    simp [State.port, State.setPort, h, h']

@[simp] theorem State.port_setPort_same (p : Port) (r : PortRec) : (s.setPort p r).port p = r := by
  simp [State.port_setPort]

@[simp] theorem State.port_setRack (p q : Port) (r : RackRec) : (s.setRack p r).port q = s.port q := rfl
@[simp] theorem State.port_setMarks (p q : Port) (m : PortMarks) : (s.setMarks p m).port q = s.port q := rfl
@[simp] theorem State.port_setLine (l : Line) (q : Port) (r : LineRec) : (s.setLine l r).port q = s.port q := rfl
@[simp] theorem State.port_setInput (i : Input) (q : Port) (r : InputRec) : (s.setInput i r).port q = s.port q := rfl
@[simp] theorem State.port_setTsu (q : Port) (x : Tsu) : (s.setTsu x).port q = s.port q := rfl
@[simp] theorem State.port_setEds (q : Port) (x : Eds) : (s.setEds x).port q = s.port q := rfl
@[simp] theorem State.port_setNtu (q : Port) (x : Ntu) : (s.setNtu x).port q = s.port q := rfl
@[simp] theorem State.port_setMlc (q : Port) (x : Mlc) : (s.setMlc x).port q = s.port q := rfl
@[simp] theorem State.port_setSq (q : Port) (x : Sq) : (s.setSq x).port q = s.port q := rfl
@[simp] theorem State.port_setStl (q : Port) (x : Stl) : (s.setStl x).port q = s.port q := rfl
@[simp] theorem State.port_setClk (q : Port) (x : Clock) : (s.setClk x).port q = s.port q := rfl
@[simp] theorem State.port_setRef (q : Port) (x : Ref) : (s.setRef x).port q = s.port q := rfl
@[simp] theorem State.port_setDrm (q : Port) (x : Drm) : (s.setDrm x).port q = s.port q := rfl
@[simp] theorem State.port_setEcu (q : Port) (x : Ecu) : (s.setEcu x).port q = s.port q := rfl

/-! ### Rack records -/

theorem State.rack_setRack (p q : Port) (r : RackRec) :
    (s.setRack p r).rack q = if p = q then r else s.rack q := by
  by_cases h : p = q
  · subst h
    simp [State.rack, State.setRack]
  · have h' : p.val ≠ q.val := fun e => h (Fin.ext e)
    simp [State.rack, State.setRack, h, h']

@[simp] theorem State.rack_setRack_same (p : Port) (r : RackRec) : (s.setRack p r).rack p = r := by
  simp [State.rack_setRack]

@[simp] theorem State.rack_setPort (p q : Port) (r : PortRec) : (s.setPort p r).rack q = s.rack q := rfl
@[simp] theorem State.rack_setMarks (p q : Port) (m : PortMarks) : (s.setMarks p m).rack q = s.rack q := rfl
@[simp] theorem State.rack_setLine (l : Line) (q : Port) (r : LineRec) : (s.setLine l r).rack q = s.rack q := rfl
@[simp] theorem State.rack_setInput (i : Input) (q : Port) (r : InputRec) : (s.setInput i r).rack q = s.rack q := rfl
@[simp] theorem State.rack_setTsu (q : Port) (x : Tsu) : (s.setTsu x).rack q = s.rack q := rfl
@[simp] theorem State.rack_setEds (q : Port) (x : Eds) : (s.setEds x).rack q = s.rack q := rfl
@[simp] theorem State.rack_setNtu (q : Port) (x : Ntu) : (s.setNtu x).rack q = s.rack q := rfl
@[simp] theorem State.rack_setMlc (q : Port) (x : Mlc) : (s.setMlc x).rack q = s.rack q := rfl
@[simp] theorem State.rack_setSq (q : Port) (x : Sq) : (s.setSq x).rack q = s.rack q := rfl
@[simp] theorem State.rack_setStl (q : Port) (x : Stl) : (s.setStl x).rack q = s.rack q := rfl
@[simp] theorem State.rack_setClk (q : Port) (x : Clock) : (s.setClk x).rack q = s.rack q := rfl
@[simp] theorem State.rack_setRef (q : Port) (x : Ref) : (s.setRef x).rack q = s.rack q := rfl
@[simp] theorem State.rack_setRle (q : Port) (x : Rle) : (s.setRle x).rack q = s.rack q := rfl
@[simp] theorem State.rack_setEcu (q : Port) (x : Ecu) : (s.setEcu x).rack q = s.rack q := rfl

/-! ### Marks and lines -/

theorem State.marks_setMarks (p q : Port) (m : PortMarks) :
    (s.setMarks p m).marks q = if p = q then m else s.marks q := by
  by_cases h : p = q
  · subst h
    simp [State.marks, State.setMarks]
  · have h' : p.val ≠ q.val := fun e => h (Fin.ext e)
    simp [State.marks, State.setMarks, h, h']

@[simp] theorem State.marks_setMarks_same (p : Port) (m : PortMarks) : (s.setMarks p m).marks p = m := by
  simp [State.marks_setMarks]

@[simp] theorem State.marks_setLine (l : Line) (q : Port) (r : LineRec) : (s.setLine l r).marks q = s.marks q := rfl

theorem State.line_setLine (l k : Line) (r : LineRec) :
    (s.setLine l r).line k = if l = k then r else s.line k := by
  by_cases h : l = k
  · subst h
    simp [State.line, State.setLine]
  · have h' : l.val ≠ k.val := fun e => h (Fin.ext e)
    simp [State.line, State.setLine, h, h']

@[simp] theorem State.line_setLine_same (l : Line) (r : LineRec) : (s.setLine l r).line l = r := by
  simp [State.line_setLine]

@[simp] theorem State.line_setMarks (p : Port) (l : Line) (m : PortMarks) : (s.setMarks p m).line l = s.line l := rfl

/-! ### Inputs -/

theorem State.input_setInput (i j : Input) (r : InputRec) :
    (s.setInput i r).input j = if i = j then r else s.input j := by
  cases i <;> cases j <;> simp [State.input, State.setInput, Ref.input, Ref.setInput]

@[simp] theorem State.input_setInput_same (i : Input) (r : InputRec) : (s.setInput i r).input i = r := by
  simp [State.input_setInput]

@[simp] theorem State.setInput_self (i : Input) : s.setInput i (s.input i) = s := by
  cases i <;> rfl

/-! ### Compensation and levels -/

theorem Eds.comp_setComp (e : Eds) (p q : Port) (c : Nat) :
    (e.setComp p c).comp[q] = if p = q then c else e.comp[q] := by
  by_cases h : p = q
  · subst h
    simp [Eds.setComp]
  · have h' : p.val ≠ q.val := fun e => h (Fin.ext e)
    simp [Eds.setComp, h, h']

theorem Eds.level_setLevel (e : Eds) (p q : Port) (b : Bool) :
    (e.setLevel p b).level[q] = if p = q then b else e.level[q] := by
  by_cases h : p = q
  · subst h
    simp [Eds.setLevel]
  · have h' : p.val ≠ q.val := fun e => h (Fin.ext e)
    simp [Eds.setLevel, h, h']

@[simp] theorem Eds.comp_setLevel (e : Eds) (p : Port) (b : Bool) : (e.setLevel p b).comp = e.comp := rfl
@[simp] theorem Eds.active_setLevel (e : Eds) (p : Port) (b : Bool) : (e.setLevel p b).active = e.active := rfl
@[simp] theorem Eds.active_setComp (e : Eds) (p : Port) (c : Nat) : (e.setComp p c).active = e.active := rfl
@[simp] theorem Eds.level_setComp (e : Eds) (p : Port) (c : Nat) : (e.setComp p c).level = e.level := rfl

/-! ### Work over every port -/

/-- What each port's share of a work keeps, the whole work keeps. -/
theorem overPorts_keeps {P : State → Prop} (f : Port → State → State) (h : ∀ p s, P s → P (f p s)) (s : State)
    (hs : P s) : P (overPorts f s) := by
  have aux : ∀ (ps : List Port) (t : State), P t → P (ps.foldl (fun s p => f p s) t) := by
    intro ps
    induction ps with
    | nil => exact fun t ht => ht
    | cons p ps ih => exact fun t ht => ih _ (h p t ht)
  exact aux allPorts s hs

/-- Every port is in the list of ports. -/
theorem mem_allPorts (p : Port) : p ∈ allPorts := by
  revert p
  decide

end Sys2Proof.Machine
end

