-- ==== Sys2Proof/Laws/Ops.lean ====
section
/-! SUPPORT. What the shared operations can do, said once each: the passing of ticks, the raising of notices and markers,
the hand-out of the transmitter, the sample taken by the drift monitor, the frames of the rack link, and the service of a
request. -/

namespace Sys2Proof.Machine

variable (s : State)

/-! ### The passing of ticks -/

/-- What the silence of a message line can end: the message in assembly, counted. -/
theorem State.gapTimeout_cases (i : Input) :
    s.gapTimeout i = s
      ∨ ((s.input i).gapPassed s.clk.ticks = true ∧ s.gapTimeout i = s.setInput i (s.input i).abandon) := by
  unfold State.gapTimeout
  split
  · exact .inr ⟨by assumption, rfl⟩
  · exact .inl rfl

/-- What the silence of LINK_RX can end: the frame in assembly, counted. -/
theorem State.linkTimeout_cases :
    s.linkTimeout = s
      ∨ (s.mlc.rx.gapPassed s.clk.ticks = true
        ∧ s.linkTimeout = s.dropFrame { s.mlc.ctr with timeouts := bump s.mlc.ctr.timeouts }) := by
  unfold State.linkTimeout
  split
  · exact .inr ⟨by assumption, rfl⟩
  · exact .inl rfl

/-- Silences end nothing but what is in assembly: of REF the bytes and framing counters of its inputs, of the link its
receiver and timeout counter. -/
theorem State.lapse_eq :
    ∃ (a b : InputRec) (rx : Receiver) (n : Nat),
      s.lapse = (s.setRef { s.ref with a := a, b := b }).setMlc
          { s.mlc with rx := rx, ctr := { s.mlc.ctr with timeouts := n } }
        ∧ (a = s.ref.a ∨ a = s.ref.a.abandon) ∧ (b = s.ref.b ∨ b = s.ref.b.abandon)
        ∧ (rx = s.mlc.rx ∨ rx = s.mlc.rx.hunt) := by
  have close : ∀ (t : State) (a b : InputRec), t = s.setRef { s.ref with a := a, b := b } →
      ∃ (rx : Receiver) (n : Nat), t.linkTimeout = (s.setRef { s.ref with a := a, b := b }).setMlc
        { s.mlc with rx := rx, ctr := { s.mlc.ctr with timeouts := n } } ∧ (rx = s.mlc.rx ∨ rx = s.mlc.rx.hunt) := by
    rintro t a b rfl
    rcases (s.setRef { s.ref with a := a, b := b }).linkTimeout_cases with h | ⟨-, h⟩
    · exact ⟨s.mlc.rx, s.mlc.ctr.timeouts, h, .inl rfl⟩
    · exact ⟨_, _, h, .inr rfl⟩
  unfold State.lapse
  rcases s.gapTimeout_cases .a with h | ⟨-, h⟩ <;> rw [h]
  · rcases s.gapTimeout_cases .b with h | ⟨-, h⟩ <;> rw [h]
    · obtain ⟨rx, n, e, o⟩ := close s s.ref.a s.ref.b rfl
      exact ⟨_, _, rx, n, e, .inl rfl, .inl rfl, o⟩
    · obtain ⟨rx, n, e, o⟩ := close _ s.ref.a s.ref.b.abandon rfl
      exact ⟨_, _, rx, n, e, .inl rfl, .inr rfl, o⟩
  · rcases (s.setInput .a (s.input .a).abandon).gapTimeout_cases .b with h | ⟨-, h⟩ <;> rw [h]
    · obtain ⟨rx, n, e, o⟩ := close _ s.ref.a.abandon s.ref.b rfl
      exact ⟨_, _, rx, n, e, .inr rfl, .inl rfl, o⟩
    · obtain ⟨rx, n, e, o⟩ := close _ s.ref.a.abandon s.ref.b.abandon rfl
      exact ⟨_, _, rx, n, e, .inr rfl, .inr rfl, o⟩

/-- With nothing in assembly a silence ends nothing. -/
theorem State.lapse_of_linesIdle (h : s.LinesIdle) : s.lapse = s := by
  have ha : s.gapTimeout .a = s := by simp [State.gapTimeout, InputRec.gapPassed, State.input, Ref.input, h.a]
  have hb : s.gapTimeout .b = s := by simp [State.gapTimeout, InputRec.gapPassed, State.input, Ref.input, h.b]
  have hl : s.linkTimeout = s := by simp [State.linkTimeout, Receiver.gapPassed, h.link]
  rw [State.lapse, ha, hb, hl]

theorem State.runTicks_zero : s.runTicks 0 = s := rfl

/-- One tick and more: time advances, and silences end. -/
theorem State.runTicks_succ (m : Nat) : s.runTicks (m + 1) = (s.advance m).lapse := rfl

/-- The advance of time changes the timescale value and the model's clock. -/
theorem State.advance_eq (m : Nat) : ∃ (v : Ts) (c : Clock), s.advance m = (s.setTsu { s.tsu with ts := v }).setClk c :=
  ⟨_, _, rfl⟩

/-- Ticks change the timescale value and the model's clock, and end what has been silent too long. -/
theorem State.runTicks_eq (n : Nat) :
    ∃ (v : Ts) (c : Clock) (a b : InputRec) (rx : Receiver) (k : Nat),
      s.runTicks n = ((((s.setTsu { s.tsu with ts := v }).setClk c).setRef { s.ref with a := a, b := b })).setMlc
          { s.mlc with rx := rx, ctr := { s.mlc.ctr with timeouts := k } }
        ∧ (a = s.ref.a ∨ a = s.ref.a.abandon) ∧ (b = s.ref.b ∨ b = s.ref.b.abandon)
        ∧ (rx = s.mlc.rx ∨ rx = s.mlc.rx.hunt) := by
  cases n with
  | zero => exact ⟨s.tsu.ts, s.clk, _, _, _, _, rfl, .inl rfl, .inl rfl, .inl rfl⟩
  | succ m =>
    obtain ⟨v, c, e⟩ := s.advance_eq m
    rw [State.runTicks_succ, e]
    obtain ⟨a, b, rx, k, e, ha, hb, hr⟩ := ((s.setTsu { s.tsu with ts := v }).setClk c).lapse_eq
    exact ⟨v, c, a, b, rx, k, e, ha, hb, hr⟩

/-- With nothing in assembly ticks change the timescale value and the model's clock only. -/
theorem State.runTicks_of_linesIdle (h : s.LinesIdle) (n : Nat) :
    ∃ (v : Ts) (c : Clock), s.runTicks n = (s.setTsu { s.tsu with ts := v }).setClk c := by
  cases n with
  | zero => exact ⟨s.tsu.ts, s.clk, rfl⟩
  | succ m =>
    obtain ⟨v, c, e⟩ := s.advance_eq m
    exact ⟨v, c, by
      rw [State.runTicks_succ, e]
      exact State.lapse_of_linesIdle _ ⟨h.a, h.b, h.link⟩⟩

/-- A state that `reach` gives is the present one or one that ticks lead to. -/
theorem State.reach_eq {t : State} {i : Time} (h : s.reach i = some t) : ∃ n, t = s.runTicks n := by
  unfold State.reach at h
  split at h
  · exact ⟨0, by simpa [State.runTicks] using h.symm⟩
  · split at h
    · split at h
      · exact ⟨_, by simpa using h.symm⟩
      · cases h
    · cases h

/-- A state that `reachElapsed` gives is the present one or one that ticks lead to. -/
theorem State.reachElapsed_eq {t : State} {a b : Nat} (h : s.reachElapsed a b = some t) : ∃ n, t = s.runTicks n := by
  unfold State.reachElapsed at h
  split at h
  · exact ⟨0, by simpa [State.runTicks] using h.symm⟩
  · split at h
    · exact ⟨_, by simpa using h.symm⟩
    · cases h

/-- A state that `reachTick` gives is the present one or one that ticks lead to. -/
theorem State.reachTick_eq {t : State} {n : Nat} (h : s.reachTick n = some t) : ∃ k, t = s.runTicks k := by
  unfold State.reachTick at h
  split at h
  · exact ⟨0, by simpa [State.runTicks] using h.symm⟩
  · split at h
    · exact ⟨_, by simpa using h.symm⟩
    · cases h

/-- So is one that `freeTick` gives. -/
theorem State.freeTick_eq {t : State} {b : Bool} (h : s.freeTick b = some t) : ∃ k, t = s.runTicks k := by
  unfold State.freeTick State.nextTick at h
  split at h
  · exact s.reachTick_eq h
  · exact ⟨0, by simpa [State.runTicks] using h.symm⟩

/-! ### Notices and markers -/

/-- The hand-out of the transmitter changes the pending set and the link only. -/
theorem State.handOut_eq : ∃ (n : Ntu) (m : Mlc), s.handOut = (s.setNtu n).setMlc m := by
  unfold State.handOut
  split
  · split
    · exact ⟨s.ntu, s.mlc, rfl⟩
    · exact ⟨_, _, rfl⟩
  · exact ⟨s.ntu, s.mlc, rfl⟩

/-- A hand-out begins no frame where the transmitter is not on offer. -/
theorem State.handOut_of_not_offers (h : s.mlc.offers = false) : s.handOut = s := by
  simp [State.handOut, h]

/-- Raising a notice changes the pending set and the link only. -/
theorem State.raiseNotice_eq (p : Place) (v : NoticeValue) :
    ∃ (n : Ntu) (m : Mlc), s.raiseNotice p v = (s.setNtu n).setMlc m := by
  obtain ⟨n, m, h⟩ := (s.setNtu (s.ntu.raise p v s.now.sec)).handOut_eq
  exact ⟨n, m, h⟩

/-- Raising a marker changes the backlog only. -/
theorem State.raiseMarker_eq (h : Hdr) (m : Marker) :
    s.raiseMarker h m = s.setSq { s.sq with backlog := s.sq.backlog.raise h m } := rfl

/-- One occurrence changes the backlog, the pending set and the link only. -/
theorem State.raiseOne_eq (x : Raise) :
    ∃ (b : Backlog) (n : Ntu) (m : Mlc),
      s.raiseOne x = ((s.setSq { s.sq with backlog := b }).setNtu n).setMlc m := by
  cases x with
  | notice p v =>
    obtain ⟨n, m, h⟩ := s.raiseNotice_eq p v
    exact ⟨s.sq.backlog, n, m, h⟩
  | marker m => exact ⟨s.sq.backlog.raise s.hdr m, s.ntu, s.mlc, rfl⟩

/-- So do many. -/
theorem State.raises_eq (xs : List Raise) :
    ∃ (b : Backlog) (n : Ntu) (m : Mlc),
      xs.foldl State.raiseOne s = ((s.setSq { s.sq with backlog := b }).setNtu n).setMlc m := by
  induction xs generalizing s with
  | nil => exact ⟨s.sq.backlog, s.ntu, s.mlc, rfl⟩
  | cons x xs ih =>
    obtain ⟨b, n, m, h⟩ := s.raiseOne_eq x
    obtain ⟨b', n', m', h'⟩ := ih (s := s.raiseOne x)
    exact ⟨b', n', m', by rw [List.foldl_cons, h', h]; rfl⟩

/-- A change of a record's state writes that record, the backlog, the pending set and the link only. -/
theorem State.changeRecord_eq (p : Port) (r : RackRec) (c : RackCause) :
    ∃ (b : Backlog) (n : Ntu) (m : Mlc),
      s.changeRecord p r c = (((s.setRack p r).setSq { s.sq with backlog := b }).setNtu n).setMlc m := by
  unfold State.changeRecord
  obtain ⟨n, m, h⟩ := (((s.setRack p r).raiseMarker s.hdr (.rack p r.state 1))).raiseNotice_eq (.rack p)
    (.rack r.state c r.offset r.rate)
  exact ⟨_, n, m, h⟩

/-- The two rack flags of a sample, and the port it names, change nothing of what a record makes of it. -/
theorem RackRec.sample_flags (r : RackRec) (cfg : DriftCfg) (gen : Gen) (x : Sample) (p : Port) (st ho : Bool) :
    r.sample cfg gen { x with port := p, stepped := st, holdover := ho } = r.sample cfg gen x := rfl

/-- A sample writes its port's record, the backlog, the pending set and the link only; the record is what `RackRec.sample`
leaves. -/
theorem State.takeSample_eq (x : Sample) :
    ∃ (b : Backlog) (n : Ntu) (m : Mlc),
      s.takeSample x =
        (((s.setRack x.port ((s.rack x.port).sample s.drm.cfg s.tsu.gen x).record).setSq
          { s.sq with backlog := b }).setNtu n).setMlc m := by
  unfold State.takeSample
  generalize (s.rack x.port).sample s.drm.cfg s.tsu.gen x = y
  obtain ⟨r, path, gross⟩ := y
  have close : ∀ (n : Ntu) (m : Mlc), ∃ (b : Backlog) (n' : Ntu) (m' : Mlc),
      (let u := ((s.setRack x.port r).setNtu n).setMlc m
        if gross then u.changeRecord x.port (u.rack x.port) .gross else u) =
        (((s.setRack x.port r).setSq { s.sq with backlog := b }).setNtu n').setMlc m' := by
    intro n m
    cases gross with
    | false => exact ⟨s.sq.backlog, n, m, rfl⟩
    | true =>
      obtain ⟨b, n', m', h⟩ := State.changeRecord_eq (((s.setRack x.port r).setNtu n).setMlc m) x.port r .gross
      refine ⟨b, n', m', ?_⟩
      simp only [State.rack_setMlc, State.rack_setNtu, State.rack_setRack_same, if_true, h]
      simp [State.setRack, State.setSq, State.setNtu, State.setMlc, State.setDrm]
  cases path with
  | none => exact close s.ntu s.mlc
  | some d =>
    obtain ⟨n, m, h⟩ := (s.setRack x.port r).raiseNotice_eq (.path x.port) (.path d.1 d.2)
    obtain ⟨b, n', m', k⟩ := close n m
    exact ⟨b, n', m', by rw [← k, ← h]⟩

/-! ### The rack link -/

/-- A departure finds no exchange open and closes nothing, or closes the open one as an expiry would, where a frame that
goes on past its tick is a framing error besides. -/
theorem State.closeForDeparture_cases (p : Port) (receiving : Bool) :
    ((s.port p).exch = none ∧ s.closeForDeparture p receiving = s)
    ∨ ((s.port p).exch ≠ none ∧ (receiving && (s.port p).canReceive) = false
        ∧ s.closeForDeparture p receiving = s.missEcho p)
    ∨ ((s.port p).exch ≠ none ∧ (receiving && (s.port p).canReceive) = true
        ∧ s.closeForDeparture p receiving = (s.missEcho p).setPort p { (s.missEcho p).port p with
          ctr := { ((s.missEcho p).port p).ctr with framing := bump ((s.missEcho p).port p).ctr.framing } }) := by
  unfold State.closeForDeparture
  cases hx : (s.port p).exch with
  | none => exact .inl ⟨rfl, rfl⟩
  | some x =>
    refine .inr ?_
    cases hr : (receiving && (s.port p).canReceive) with
    | false => exact .inl ⟨by simp, rfl, by simp⟩
    | true => exact .inr ⟨by simp, rfl, by simp⟩

/-- A frame's end is taken by a receiver that is open, or, closed by a departure of this tick, against the exchange which
that departure closed; elsewhere it does nothing. -/
theorem State.frameEnd_cases (p : Port) (v : RackVerdict) (ago : Nat) :
    ((s.port p).canReceive = true ∧ s.frameEnd p v ago =
        match v with
        | .echo e => s.receiveEcho p e ago
        | .call => s.receiveCall p
        | .bad c => s.rejectFrame p c)
    ∨ ((s.port p).canReceive = false ∧ s.overtaken p = none ∧ s.frameEnd p v ago = s)
    ∨ ∃ x : Option Exchange, (s.port p).canReceive = false ∧ s.overtaken p = some x
        ∧ s.frameEnd p v ago = (s.settleOvertaken p).takeOvertaken p x v ago := by
  unfold State.frameEnd
  cases hc : (s.port p).canReceive with
  | true => exact .inl ⟨rfl, rfl⟩
  | false =>
    refine .inr ?_
    cases ho : s.overtaken p with
    | none => exact .inl ⟨rfl, rfl, rfl⟩
    | some x => exact .inr ⟨x, rfl, rfl, rfl⟩

/-- A landing changes the events taken at the tick only. -/
theorem landAgain_eq (sec : RowSec) (p : Port) :
    ∃ xs : List TickEvent, landAgain sec p s = s.setClk { s.clk with taken := xs } := by
  unfold landAgain
  split
  · exact ⟨_, rfl⟩
  · exact ⟨s.clk.taken, rfl⟩

/-- A usable verdict is a GOOD one reported: the loop's error and message come from nothing else (02 R31). -/
theorem InputRec.goodNow_eq_some {r : InputRec} {gen : Gen} {e : PhaseErr} {m : RefMessage} :
    r.goodNow gen = some (e, m) ↔ r.reported gen = .good e m := by
  unfold InputRec.goodNow
  cases r.reported gen <;> simp [ReportVerdict.data]

/-! ### Serving a request -/

/-- All that the service of a request can do: nothing at a deaf receiver; a length error; a busy discard; an ignored
broadcast query; or the judged request's effect. -/
theorem State.serve_cases (k : ReqKind) (r : Req) (act : Req → State → Served) :
    (s.mlc.deaf = true ∧ s.serve k r act = s)
    ∨ (s.mlc.deaf = false ∧ 248 < r.payload.length
        ∧ s.serve k r act = s.dropFrame { s.mlc.ctr with length := bump s.mlc.ctr.length })
    ∨ (s.mlc.deaf = false ∧ r.payload.length ≤ 248 ∧ s.mlc.service = true
        ∧ s.serve k r act = s.dropFrame { s.mlc.ctr with busy := bump s.mlc.ctr.busy })
    ∨ (s.mlc.deaf = false ∧ r.payload.length ≤ 248 ∧ s.mlc.service = false ∧ (k.query && r.broadcast) = true
        ∧ s.serve k r act = s.dropFrame { s.mlc.ctr with other := bump s.mlc.ctr.other })
    ∨ (s.mlc.deaf = false ∧ r.payload.length ≤ 248 ∧ s.mlc.service = false ∧ (k.query && r.broadcast) = false
        ∧ s.serve k r act = (s.dropFrame s.mlc.ctr).conclude (k.code + 0x80) r
          (if r.payload.length = k.length then act r ((s.dropFrame s.mlc.ctr).taken r)
            else Served.refuse ((s.dropFrame s.mlc.ctr).taken r) .malformed)) := by
  unfold State.serve State.throughLink
  by_cases hd : s.mlc.deaf = true
  · exact .inl ⟨hd, if_pos hd⟩
  · have hd' : s.mlc.deaf = false := by simpa using hd
    refine .inr ?_
    rw [if_neg hd]
    by_cases hl : 248 < r.payload.length
    · exact .inl ⟨hd', hl, if_pos hl⟩
    · refine .inr ?_
      have hl' : r.payload.length ≤ 248 := by omega
      rw [if_neg hl]
      unfold State.receive
      by_cases hs : s.mlc.service = true
      · exact .inl ⟨hd', hl', hs, if_pos hs⟩
      · have hs' : s.mlc.service = false := by simpa using hs
        refine .inr ?_
        by_cases hq : (k.query && r.broadcast) = true
        · exact .inl ⟨hd', hl', hs', hq, (if_neg hs).trans (if_pos hq)⟩
        · have hq' : (k.query && r.broadcast) = false := by simpa using hq
          exact .inr ⟨hd', hl', hs', hq', (if_neg hs).trans (if_neg hq)⟩

end Sys2Proof.Machine
end

