-- ==== Sys2Proof/Laws/Serve.lean ====
section
/-! SUPPORT. The service of a request in the words of Safety.lean: what a judged request leaves, whatever its kind. -/

namespace Sys2Proof.Machine

variable {s : State} {k : ReqKind} {r : Req}

/-- A command that is the receipt of a catalogued request serves it. -/
theorem exec_of_requestOf {c : Instr} (h : requestOf c = some (k, r)) :
    ∃ act, ∀ s : State, exec c s = .next (s.serve k r act) := by
  cases c <;> simp [requestOf] at h <;> obtain ⟨rfl, rfl⟩ := h <;> exact ⟨_, fun _ => rfl⟩

/-- The service of a request that the hub takes is its judgement alone. -/
theorem State.serve_of_takes (h : s.Takes k r) (hk : k.length ≤ 248) (act : Req → State → Served) :
    s.serve k r act =
      (s.dropFrame s.mlc.ctr).conclude (k.code + 0x80) r (act r ((s.dropFrame s.mlc.ctr).taken r)) := by
  rcases s.serve_cases k r act with ⟨a, _⟩ | ⟨_, a, _⟩ | ⟨_, _, a, _⟩ | ⟨_, _, _, a, _⟩ | ⟨_, _, _, _, a⟩
  · simp [h.hears] at a
  · have := h.length
    omega
  · simp [h.idle] at a
  · simp at a
    simp [h.addressed a.1] at a
  · simpa [h.length] using a

/-- A request whose block keeps its state leaves only the link concluded. -/
theorem State.conclude_of_kept {kb : Byte} {res : Result} {body : List Byte} (hs : s.mlc.service = false) :
    (s.dropFrame s.mlc.ctr).conclude kb r ⟨(s.dropFrame s.mlc.ctr).taken r, res, body⟩ = s.concluded kb r res body := by
  obtain ⟨tsu, ref, eds, rle, drm, ecu, sq, stl, ntu, mlc, clk, pend⟩ := s
  obtain ⟨rateHigh, mode, addr, rx, service, reply, owner, begun, tx, linkDE, noticeNo, lastCause, ctr, rd, held⟩ := mlc
  obtain ⟨b, id, pl⟩ := r
  cases b <;> cases owner <;> cases mode <;> cases res <;> simp_all <;> rfl

/-- A request that its block carries out by an update that leaves the link alone leaves that update with the link
concluded. -/
theorem State.conclude_of_update {kb : Byte} {res : Result} {body : List Byte} (f : State → State)
    (hf : ∀ (s : State) (m : Mlc), f (s.setMlc m) = (f s).setMlc m) (hr : res.refuses = false)
    (hs : s.mlc.service = false) :
    (s.dropFrame s.mlc.ctr).conclude kb r ⟨f ((s.dropFrame s.mlc.ctr).taken r), res, body⟩
      = (f s).concluded kb r res body := by
  have hmf : (f s).mlc = s.mlc := by
    have := hf s s.mlc
    simp at this
    rw [this]
    rfl
  have e : f ((s.dropFrame s.mlc.ctr).taken r) = (f s).setMlc ((s.dropFrame s.mlc.ctr).taken r).mlc := by
    rw [← hf]
    congr 1
    unfold State.taken
    split <;> rfl
  unfold State.conclude State.concluded
  rw [e, hmf, hr]
  obtain ⟨tsu, ref, eds, rle, drm, ecu, sq, stl, ntu, mlc, clk, pend⟩ := s
  obtain ⟨rateHigh, mode, addr, rx, service, reply, owner, begun, tx, linkDE, noticeNo, lastCause, ctr, rd, held⟩ := mlc
  obtain ⟨b, id, pl⟩ := r
  cases b <;> cases owner <;> cases mode <;> cases res <;> simp_all [Result.refuses] <;> rfl

/-- Every unit but the link is the same in the state a request's block is handed. -/
theorem State.taken_eq : ∃ m : Mlc, (s.dropFrame s.mlc.ctr).taken r = s.setMlc m
    ∧ m.addr = s.mlc.addr ∧ m.mode = s.mlc.mode ∧ m.held = s.mlc.held ∧ m.linkDE = s.mlc.linkDE := by
  unfold State.taken
  split
  · exact ⟨_, rfl, rfl, rfl, rfl, rfl⟩
  · exact ⟨_, rfl, rfl, rfl, rfl, rfl⟩

end Sys2Proof.Machine
end

