-- ==== Sys2Proof/Tests/Slice0.lean ====
section
/-! SUPPORT. Small tests: the well-formedness checks, values that the spec works out, one step of the commands, and for
every statement with hypotheses a named state and operands that meet them (the theorems `witness_…`). -/

namespace Sys2Proof.Tests

open Sys2Proof.Machine

-- One theorem after another: many kernel evaluations at once need more threads than the check's memory limit gives.
set_option Elab.async false

/-! ### Helpers -/

/-- An addressed request with id 7. -/
def asks (payload : List Byte) : Req := ⟨false, 7, payload⟩

/-- A broadcast request with id 7. -/
def tells (payload : List Byte) : Req := ⟨true, 7, payload⟩

/-- The state a command leaves. -/
def after (c : Instr) (s : State) : State :=
  match exec c s with
  | .next t => t
  | .fault _ => s
  | .refused _ => s

/-- `s` with port `p` in a state, its receiver looking, and its rack record in the state that goes with it. -/
def withPort (s : State) (p : Port) (st : PortState) (rs : RackState) : State :=
  (s.setPort p { s.port p with state := st, rx := .looking }).setRack p { s.rack p with state := rs }

/-- `s` with input A in a state. -/
def withInput (s : State) (st : InputState) : State := s.setInput .a { s.ref.a with state := st }

/-- `s` with the timescale in a state. -/
def inState (s : State) (st : TsState) : State := s.setTsu { s.tsu with state := st }

/-- `s` in SHARED mode. -/
def shared (s : State) : State := s.setMlc { s.mlc with mode := .shared }

/-- `s` with the transmitter's owner given. -/
def owned (s : State) (o : Owner) : State := s.setMlc { s.mlc with owner := o, begun := true, service := o == .reply }

/-- A reply in the reply buffer. -/
def someReply : Reply := ⟨0x81, 7, [0]⟩

/-- `s` with a STEP notice pending. -/
def noticed (s : State) : State := s.setNtu (s.ntu.raise .step (.step (-2500)) 3)

/-! ### Well-formedness: an ill-formed command for each check -/

theorem test_wf_refuses_long_payload : (Instr.identify (asks (List.replicate 249 0))).wf = false := by decide +kernel
theorem test_wf_takes_longest_payload : (Instr.identify (asks (List.replicate 248 0))).wf = true := by decide +kernel
theorem test_wf_refuses_long_frame : (Instr.echoReceived 0 (List.replicate 113 0) 0).wf = false := by decide +kernel
theorem test_wf_refuses_cycle_64 : (Instr.cycleStart 0 64).wf = false := by decide
theorem test_wf_refuses_departure_of_cycle_64 : (Instr.cycleCompensatedInstant 0 0 64 false).wf = false := by decide

/-! ### Values that the spec works out -/

/-- 01, worked case of the tick increment: at +50,000,000 ppt. -/
theorem test_tick_increment : tickIncrement 50000000 = 34361456355 := by decide

/-- 11 R183: the CRC of the nine characters 123456789. -/
theorem test_crc : crc16 [0x31, 0x32, 0x33, 0x34, 0x35, 0x36, 0x37, 0x38, 0x39] = 0x29B1#16 := by decide +kernel

/-- 05 R86: a round trip of 3,851 ns gives a raw delay of 1,926 ns. -/
theorem test_half_rounds_away : roundDiv 3851 2 = 1926 := by decide

/-- 02, worked case of the switch: the integral's term 10^9 / 256 is 3,906,250 and 400,000 / 256 rounds to 1,563. -/
theorem test_loop_rounding : roundDiv 400000 256 = 1563 ∧ roundDiv 1000000000 256 = 3906250 := by decide

/-- 09 R160, 11 section 11.2: a frame from the hub begins A7H, then 80H with the address. -/
theorem test_hub_frame_head : (hubFrame 5 0x81 7 [0]).take 6 = [0xA7, 0x85, 0x81, 7, 1, 0] := by decide +kernel

/-- Three records from sequence `n` on. -/
def threeFrom (n : BitVec 32) : Sq :=
  { Sq.initial .powerOn with
    queue := [⟨n, ⟨⟨0, 0⟩, .d, 0⟩, .marker (.gap 1)⟩, ⟨n + 1, ⟨⟨0, 0⟩, .d, 0⟩, .marker (.gap 2)⟩,
      ⟨n + 2, ⟨⟨0, 0⟩, .d, 0⟩, .marker (.gap 3)⟩]
    nextSeq := n + 3 }

/-- 07 R137's table, on three records: before the head and at it nothing goes, inside the queue the records before it,
at the next sequence all, past it all, and clamped. -/
theorem test_release :
    ((threeFrom 12300).release 12000).1.queue.length = 3 ∧ ((threeFrom 12300).release 12300).1.queue.length = 3
    ∧ ((threeFrom 12300).release 12301).1.queue.length = 2 ∧ (threeFrom 12300).release 12303 = ({ threeFrom 12300 with queue := [] }, false)
    ∧ (threeFrom 12300).release 13500 = ({ threeFrom 12300 with queue := [] }, true) := by decide +kernel

/-- 05, worked case of one sample: D = 1,903 and O = 157. -/
theorem test_worked_sample :
    let r : RackRec := { RackRec.initial with
      state := .settled, delay := 1900, delayCount := 8, delaySeed := false, offset := 150, offsetSeed := false }
    let y := r.sample DriftCfg.default 0
      ⟨3, ⟨⟨5, 8⟩, ⟨5, 499998800⟩, 0, 1200⟩, 200000, ⟨5, 500012650⟩, 10000, 5, 500000880, false, false⟩
    y.record.delay = 1903 ∧ y.record.offset = 157 := by decide +kernel

/-- 05, worked case of rate and time to alarm: +16,000 ppt and 115 s. -/
theorem test_worked_rate :
    driftRate ([-83] ++ List.replicate 14 0 ++ [157]) = 16000 ∧ timeToAlarm 157 16000 2000 = 115 := by decide +kernel

/-- 02, worked case of one loop update: F_loop = 2,305,102 and I = 2,309,852, the tick increment 34,359,817,571. -/
theorem test_worked_loop_update :
    let t := ({ Tsu.initial with state := .locked, integ := 2310000 }.loopUpdate ⟨38, false⟩).1
    t.fLoop = 2305102 ∧ t.integ = 2309852 ∧ t.ring = [2305102] ∧ tickIncrement t.fLoop = 34359817571 := by decide +kernel

/-- 01, worked case of the small backward step: the value after it, its generation and its mark. -/
theorem test_worked_step :
    let t := ({ Tsu.initial with ts := ⟨86400124, 4, 0⟩, gen := 7 }.step (some 2500)).1
    t.ts = ⟨86400123, 999997504, 0⟩ ∧ t.gen = 8 ∧ t.mark = some 86400124 ∧ t.quiet = true ∧ t.hist = [⟨8, -2500⟩] := by
  decide +kernel

/-- 11, worked case of one reference message: its checksum is good, and not with bit 0 of byte 15 flipped. -/
theorem test_worked_message :
    let bs : List Byte := [0, 0, 0x6B, 0x49, 0xD2, 4, 0x25, 0, 0, 0, 0, 0, 0, 0, 2, 1, 5, 0x49]
    refMessage bs = ⟨1800000004, 37, 0, 0, 2, 0x0105, true⟩ ∧ (refMessage (bs.set 14 3)).sumGood = false := by
  decide +kernel

/-- 06, worked case of dating one mark: S.478,498,370 with grade C and no flags; with one step of +3,000 ns between,
S.478,501,370 with grade D. -/
theorem test_worked_mark :
    let e : LogEntry := ⟨⟨9, 7⟩, ⟨9, 437497600⟩, 4, 2400⟩
    let k : MarkIn := ⟨3, 1, ⟨9, 7⟩, 10, 41000000⟩
    let x : PortMarks := { PortMarks.initial with nextExp := some 10 }
    let d := fun (gen : Gen) (hist : List StepEntry) => (⟨[e], gen, hist, 2410, 40000000, .drifting, .a, ⟨9, 625011800⟩⟩ : Dating)
    (PortMarks.takeMarks (d 4 []) [k] x).buf.map (fun m => (m.time, m.grade)) = [(⟨9, 478498370⟩, .c)]
    ∧ (PortMarks.takeMarks (d 5 [⟨5, 3000⟩]) [k] x).buf.map (fun m => (m.time, m.grade, m.flags.stepCorrected)) =
      [(⟨9, 478501370⟩, .d, true)] := by decide +kernel

/-! ### Witnesses: the queue of commands, the link and the resets -/

theorem witness_StepRunsTheFrontCommand : (State.reset.setPending [.admission]).pending = .admission :: [] := rfl

/-- A request fits where its payload has its kind's length and the hub is idle. -/
theorem takes_at_reset {s : State} {k : ReqKind} {r : Req} (hd : s.mlc.deaf = false) (hs : s.mlc.service = false)
    (hl : r.payload.length = k.length) (hq : r.broadcast = false ∨ k.query = false) : s.Takes k r :=
  ⟨hd, hs, hl, fun h => by rcases hq with hq | hq <;> simp_all⟩

theorem witness_RequestsAreJudgedInTheirOrder_busy :
    (owned State.reset .reply).mlc.deaf = false ∧ (owned State.reset .reply).mlc.service = true
    ∧ requestOf (.identify (tells (List.replicate 248 0))) = some (kindIdentify, tells (List.replicate 248 0))
    ∧ (tells (List.replicate 248 0)).payload.length ≤ 248 := ⟨rfl, rfl, rfl, by decide +kernel⟩

theorem witness_RequestsAreJudgedInTheirOrder_malformed :
    State.reset.mlc.deaf = false ∧ State.reset.mlc.service = false
    ∧ requestOf (.identify (asks [0])) = some (kindIdentify, asks [0]) ∧ (asks [0]).payload.length ≠ kindIdentify.length
    ∧ (kindIdentify.query = true → (asks [0]).broadcast = false)
    ∧ (asks (List.replicate 248 0)).payload.length ≤ 248 := by decide +kernel

theorem witness_RequestsAreJudgedInTheirOrder_broadcast :
    State.reset.mlc.deaf = false ∧ State.reset.mlc.service = false
    ∧ requestOf (.identify (tells [])) = some (kindIdentify, tells []) ∧ kindIdentify.query = true
    ∧ requestOf (.latch (tells [])) = some (kindLatch, tells []) ∧ (tells []).broadcast = true := by decide +kernel

/-- Reset with HSTB sampled low. -/
def sampled : State := State.reset.setStl { State.reset.stl with hstb := some false }

/-- The same with its receiver in a phase, with the bytes of the frame so far; a start bit has been noted or not. -/
def hearing (phase : RxPhase) (bytes : List Byte) (inByte : Bool) : State :=
  sampled.setMlc { sampled.mlc with rx := ⟨phase, bytes, inByte, 0⟩ }

/-- The pins at a tick: all low, what each asynchronous line shows given. -/
def pins (link a b : SerialLine) : Pins := ⟨0, false, link, a, b, 0⟩

/-- An asynchronous line that shows nothing, a start bit, or the end of a byte. -/
def still : SerialLine := ⟨none, false⟩
def start : SerialLine := ⟨none, true⟩
def ends (value : Byte) (good : Bool) : SerialLine := ⟨some ⟨value, good⟩, false⟩

theorem witness_ReceiverErrorsCountAndHunt :
    State.reset.mlc.deaf = false ∧ State.reset.mlc.rx.phase = .hunt ∧ (hearing .body [0, 0] false).mlc.deaf = false
    ∧ (hearing .body [0, 0] false).mlc.rx.phase ≠ .hunt ∧ (hearing .body [0, 0] false).mlc.held = false
    ∧ (hearing .body [0, 0] false).mlc.rx.inByte = false ∧ (hearing .body [0, 0] false).ref.a.assembling = []
    ∧ (hearing .body [0, 0] false).ref.b.assembling = [] ∧ (hearing .body [0, 0] false).clk.ticks ≤ 0 + 250000
    ∧ (hearing .body [0, 0] false).mlc.rx.lastTick + 250001 - (hearing .body [0, 0] false).clk.ticks <
      (hearing .body [0, 0] false).ticksToRoll := by decide +kernel

theorem witness_LinkBytesBecomeFramesAndRequests_lines :
    sampled.mlc.held = false ∧ 124999998 + 1 < sampled.ticksToRoll ∧ 0 + 1 < sampled.ticksToRoll
    ∧ sampled.stl.hstb = some (pins start still still).hstb
    ∧ (∀ l : Line, (sampled.line l).sample = (pins start still still).lines.getLsbD l.val)
    ∧ (∀ (phase : RxPhase) (bytes : List Byte) (b : Bool), (hearing phase bytes b).mlc.held = false)
    ∧ (pins start still still).linkRx = ⟨none, true⟩
    ∧ (pins (ends 0xA7 true) still still).linkRx = ⟨some ⟨0xA7, true⟩, false⟩ :=
  ⟨rfl, by decide +kernel, by decide +kernel, rfl, by decide +kernel, fun _ _ _ => rfl, rfl, rfl⟩

/-- The receiver at the tick of the byte: in each phase, a header of two and of three bytes, and bodies that the byte
leaves short and completes. -/
theorem witness_LinkBytesBecomeFramesAndRequests_phases :
    ((hearing .hunt [] false).runTicks 1).mlc.rx.inByte = false ∧ ((hearing .hunt [] true).runTicks 1).mlc.deaf = false
    ∧ ((hearing .hunt [] true).runTicks 1).mlc.rx.inByte = true ∧ ((hearing .hunt [] true).runTicks 1).mlc.rx.phase = .hunt
    ∧ ((hearing .header [0, 1] true).runTicks 1).mlc.rx = ⟨.header, [0, 1], true, 0⟩
    ∧ ((hearing .header [0, 1, 7] true).runTicks 1).mlc.rx = ⟨.header, [0, 1, 7], true, 0⟩
    ∧ (248 : Byte).toNat ≤ 248 ∧ 248 < (249 : Byte).toNat
    ∧ ((hearing .body [0, 1, 7, 1, 0] true).runTicks 1).mlc.rx = ⟨.body, [0, 1, 7, 1, 0], true, 0⟩
    ∧ ([0, 1, 7, 1, 0, 0] : List Byte).length < 6 + field ([0, 1, 7, 1, 0, 0] : List Byte) 3 1
    ∧ ((hearing .body [0, 1, 7, 0, 0] true).runTicks 1).mlc.rx.phase = .body
    ∧ 6 + field ([0, 1, 7, 0, 0, 0] : List Byte) 3 1 ≤ ([0, 1, 7, 0, 0, 0] : List Byte).length := by decide +kernel

theorem witness_LinkBytesBecomeFramesAndRequests_frames :
    crcGood [0, 1, 7, 0, 0, 0] = false ∧ crcGood (withCrc [128, 1, 7, 0]) = true ∧ 128 ≤ field (withCrc [128, 1, 7, 0]) 0 1
    ∧ crcGood (withCrc [1, 1, 7, 0]) = true ∧ field (withCrc [1, 1, 7, 0]) 0 1 % 16 ≠ State.reset.mlc.addr.toNat
    ∧ field (withCrc [1, 1, 7, 0]) 0 1 % 16 ≠ 15 ∧ (asks (List.replicate 248 0)).payload.length ≤ 248 := by decide +kernel

/-- The first and the last row of the catalogue, a request of the longest payload, and the kind bytes on either side of the
catalogue. -/
theorem witness_LinkBytesBecomeFramesAndRequests_catalogue :
    (Instr.identify, ⟨0x01, true, 0⟩) ∈ requestTable ∧ (Instr.poll, ⟨0x1D, true, 0⟩) ∈ requestTable
    ∧ requestOf (.poll (tells (List.replicate 248 0))) = some (kindPoll, tells (List.replicate 248 0))
    ∧ (tells (List.replicate 248 0)).payload.length ≤ 248 ∧ (0 : Byte).toNat = 0 ∧ 29 < (0x1E : Byte).toNat :=
  ⟨by simp [requestTable], by simp [requestTable], rfl, by decide +kernel, rfl, by decide⟩

/-- 09 R151 to R154: the last byte of a READ TIME begun by a start bit that was noted is the request's receipt; with no
start bit noted the frame stays short. -/
theorem test_link_byte :
    let frame := hostFrame 0 0x04 (asks [])
    let last := pins (ends (frame.getLastD 0) true) still still
    ((after (.oscillatorTick 0 last) (hearing .body frame.dropLast true)).mlc.reply.map Reply.kind) = some 0x84
    ∧ (after (.oscillatorTick 0 last) (hearing .body frame.dropLast false)).mlc.rx.bytes = frame.dropLast := by
  decide +kernel

theorem witness_RequestPayloadsAreReadBackAndCrcsSeeChanges :
    (∃ h : 0 < (withCrc [0x31]).length, (0x30 : Byte) ≠ (withCrc [0x31])[0])
    ∧ (∃ h : 2 < (withCrc [0x31]).length, (0x30 : Byte) ≠ (withCrc [0x31])[2])
    ∧ (-2147483648 : Int) ≤ -2147483648 ∧ (-2147483648 : Int) < 2147483648 ∧ (4294967295 : Nat) < 4294967296
    ∧ (255 : Nat) < 256 ∧ (65535 : Nat) < 65536 ∧ (2147483647 : Int) < 2147483648 ∧ (-32768 : Int) ≤ -32768
    ∧ (32767 : Int) < 32768 ∧ (63 : Nat) < 64 ∧ (127 : Nat) < 128 ∧ (15 : Nat) < 16 :=
  ⟨⟨by decide, by decide +kernel⟩, ⟨by decide, by decide +kernel⟩, by decide⟩

/-- 11 section 11.2: a SET REFERENCE of input B with REVERTIVE set and the reserved bits too, and a SET LEAP of −1. -/
theorem test_request_layouts :
    ReferenceReq.read [1, 0xFE, 2, 0, 0, 0, 3, 0, 0, 0, 4, 5] = ⟨1, false, true, 2, 3, 4, 5⟩
    ∧ LeapReq.read [0xFF, 0xFF, 1, 0, 0, 0, 0, 1, 2] = ⟨-1, 1, 258⟩ ∧ readMasks [0xF8, 1] = 0x801 := by decide +kernel

theorem witness_QueriesChangeNoBlock_takes :
    State.reset.Takes kindIdentify (asks []) ∧ State.reset.Takes kindReadTime (asks [])
    ∧ State.reset.Takes kindReadLoop (asks []) ∧ State.reset.Takes kindReadRow (asks [])
    ∧ State.reset.Takes kindStatus (asks [0]) ∧ State.reset.Takes kindReadReference (asks [0])
    ∧ State.reset.Takes kindReadPort (asks [15, 0]) ∧ State.reset.Takes kindReadRack (asks [15, 0])
    ∧ State.reset.Takes kindReadLines (asks [0, 0, 0]) ∧ State.reset.Takes kindReadLines (asks [1, 15, 0])
    ∧ State.reset.Takes kindReadSchedule (asks [0, 31, 16]) := by
  refine ⟨?_, ?_, ?_, ?_, ?_, ?_, ?_, ?_, ?_, ?_, ?_⟩ <;> exact takes_at_reset rfl rfl rfl (.inl rfl)

theorem witness_QueriesChangeNoBlock_fields :
    clearFlag (asks [0]).payload 0 = false ∧ PortRead.read [15, 0] = ⟨(15 : Port).val, false⟩
    ∧ LinesReq.read [0, 0, 0] = ⟨0, 0, false⟩ ∧ LinesReq.read [1, 15, 0] = ⟨1, (15 : Port).val, false⟩
    ∧ ScheduleReq.read [2, 0, 0] = ⟨2, 0, 0⟩ ∧ ScheduleReq.read [0, 31, 16] = ⟨0, 31, 16⟩
    ∧ ScheduleReq.read [1, 31, 0] = ⟨1, 31, 0⟩ ∧ ScheduleReq.read [3, 0, 1] = ⟨3, 0, 1⟩
    ∧ ScheduleReq.read [1, 32, 1] = ⟨1, 32, 1⟩ := by decide +kernel

/-- The first index past the ports, and the first view past the two. -/
theorem witness_QueriesChangeNoBlock_invalid :
    (State.reset.Takes kindReadPort (asks [16, 0]) ∧ State.reset.Takes kindReadRack (asks [16, 0])
    ∧ State.reset.Takes kindReadLines (asks [2, 0, 0]) ∧ State.reset.Takes kindReadLines (asks [1, 16, 0]))
    ∧ 15 < (PortRead.read [16, 0]).port ∧ 1 < (LinesReq.read [2, 0, 0]).view
    ∧ LinesReq.read [1, 16, 0] = ⟨1, 16, false⟩ := by
  refine ⟨⟨?_, ?_, ?_, ?_⟩, by decide +kernel⟩ <;> exact takes_at_reset rfl rfl rfl (.inl rfl)

theorem witness_ClearFlagsZeroTheCountersShown :
    (State.reset.Takes kindStatus (asks [1]) ∧ State.reset.Takes kindReadReference (asks [1])
    ∧ State.reset.Takes kindReadPort (asks [15, 1]) ∧ State.reset.Takes kindReadRack (asks [15, 1])
    ∧ State.reset.Takes kindReadLines (asks [1, 15, 1]) ∧ State.reset.Takes kindReadLines (asks [0, 0, 1]))
    ∧ clearFlag (asks [1]).payload 0 = true ∧ PortRead.read [15, 1] = ⟨(15 : Port).val, true⟩
    ∧ LinesReq.read [1, 15, 1] = ⟨1, (15 : Port).val, true⟩ ∧ LinesReq.read [0, 0, 1] = ⟨0, 0, true⟩ := by
  refine ⟨⟨?_, ?_, ?_, ?_, ?_, ?_⟩, by decide +kernel⟩ <;> exact takes_at_reset rfl rfl rfl (.inl rfl)

/-- A SHARED hub whose reply waits for LINK_DE. -/
def waiting : State := (shared State.reset).setMlc { (shared State.reset).mlc with owner := .reply, reply := some someReply }

/-- A POINT hub that sends a notice while a reply waits. -/
def sendingNotice (f : Option Reply) : State :=
  (noticed State.reset).setMlc { (noticed State.reset).mlc with owner := .notice, reply := f }

theorem witness_TransmitterEventsHandOutTheLink_shared :
    waiting.mlc.held = false ∧ waiting.mlc.mode = .shared ∧ waiting.mlc.owner = .reply
    ∧ waiting.mlc.reply = some someReply ∧ waiting.mlc.begun = false
    ∧ (shared State.reset).mlc.mode = .shared ∧ (shared State.reset).mlc.owner = .free := by decide +kernel

theorem witness_TransmitterEventsHandOutTheLink_reply :
    (owned State.reset .reply).mlc.owner = .reply ∧ (owned State.reset .reply).mlc.begun = true
    ∧ (owned State.reset .reply).mlc.restartDue = false ∧ (owned State.reset .reply).ntu.anyDeliverable = false
    ∧ (owned (noticed State.reset) .reply).mlc.mode = .point ∧ (owned (noticed State.reset) .reply).ntu.choose = some .step
    ∧ (owned (noticed State.reset) .reply).ntu.at .step = some ⟨.step (-2500), 1, 3⟩ := by decide +kernel

theorem witness_TransmitterEventsHandOutTheLink_notice :
    (sendingNotice (some someReply)).mlc.owner = .notice ∧ (sendingNotice (some someReply)).mlc.mode = .point
    ∧ (sendingNotice (some someReply)).mlc.reply = some someReply ∧ (sendingNotice none).mlc.reply = none
    ∧ (owned State.reset .notice).mlc.owner = .notice ∧ (owned State.reset .notice).mlc.reply = none
    ∧ (owned State.reset .notice).ntu.anyDeliverable = false ∧ (sendingNotice none).ntu.choose = some .step
    ∧ (sendingNotice none).ntu.at .step = some ⟨.step (-2500), 1, 3⟩ := by decide +kernel

theorem witness_HardResetsSampleStrapsAndResetBlocks :
    (after .pinReset State.reset).mlc.held = true ∧ (after .pinReset State.reset).mlc.linkDE = false := by decide +kernel

theorem witness_RestartTakesEffectAtReplyOrBroadcast :
    State.reset.Takes kindRestart (asks []) ∧ State.reset.Takes kindRestart (tells [])
    ∧ (after (.restart (asks [])) State.reset).mlc.held = false
    ∧ (after (.restart (asks [])) State.reset).mlc.owner = .reply
    ∧ (after (.restart (asks [])) State.reset).mlc.begun = true
    ∧ (after (.restart (asks [])) State.reset).mlc.restartDue = true
    ∧ State.reset.tsu.state.referenced = false
    ∧ (after (.restart (asks [])) (inState State.reset .locked)).mlc.mode = .point
    ∧ (after (.restart (asks [])) (inState State.reset .locked)).tsu.state.referenced = true
    ∧ (inState State.reset .locked).tsu.state.referenced = true ∧ (inState State.reset .locked).mlc.owner = .free
    ∧ (shared (inState State.reset .locked)).mlc.mode = .shared
    ∧ (shared (inState State.reset .locked)).tsu.state.referenced = true :=
  ⟨takes_at_reset rfl rfl rfl (.inl rfl), takes_at_reset rfl rfl rfl (.inr rfl), by decide +kernel⟩

/-- 09 R165: the command after the reply's completion finds service closed and the cause REQUEST. -/
theorem test_restart_takes_effect_at_completion :
    (after .replyCompletion (after (.restart (asks [])) State.reset)).mlc.lastCause = .request
    ∧ (after .replyCompletion (after (.restart (asks [])) State.reset)).mlc.service = false := by decide +kernel

/-! ### Witnesses: the timescale -/

theorem reset_rates : State.reset.tsu.RatesInRange := ⟨by decide, by decide, by decide, by decide, by decide⟩
theorem reset_scale : State.reset.tsu.ts.InRange := ⟨by decide, by decide⟩
theorem reset_divisors : State.reset.rle.DivisorsPermitted := ⟨by decide, fun _ h => by cases h⟩

/-- 01 R1: at the nominal rate a second takes 125,000,000 ticks. -/
theorem test_ticks_of_a_second : State.reset.ticksToRoll = 125000000 := by decide +kernel

theorem witness_RollBeginsTheNextSecond :
    State.reset.tsu.RatesInRange ∧ State.reset.tsu.ts.InRange ∧ 124999999 < State.reset.ticksToRoll
    ∧ (-200000000 : Int) ≤ -200000000 ∧ (200000000 : Int) ≤ 200000000 :=
  ⟨reset_rates, reset_scale, by decide +kernel⟩

theorem witness_TicksAdvanceTheTimescaleAndSampleThePins :
    sampled.mlc.held = false ∧ sampled.tsu.ts.InRange ∧ sampled.LinesIdle ∧ (pins still still still).linkRx = ⟨none, false⟩
    ∧ (pins still still still).todA = ⟨none, false⟩ ∧ (pins still still still).todB = ⟨none, false⟩
    ∧ sampled.stl.hstb = some false ∧ 124999998 + 1 < sampled.ticksToRoll
    ∧ (∀ l : Line, (sampled.line l).sample = (0 : BitVec 8).getLsbD l.val)
    ∧ (sampled.line 7).sample ≠ (128 : BitVec 8).getLsbD 7
    ∧ (∀ k : Line, k ≠ 7 → (sampled.line k).sample = (128 : BitVec 8).getLsbD k.val)
    ∧ sampled.stl.latched = none ∧ State.reset.stl.hstb = none ∧ sampled.ticksToRoll ≤ 124999999 + 1 :=
  ⟨rfl, reset_scale, ⟨rfl, rfl, rfl⟩, by decide +kernel⟩

/-- 08 R142: HSTB high at the first tick after a reset is no strobe; after a low sample it is. -/
theorem test_first_sample :
    (after (.oscillatorTick 0 { pins still still still with hstb := true }) State.reset).stl.latched = none
    ∧ (after (.oscillatorTick 0 { pins still still still with hstb := true }) sampled).stl.latched.isSome = true := by
  decide +kernel

/-- `s` with a suppressed-roll mark for the second that begins next. -/
def marked : State := State.reset.setTsu { State.reset.tsu with mark := some 1, quiet := true }

theorem witness_SuppressedRollOnlyClearsTheMark :
    marked.mlc.held = false ∧ marked.tsu.quiet = true
    ∧ marked.tsu.mark = some (marked.runTicks marked.ticksToRoll).tsu.ts.sec := by decide +kernel

/-- A SET TIME staged in FREERUN. -/
def staged : State := State.reset.setTsu { State.reset.tsu with staged := some 1800000000 }

theorem witness_BoundaryClosesTheQuietIntervalOrSteps :
    staged.mlc.held = false ∧ staged.tsu.staged = some 1800000000 ∧ staged.ref.a.state = .absent
    ∧ staged.ref.b.state = .absent ∧ staged.ref.a.staged = none ∧ staged.ref.b.staged = none
    ∧ staged.tsu.mark ≠ some (staged.runTicks staged.ticksToRoll).tsu.ts.sec
    ∧ (shared staged).mlc.mode = .shared ∧ (owned staged .reply).mlc.owner ≠ .free
    ∧ (after (.secondBoundary ⟨false, 0⟩) staged).tsu.gen = staged.tsu.gen + 1
    ∧ (after (.secondBoundary ⟨false, 0⟩) State.reset).tsu.gen = State.reset.tsu.gen := by decide +kernel

/-- An input QUALIFIED with a GOOD verdict of phase error `e` and a message for second 5 in its slot. -/
def good (e : Int) : InputRec :=
  { InputRec.initial with
    state := .qualified, slot := some ⟨.good, 0, some ⟨e, false⟩, some ⟨5, 37, 1, 9, 0, 0, true⟩⟩ }

/-- Both inputs so, 100 ns apart; and one with a BAD verdict only. -/
def bothGood : Ref := { Ref.initial with a := good 40, b := good (-60) }
def oneBad : Ref := { Ref.initial with a := { good 40 with slot := some ⟨.checksum, 0, none, none⟩ } }

theorem witness_BoundaryWorkOfReferences :
    (bothGood.boundary 0 0 5).1.sel = some .a ∧ (Ref.initial.boundary 0 0 5).1.sel = none
    ∧ ((((bothGood.input .a).applyStaged).checkAbsent 0).judgeSlot).slot =
        some ⟨.good, 0, some ⟨40, false⟩, some ⟨5, 37, 1, 9, 0, 0, true⟩⟩
    ∧ ((((bothGood.input .b).applyStaged).checkAbsent 0).judgeSlot).state = .qualified
    ∧ (oneBad.boundary 0 0 5).1.sel = some .a
    ∧ ((((oneBad.input .a).applyStaged).checkAbsent 0).judgeSlot).slot = some ⟨.checksum, 0, none, none⟩ := by decide +kernel

/-- SHARED mode at reset but for both inputs so. -/
def selecting : State := shared (State.reset.setRef { bothGood with sel := none })

/-- 01 R9, R11; 02 R29, R30: a step leaves its marker and notice, a selection the marker and notice of ACQUIRING and the notice
of the input selected, with nothing for the other. -/
theorem test_boundary_raises :
    let t := after (.secondBoundary ⟨false, 0⟩) (shared staged)
    let v := after (.secondBoundary ⟨false, 0⟩) selecting
    (t.sq.backlog.step.map (fun e => (e.count, e.amount))) = some (1, 2147483647)
    ∧ t.ntu.at .step = some ⟨.step 2147483647, 1, 1800000000⟩ ∧ t.ntu.at .tstate = none
    ∧ (v.sq.backlog.tstate.map (fun e => (e.state, e.count))) = some (.acquiring, 1)
    ∧ v.ntu.at .tstate = some ⟨.tstate .acquiring, 1, 1⟩ ∧ v.ntu.at (.ref .a) = some ⟨.ref .qualified true .good, 1, 1⟩
    ∧ v.ntu.at (.ref .b) = none := by decide +kernel

/-- Input A alone QUALIFIED with a verdict in its slot. -/
def reporting (v : Option Verdict) : Ref := { Ref.initial with a := { good 40 with slot := v } }

theorem witness_BoundaryWorkOfReferences_verdicts :
    let judged := fun (v : Option Verdict) => ((((reporting v).input .a).applyStaged).checkAbsent 0).judgeSlot.slot
    (∀ v ∈ [none, some ⟨.checksum, 0, none, none⟩, some ⟨.checksum, 1, none, none⟩],
      (((reporting v).boundary 0 0 5).1.sel = some .a ∧ judged v = v))
    ∧ Cause.checksum ≠ .good ∧ (1 : Gen) ≠ 0 := by decide +kernel

/-- 02 R31: GOOD with its error, BAD, and EMPTY for an empty slot and for a BAD or GOOD verdict of another generation. -/
theorem test_report_verdicts :
    let said := fun (v : Option Verdict) => ((reporting v).boundary 0 0 5).2.2.verdict
    said (some ⟨.good, 0, some ⟨40, false⟩, some ⟨5, 37, 1, 9, 0, 0, true⟩⟩) =
      some (.good ⟨40, false⟩ ⟨5, 37, 1, 9, 0, 0, true⟩)
    ∧ said (some ⟨.checksum, 0, none, none⟩) = some .bad ∧ said none = some .empty
    ∧ said (some ⟨.checksum, 1, none, none⟩) = some .empty
    ∧ said (some ⟨.good, 1, some ⟨40, false⟩, some ⟨5, 37, 1, 9, 0, 0, true⟩⟩) = some .empty
    ∧ (Ref.initial.boundary 0 0 5).2.2.verdict = none := by decide +kernel

/-- An input in a state with settings staged that enable it or not. -/
def restaged (st : InputState) (enable : Bool) : InputRec :=
  { InputRec.initial with state := st, staged := some ⟨enable, 0, 1000, 7⟩ }

/-- An input CHECKING whose last pulse came at elapsed time 0. -/
def pulsed : InputRec := { InputRec.initial with state := .checking, pulse := some ⟨⟨0, 0⟩, 0, false, 1000, 0⟩ }

theorem witness_BoundaryWorkOfReferences_input :
    InputRec.initial.staged = none ∧ (restaged .off true).staged = some ⟨true, 0, 1000, 7⟩
    ∧ (restaged .off true).state = .off ∧ (restaged .qualified true).state ≠ .off
    ∧ (restaged .qualified false).staged = some ⟨false, 0, 1000, 7⟩ ∧ (restaged .qualified false).state ≠ .off
    ∧ pulsed.pulse = some ⟨⟨0, 0⟩, 0, false, 1000, 0⟩ ∧ 0 + 3000000000 * 4294967296 ≤ 3000000000 * 4294967296
    ∧ ¬(0 + 3000000000 * 4294967296 ≤ 3000000000 * 4294967296 - 1) ∧ pulsed.state = .checking := by decide

theorem witness_BoundaryWorkOfTheTimescale :
    (inState State.reset .freerun).tsu.state = .freerun ∧ (inState State.reset .holdover).tsu.state = .holdover
    ∧ (inState State.reset .acquiring).tsu.state = .acquiring ∧ (inState State.reset .locked).tsu.state = .locked
    ∧ (inState State.reset .freerun).tsu.state ≠ .holdover ∧ State.reset.tsu.cfg.holdLimit ≤ 14399 + 1
    ∧ 14398 + 1 < State.reset.tsu.cfg.holdLimit ∧ State.reset.tsu.holdExpired = false := by decide +kernel

theorem witness_BoundaryWorkOfTheTimescale_leap :
    ((⟨5, 37, 1, 9, 0, 0, true⟩ : RefMessage).warn.toNat = 1 ∧ (37 : Int) ≠ State.reset.tsu.utc ∧ 2 < (3 : Byte).toNat)
    ∧ Leap.insert 9 ≠ State.reset.tsu.leap ∧ State.reset.tsu.leap = .none
    ∧ ({ Tsu.initial with leap := .insert 9 } : Tsu).leap = .insert 9 ∧ (8 : RowSec).toNat < (9 : RowSec).toNat
    ∧ ({ Tsu.initial with leap := .delete 9 } : Tsu).leap = .delete 9 ∧ (9 : RowSec).toNat ≤ (9 : RowSec).toNat := by decide

/-- 02 R33: 999,999 ns is within the step threshold, 1,000,000 ns is not; the reset policy steps in ACQUIRING. -/
theorem witness_BoundaryWorkOfTheTimescale_update :
    State.reset.tsu.cfg.stepThr ≤ (-1000000 : Int).natAbs ∧ ¬(State.reset.tsu.cfg.stepThr ≤ (999999 : Int).natAbs)
    ∧ State.reset.tsu.cfg.policy = .acquireOnly ∧ (inState State.reset .acquiring).tsu.state = .acquiring
    ∧ (inState State.reset .locked).tsu.state ≠ .acquiring := by decide

/-- Port 0 UP with a compensation and a target for it, a mode frozen and another staged. -/
def turning (comp target : Nat) : State :=
  let s := (withPort State.reset 0 .up .settled).setEds { Eds.initial with comp := Eds.initial.comp.set 0 comp }
  s.setPort 0 { s.port 0 with initComp := target, frozen := some .quiet, staged := some .polled }

/-- `s` with a SET CYCLE of divisor 1 staged, and with a SET TIME to 1 of second `T`. -/
def recycled (s : State) : State := s.setRle { s.rle with staged := some ⟨1, 200000⟩ }
def stepsTo (s : State) (T : RowSec) : State := s.setTsu { s.tsu with staged := some T }

/-- A DOWN port and one UP; an early cycle 0 and one at the boundary; with a SET CYCLE staged; and steps forward and
back. -/
theorem witness_BoundaryAppliesStagedWorkAndMovesCompensation_premises :
    (∀ c t : Nat, (turning c t).tsu.RatesInRange ∧ (turning c t).tsu.ts.InRange ∧ (turning c t).rle.DivisorsPermitted
      ∧ (recycled (turning c t)).rle.DivisorsPermitted)
    ∧ (∀ T : RowSec, (stepsTo (turning 0 500) T).tsu.RatesInRange ∧ (stepsTo (turning 0 500) T).tsu.ts.InRange) ∧ State.reset.rle.DivisorsPermitted := by
  refine ⟨fun c t => ⟨reset_rates, reset_scale, ?_, ?_⟩, fun T => ?_, ?_⟩
  · exact ⟨reset_divisors.inForce, reset_divisors.staged⟩
  · exact ⟨reset_divisors.inForce, fun d h => by cases h; decide⟩
  · exact ⟨⟨reset_rates.limit, reset_rates.freerun, reset_rates.loop, reset_rates.integral, reset_rates.total⟩, reset_scale⟩
  · exact reset_divisors

theorem witness_BoundaryAppliesStagedWorkAndMovesCompensation :
    (∀ s ∈ [State.reset, turning 500 500, turning 0 500, turning 0 0, recycled (turning 500 500), recycled (turning 0 500),
        stepsTo (turning 0 500) 3, stepsTo (turning 0 500) 0],
      s.mlc.held = false ∧ s.tsu.mark ≠ some (s.runTicks s.ticksToRoll).tsu.ts.sec)
    ∧ (State.reset.port 0).state = .down ∧ ((turning 0 500).port 0).state ≠ .down
    ∧ ((turning 500 500).runTicks (turning 500 500).ticksToRoll).clk.tickFrom.ns + 500 < 1000000000 + 500
    ∧ ¬(((turning 500 500).runTicks (turning 500 500).ticksToRoll).clk.tickFrom.ns + 500 < 1000000000)
    ∧ ((turning 6 6).runTicks (turning 6 6).ticksToRoll).clk.tickFrom.ns + 6 < 1000000000
    ∧ (turning 0 500).comp 0 = 0 ∧ 0 < (after (.secondBoundary ⟨false, 0⟩) (turning 0 500)).comp 0
    ∧ (after (.secondBoundary ⟨false, 0⟩) (turning 0 0)).comp 0 = 0
    ∧ 0 < (after (.secondBoundary ⟨false, 0⟩) (stepsTo (turning 0 500) 3)).now.diff
        ((turning 0 500).runTicks (turning 0 500).ticksToRoll).now
    ∧ (after (.secondBoundary ⟨false, 0⟩) (stepsTo (turning 0 500) 0)).now.diff
        ((turning 0 500).runTicks (turning 0 500).ticksToRoll).now < 0 := by
  decide +kernel

/-- 04 R61, R73, R74: the compensation rising from 0 makes the departure of cycle 0 at the boundary and puts the frozen mode into
force; a SET CYCLE of divisor 1 leaves no departure and freezes the staged mode there too; a step suppresses the departure; a
step past the last cycle's instant freezes the staged mode. Each second counts once. -/
theorem test_boundary_ports :
    let at' := fun (s : State) => (after (.secondBoundary ⟨false, 0⟩) s).port 0
    ([turning 0 500, turning 6 6, turning 0 0, recycled (turning 0 500), stepsTo (turning 0 500) 3].map
      (fun s => ((at' s).ctr.departures, (at' s).mode, (at' s).frozen, (at' s).staged))) =
      [(1, .quiet, none, some .polled), (1, .quiet, none, some .polled), (0, .polled, some .quiet, some .polled),
        (0, .quiet, some .polled, none), (0, .polled, none, none)]
    ∧ (at' (turning 0 500)).secs = 1 ∧ (at' State.reset).secs = 1
    ∧ (after (.secondBoundary ⟨false, 0⟩) (turning 500 400)).eds.earlyBelow[(0 : Port)] = 500 := by decide +kernel

/-- A DOWN port 0 at the boundary at which a SET CYCLE of divisor 1 comes into force, and one without; then enabled at that
tick. -/
def enabledAtBoundary (staged : Bool) : State :=
  (after (.secondBoundary ⟨false, 0⟩) (if staged then recycled State.reset else State.reset)).enablePort 0 .polled

theorem witness_BoundaryAppliesStagedWorkAndMovesCompensation_down :
    (recycled State.reset).mlc.held = false ∧ (recycled State.reset).tsu.RatesInRange
    ∧ (recycled State.reset).tsu.ts.InRange ∧ (recycled State.reset).rle.DivisorsPermitted
    ∧ (recycled State.reset).tsu.mark ≠ some ((recycled State.reset).runTicks (recycled State.reset).ticksToRoll).tsu.ts.sec
    ∧ (recycled State.reset).rle.staged ≠ none
    ∧ (after (.secondBoundary ⟨false, 0⟩) (recycled State.reset)).tsu.gen = (recycled State.reset).tsu.gen
    ∧ ((recycled State.reset).port 0).state = .down :=
  ⟨rfl, reset_rates, reset_scale, ⟨reset_divisors.inForce, fun d h => by cases h; decide⟩, by decide +kernel,
    by decide +kernel, by decide +kernel, by decide +kernel⟩

theorem witness_DepartureOpensItsExchange_taken :
    let t := enabledAtBoundary true
    t.mlc.held = false ∧ (t.port 0).state ≠ .down ∧ 0 < t.rle.cycle.divisor ∧ t.comp 0 = 0 ∧ t.clk.rolled = some 1
    ∧ TickEvent.departure 0 1 0 ∈ t.clk.taken := by decide +kernel

/-- 04 R61: that port has no cycle 0 in the second in which the SET CYCLE comes into force; without one it has. -/
theorem test_enabled_at_the_boundary :
    let made := fun (staged : Bool) =>
      ((after (.cycleCompensatedInstant 0 1 0 false) (enabledAtBoundary staged)).port 0).ctr.departures
    made true = 0 ∧ made false = 1 := by decide +kernel

/-- 04 R65, R74: at divisor 1 the boundary of second 1 freezes the staged mode, and a SET TIME back to second 0 lands on cycle
0 of it, which takes that mode into force at the same tick, with no departure. -/
theorem test_landing_does_the_mode_work :
    let s := (turning 0 0).setRle { (turning 0 0).rle with cycle := ⟨1, 200000⟩ }
    let t := after (.secondBoundary ⟨false, 0⟩) (stepsTo s 0)
    let v := after (.cycleCompensatedInstant 0 0 0 false) t
    t.now = ⟨0, 0⟩ ∧ (t.port 0).mode = .quiet ∧ (t.port 0).frozen = some .polled ∧ (v.port 0).mode = .polled
    ∧ (v.port 0).ctr.departures = 0 ∧ v.now = ⟨0, 0⟩ := by decide +kernel

/-- Divisor 1, a compensation of 1,200 ns, and a GOOD verdict of 1,204 ns that the boundary at 1.000000004 steps by. -/
def steppingBack : State :=
  let s := (turning 1200 1200).setRle { (turning 1200 1200).rle with cycle := ⟨1, 200000⟩ }
  (s.setTsu { s.tsu with
      ts := ⟨0, 4, 0⟩, state := .locked, cfg := { s.tsu.cfg with policy := .always, stepThr := 1000 } }).setRef
    { Ref.initial with a := good 1204, sel := some .a }

theorem witness_BoundaryAppliesStagedWorkAndMovesCompensation_landing :
    let u := steppingBack.runTicks steppingBack.ticksToRoll
    let t := after (.secondBoundary ⟨false, 0⟩) steppingBack
    steppingBack.mlc.held = false ∧ steppingBack.tsu.mark ≠ some u.tsu.ts.sec ∧ u.tsu.ts.sec = 1
    ∧ t.tsu.gen ≠ steppingBack.tsu.gen ∧ t.now.diff u.now < 0 ∧ compensatedInstant 1 0 1 (t.comp 0) = t.now := by
  decide +kernel

theorem witness_BoundaryAppliesStagedWorkAndMovesCompensation_landing_premises :
    steppingBack.tsu.RatesInRange ∧ steppingBack.tsu.ts.InRange ∧ steppingBack.rle.DivisorsPermitted :=
  ⟨⟨by decide, by decide, by decide, by decide, by decide⟩, ⟨by decide, by decide⟩, ⟨by decide, fun _ h => by cases h⟩⟩

/-- 04 R65, R74: that step lands on the early instant of cycle 0 of second 1, which is reached again: its mode work is done at
this tick, once, with no departure. -/
theorem test_landing_on_an_early_instant :
    let t := after (.secondBoundary ⟨false, 0⟩) steppingBack
    let v := after (.cycleCompensatedInstant 0 1 0 false) t
    t.now = ⟨0, 999998800⟩ ∧ ((t.port 0).mode, (t.port 0).frozen, (t.port 0).staged) = (.polled, some .quiet, some .polled)
    ∧ ((v.port 0).mode, (v.port 0).frozen, (v.port 0).staged) = (.quiet, some .polled, none)
    ∧ (v.port 0).ctr.departures = 0 ∧ after (.cycleCompensatedInstant 0 1 0 false) v = v := by decide +kernel

/-- Reset, with the last tick one that rolled into second 0. -/
def rolled : State := State.reset.setClk { State.reset.clk with rolled := some 0 }

/-- What `reach` finds, where it finds something. -/
theorem reach_some {s : State} {i : Time} (h : (s.reach i).isSome = true) : s.reach i = some ((s.reach i).getD s) := by
  cases hr : s.reach i with
  | none => simp [hr] at h
  | some t => rfl

theorem reachElapsed_some {s : State} {a b : Nat} (h : (s.reachElapsed a b).isSome = true) :
    s.reachElapsed a b = some ((s.reachElapsed a b).getD s) := by
  cases hr : s.reachElapsed a b with
  | none => simp [hr] at h
  | some t => rfl

/-- The instant of cycle 15 of second 0 at reset's divisor 16. -/
def cycle15 : Time := ⟨0, 15 * (1000000000 / 16)⟩

theorem witness_CycleStartIsRaisedAtItsInstant :
    State.reset.tsu.RatesInRange ∧ State.reset.tsu.ts.InRange ∧ State.reset.mlc.held = false
    ∧ State.reset.rle.cycle.divisor = 16
    ∧ State.reset.reach cycle15 = some ((State.reset.reach cycle15).getD State.reset) ∧ State.reset.LinesIdle
    ∧ TickEvent.cycle 0 15 ∉ ((State.reset.reach cycle15).getD State.reset).clk.taken
    ∧ rolled.clk.rolled = some 0 ∧ TickEvent.cycle 0 0 ∉ rolled.clk.taken :=
  ⟨reset_rates, reset_scale, rfl, rfl, reach_some (by decide +kernel), ⟨rfl, rfl, rfl⟩, by decide +kernel⟩

/-- What `reach` does not find. -/
theorem reach_none {s : State} {i : Time} (h : (s.reach i).isNone = true) : s.reach i = none := by
  cases hr : s.reach i with
  | none => rfl
  | some t => simp [hr] at h

/-- One raised at this tick already, a cycle number equal to the divisor, and an instant of the next second. -/
theorem witness_CycleStartIsRaisedAtItsInstant_none :
    TickEvent.cycle 0 0 ∈ (rolled.note (.cycle 0 0)).clk.taken ∧ (rolled.note (.cycle 0 0)).clk.rolled = some 0
    ∧ State.reset.rle.cycle.divisor ≤ 16 ∧ State.reset.clk.rolled ≠ some 1
    ∧ State.reset.reach ⟨1, 0 * (1000000000 / State.reset.rle.cycle.divisor)⟩ = none :=
  ⟨by decide +kernel, rfl, by decide, by decide, reach_none (by decide +kernel)⟩

/-- An ADJUST of +1,000 ns at the default rate and boost 1 (01 R13). -/
def adjustOk : Req := asks (AdjustReq.bytes ⟨1000, 0, 1⟩)

/-- One of boost 3. -/
def adjustBad : Req := asks (AdjustReq.bytes ⟨1000, 0, 3⟩)

/-- One of an amount beyond the clamp. -/
def adjustClamped : Req := asks (AdjustReq.bytes ⟨1000000000, 0, 1⟩)

theorem witness_AdjustStartsASlew :
    State.reset.Takes kindAdjust adjustOk ∧ State.reset.Takes kindAdjust adjustBad
    ∧ State.reset.Takes kindAdjust adjustClamped ∧ (inState State.reset .locked).Takes kindAdjust adjustOk
    ∧ AdjustReq.read adjustOk.payload = ⟨1000, 0, 1⟩ ∧ AdjustReq.read adjustBad.payload = ⟨1000, 0, 3⟩
    ∧ clamp (-999999999) 999999999 (AdjustReq.read adjustClamped.payload).amount ≠ 1000000000
    ∧ State.reset.tsu.state = .freerun := by
  refine ⟨?_, ?_, ?_, ?_, by decide +kernel⟩ <;> exact takes_at_reset rfl rfl rfl (.inl rfl)

/-- 01 R13: an accepted ADJUST leaves its remainder, and no term before the next boundary. -/
theorem test_adjust : (after (.adjust adjustOk) State.reset).tsu.slew = ⟨1000, 0, 50000, 1, .none⟩ := by decide +kernel

theorem witness_SetTimeAndSetLeapNeedNoReference :
    State.reset.Takes kindSetTime (asks (secBytes 5)) ∧ (inState State.reset .locked).Takes kindSetTime (asks (secBytes 5))
    ∧ State.reset.Takes kindSetLeap (asks ([0, 37, 2] ++ secBytes 5))
    ∧ (inState State.reset .acquiring).Takes kindSetLeap (asks ([0, 37, 1] ++ secBytes 5))
    ∧ State.reset.Takes kindSetLeap (asks ([0, 37, 3] ++ secBytes 5))
    ∧ (LeapReq.read ([0, 37, 2] ++ secBytes 5)).kind = 2 ∧ (LeapReq.read ([0, 37, 3] ++ secBytes 5)).kind = 3
    ∧ State.reset.tsu.state = .freerun ∧ (inState State.reset .locked).tsu.state = .locked := by
  refine ⟨?_, ?_, ?_, ?_, ?_, by decide +kernel⟩ <;> exact takes_at_reset rfl rfl rfl (.inl rfl)

/-- 01 R17: a kind other than the three changes nothing and is INVALID; DELETE is taken. -/
theorem test_set_leap :
    (after (.setLeap (asks ([0, 37, 3] ++ secBytes 5))) State.reset).tsu = State.reset.tsu
    ∧ (after (.setLeap (asks ([0, 37, 2] ++ secBytes 5))) State.reset).tsu.leap = .delete 5 := by decide +kernel

/-- A SET LOOP of all zeros but for its policy. -/
def loopOf (policy : Nat) : Req := asks (List.replicate 22 0 ++ [BitVec.ofNat 8 policy] ++ [0, 0, 0, 0])

theorem witness_SetLoopClampsRatesToTheNewLimit :
    State.reset.Takes kindSetLoop (loopOf 2) ∧ State.reset.Takes kindSetLoop (loopOf 3)
    ∧ StepPolicy.code .always = (LoopReq.read (loopOf 2).payload).policy ∧ (LoopReq.read (loopOf 3).payload).policy = 3 := by
  refine ⟨?_, ?_, by decide +kernel⟩ <;> exact takes_at_reset rfl rfl rfl (.inl rfl)

/-- 02 R39: an Fmax of 0 is clamped to 1,000 ppt. -/
theorem test_set_loop : (after (.setLoop (loopOf 2)) State.reset).tsu.cfg.fmax = 1000 := by decide +kernel

theorem witness_SlewsAndStepsMoveByTheirAmounts :
    (⟨-10, -10, 100000, 4, .none⟩ : Slew).remainder ≠ 0 ∧ (-200000000 : Int) ≤ 200000000 ∧ State.reset.tsu.ts.InRange
    ∧ (-70000000000000000000000 : Int).natAbs ≤ 70000000000000 * 1000000000 ∧ staged.tsu.staged = some 1800000000
    ∧ State.reset.tsu.staged = none := ⟨by decide, by decide, reset_scale, by decide, rfl, rfl⟩

/-- 01 R14: a slew of +1,000,000 ns at 50,000 ppb and boost 2 has a term of 100,000 ppb at its first boundary. -/
theorem test_slew_term : ((⟨1000000, 0, 50000, 2, .none⟩ : Slew).settle 0).term = 100000 := by decide

theorem witness_LockAndUnlockNeedTheirRuns :
    (∀ e ∈ List.replicate 8 (⟨99, false⟩ : PhaseErr), e.gross = false ∧ e.e.natAbs < State.reset.tsu.cfg.stepThr)
    ∧ (inState State.reset .acquiring).tsu.state = .acquiring ∧ (inState State.reset .acquiring).tsu.lockRun = 0
    ∧ (∀ e ∈ List.replicate 8 (⟨99, false⟩ : PhaseErr), e.e.natAbs < State.reset.tsu.cfg.lockThr)
    ∧ (∀ e ∈ List.replicate 3 (⟨-1000, false⟩ : PhaseErr), e.gross = false ∧ e.e.natAbs < State.reset.tsu.cfg.stepThr)
    ∧ (inState State.reset .locked).tsu.state = .locked ∧ (inState State.reset .locked).tsu.unlockRun = 0
    ∧ (∀ e ∈ List.replicate 3 (⟨-1000, false⟩ : PhaseErr), State.reset.tsu.cfg.unlockThr ≤ e.e.natAbs) := by
  decide +kernel

/-- ACQUIRING and LOCKED at the ends of their runs, under a policy: errors on either side of the thresholds of 100 and 1,000 ns,
and a gross one of 0 ns. -/
def counting (st : TsState) (lock unlock : Nat) (policy : StepPolicy) : Tsu :=
  { Tsu.initial with
    state := st, lockRun := lock, unlockRun := unlock, cfg := { LoopCfg.default with policy := policy } }

theorem witness_LockAndUnlockNeedTheirRuns_single :
    (∀ st lock unlock, ¬(((⟨1000, false⟩ : PhaseErr).gross = true
        ∨ (counting st lock unlock .always).cfg.stepThr ≤ (1000 : Int).natAbs) ∧ (counting st lock unlock .always).cfg.policy = .always))
    ∧ (counting .acquiring 6 0 .never).cfg.policy = .never ∧ (counting .acquiring 6 0 .never).lockRun < 7
    ∧ 7 ≤ (counting .acquiring 7 0 .never).lockRun ∧ (counting .locked 0 1 .acquireOnly).unlockRun < 2
    ∧ 2 ≤ (counting .locked 0 2 .acquireOnly).unlockRun ∧ (counting .locked 0 2 .acquireOnly).state ≠ .acquiring
    ∧ (99 : Int).natAbs < LoopCfg.default.lockThr ∧ ¬((100 : Int).natAbs < LoopCfg.default.lockThr)
    ∧ LoopCfg.default.unlockThr ≤ (-1000 : Int).natAbs ∧ ¬(LoopCfg.default.unlockThr ≤ (999 : Int).natAbs)
    ∧ (⟨0, true⟩ : PhaseErr).gross = true := by
  refine ⟨fun st lock unlock h => ?_, by decide⟩
  simp [counting, LoopCfg.default] at h

/-- 02 R35: an update on the other side of the threshold sets the run to 0, a gross one in ACQUIRING too; a gross one in LOCKED
is the third beyond the threshold. -/
theorem test_runs_are_broken :
    (((counting .acquiring 7 0 .never).loopUpdate ⟨100, false⟩).1.lockRun,
      ((counting .acquiring 7 0 .never).loopUpdate ⟨0, true⟩).1.lockRun,
      ((counting .locked 0 2 .never).loopUpdate ⟨999, false⟩).1.unlockRun) = (0, 0, 0)
    ∧ ((counting .locked 0 2 .acquireOnly).loopUpdate ⟨0, true⟩).1.state = .acquiring := by decide +kernel

/-! ### Witnesses: the reference inputs -/

/-- Input A watched, with an open observation of a pulse at 0.0 and with one pulse behind it. -/
def observing : State :=
  State.reset.setInput .a { State.reset.ref.a with
    state := .checking, obs := some ⟨⟨0, 0⟩, 0, 0, true, 0, 0⟩, pulse := some ⟨⟨0, 0⟩, 0, false, 1000, 0⟩ }

/-- Input A watched between its observations. -/
def between : State :=
  State.reset.setInput .a { State.reset.ref.a with state := .checking, pulse := some ⟨⟨0, 0⟩, 0, false, 1000, 0⟩ }

theorem witness_PulseOpensAnObservation :
    State.reset.mlc.held = false ∧ ((withInput State.reset .off).input .a).state = .off
    ∧ (State.reset.input .a).state = .absent ∧ ((withInput State.reset .checking).input .a).state.watched = true
    ∧ ((withInput State.reset .checking).input .a).obs = none ∧ (observing.input .a).state.watched = true
    ∧ (observing.input .a).obs = some ⟨⟨0, 0⟩, 0, 0, true, 0, 0⟩ := by decide +kernel

/-- A message for second 0, no warning, quality 0, whose 18 bytes sum to 0; and one whose do not. -/
def messageGood : Vector Byte 18 := #v[0, 0, 0, 0, 0, 0, 0, 0, 0, 0, 0, 0, 0, 0, 0, 0, 0, 0]
def messageBad : Vector Byte 18 := #v[0, 0, 0, 0, 0, 0, 0, 0, 0, 0, 0, 0, 0, 0, 0, 0, 0, 1]

/-- A message whose leap warning is 3, which is none of the three. -/
def messageWarns : Vector Byte 18 := #v[0, 0, 0, 0, 0, 0, 0, 3, 0, 0, 0, 0, 0, 0, 0, 0, 0, 0xFD]

theorem witness_MessageClosesTheObservation :
    observing.mlc.held = false ∧ ((withInput State.reset .off).input .a).state = .off
    ∧ (State.reset.input .a).state ≠ .off ∧ (State.reset.input .a).obs = none ∧ (observing.input .a).state ≠ .off
    ∧ (observing.input .a).obs = some ⟨⟨0, 0⟩, 0, 0, true, 0, 0⟩ ∧ (observing.input .a).slot = none
    ∧ (refMessage messageGood.toList).sumGood = true ∧ (refMessage messageBad.toList).sumGood = false
    ∧ ((after (.messageArrival .a messageGood) observing).input .a).cause = .good := by decide +kernel

/-- 02 R22, order 4: a leap warning of 3 fails the content check. -/
theorem test_message_of_bad_warning :
    ((after (.messageArrival .a messageWarns) observing).input .a).cause = .content := by decide +kernel

/-- 02 R22, R25: a GOOD verdict beside a BAD one leaves it in the slot, a BAD one takes its place; both count as superseded, the
BAD one for its cause too. -/
theorem test_verdicts_meet :
    let s := observing.setInput .a { observing.ref.a with slot := some ⟨.interval, 0, none, none⟩ }
    let slot := fun (m : Vector Byte 18) => ((after (.messageArrival .a m) s).input .a).slot.map (fun v => v.cause)
    let ctr := fun (m : Vector Byte 18) => ((after (.messageArrival .a m) s).input .a).ctr
    slot messageGood = some .interval ∧ (ctr messageGood).superseded = 1 ∧ (ctr messageGood).checksum = 0
    ∧ slot messageBad = some .checksum ∧ (ctr messageBad).superseded = 1 ∧ (ctr messageBad).checksum = 1 := by
  decide +kernel

theorem witness_ReferenceExpiriesGiveBadVerdicts :
    observing.mlc.held = false ∧ (observing.input .a).obs = some ⟨⟨0, 0⟩, 0, 0, true, 0, 0⟩
    ∧ observing.reachElapsed 0 600000000 = some ((observing.reachElapsed 0 600000000).getD observing)
    ∧ (between.input .a).state.watched = true ∧ (between.input .a).obs = none
    ∧ (between.input .a).pulse = some ⟨⟨0, 0⟩, 0, false, 1000, 0⟩ := by
  refine ⟨rfl, rfl, reachElapsed_some (by decide +kernel), by decide +kernel⟩

/-- HSTB sampled low, and input A with the bytes of a message so far; a start bit has been noted or not. -/
def assembling (bytes : List Byte) (inByte : Bool) : State :=
  sampled.setInput .a { sampled.ref.a with assembling := bytes, inByte := inByte }

theorem witness_MessageBytesAreAssembledOrAbandoned :
    (∀ (bytes : List Byte) (b : Bool), (assembling bytes b).mlc.held = false ∧ (assembling bytes b).stl.hstb = some false)
    ∧ 124999998 + 1 < (assembling [] true).ticksToRoll ∧ (pins still (ends 0x3C true) still).linkRx = ⟨none, false⟩
    ∧ (∀ l : Line, ((assembling [] true).line l).sample = (pins still start still).lines.getLsbD l.val)
    ∧ (pins still start still).todB = ⟨none, false⟩ ∧ (pins still still start).todA = ⟨none, false⟩
    ∧ (((assembling [] false).runTicks 1).input .a).inByte = false
    ∧ (((assembling [] true).runTicks 1).input .a).inByte = true ∧ (((assembling [] true).runTicks 1).input .a).assembling = []
    ∧ (((assembling (List.replicate 17 0x3C) true).runTicks 1).input .a).assembling = List.replicate 17 0x3C
    ∧ (((assembling (List.replicate 18 0x3C) true).runTicks 1).input .a).assembling = List.replicate 18 0x3C
    ∧ (((assembling (List.replicate 18 0x3C) true).runTicks 1).input .a).inByte = true
    ∧ (List.replicate 18 (0x3C : Byte)).drop 1 ++ [0x3C] = (Vector.replicate 18 (0x3C : Byte)).toList := by
  refine ⟨fun _ _ => ⟨rfl, rfl⟩, by decide +kernel⟩

theorem witness_MessageBytesAreAssembledOrAbandoned_gap :
    (sampled.input .a).assembling = [] ∧ ((assembling [0x3C] false).input .a).assembling ≠ []
    ∧ ((assembling [0x3C] false).input .a).inByte = false ∧ ((assembling [0x3C] true).input .a).inByte = true
    ∧ (∀ j : Input, j ≠ .a → ((assembling [0x3C] false).input j).assembling = [])
    ∧ (assembling [0x3C] false).mlc.rx.phase = .hunt
    ∧ (assembling [0x3C] false).clk.ticks ≤ ((assembling [0x3C] false).input .a).lastTick + 250000
    ∧ ((assembling [0x3C] false).input .a).lastTick + 250001 - (assembling [0x3C] false).clk.ticks <
      (assembling [0x3C] false).ticksToRoll := by
  refine ⟨rfl, by decide, rfl, rfl, fun j h => ?_, rfl, by decide +kernel, by decide +kernel⟩
  cases j with
  | a => exact absurd rfl h
  | b => rfl

/-- 02 R21: a start byte begins a message, and 250,001 ticks after it the gap abandons it, counted once. -/
theorem test_message_gap :
    ((after (.oscillatorTick 0 (pins still (ends 0x3C true) still)) (assembling [] true)).input .a).assembling = [0x3C]
    ∧ ((after (.messageGapTimeout .a) (assembling [0x3C] false)).input .a).ctr.framing = 1
    ∧ (after (.messageGapTimeout .a) (assembling [0x3C] false)).clk.ticks = 250001 := by decide +kernel

/-- The elapsed time of 1,000,001,000 ns has passed since the pulse at 0. -/
def late : State := between.setClk { between.clk with elapsed := 1000001000 * 4294967296 }

theorem witness_ReferenceExpiriesGiveBadVerdicts_missing :
    (late.input .a).state.watched = true ∧ (late.input .a).obs = none
    ∧ (late.input .a).pulse = some ⟨⟨0, 0⟩, 0, false, 1000, 0⟩
    ∧ late.reachElapsed 0 (((late.input .a).missed + 1) * 1000000000 + 1000) = some late := by
  refine ⟨rfl, rfl, rfl, ?_⟩
  simp [State.reachElapsed, late, between, State.input, State.setInput, State.setRef, State.setClk, Ref.input,
    Ref.setInput, State.reset, State.initial, Ref.initial, InputRec.initial, unitsPerNs]

/-- A GOOD and a BAD verdict. -/
def goodVerdict : Verdict := ⟨.good, 0, none, none⟩
def badVerdict : Verdict := ⟨.interval, 0, none, none⟩

/-- An input's record in a state, with its runs and slot. -/
def judged (st : InputState) (good bad hold : Nat) (slot : Option Verdict) : InputRec :=
  { InputRec.initial with state := st, goodRun := good, badRun := bad, holdOff := hold, slot := slot }

theorem witness_InputsAreJudgedByTheirSlots :
    (judged .checking 0 0 0 none).slot = none ∧ (judged .checking 0 0 0 (some goodVerdict)).slot = some goodVerdict
    ∧ goodVerdict.cause = .good ∧ badVerdict.cause ≠ .good ∧ (judged .checking 2 0 0 none).goodRun < 3
    ∧ 3 ≤ (judged .checking 3 0 0 none).goodRun ∧ (judged .qualified 0 0 0 none).state = .qualified
    ∧ (judged .qualified 0 0 0 none).badRun = 0 ∧ 1 ≤ (judged .qualified 0 1 0 none).badRun
    ∧ (judged .disqualified 0 0 16 none).state = .disqualified ∧ (judged .disqualified 0 0 16 none).holdOff = 16
    ∧ (List.replicate 15 (none : Option Verdict)).length = 15 ∧ (judged .disqualified 0 0 1 (some goodVerdict)).holdOff ≤ 1
    ∧ 1 < (judged .disqualified 0 0 2 (some goodVerdict)).holdOff ∧ (judged .off 0 0 0 none).state = .off := by
  decide +kernel

theorem witness_SetReferenceStagesAndSelectionFollows :
    (State.reset.Takes kindSetReference (asks (0 :: List.replicate 11 0))
    ∧ State.reset.Takes kindSetReference (asks (1 :: List.replicate 11 0))
    ∧ State.reset.Takes kindSetReference (asks (2 :: List.replicate 11 0)))
    ∧ (ReferenceReq.read (0 :: List.replicate 11 0)).input = 0 ∧ (ReferenceReq.read (1 :: List.replicate 11 0)).input = 1
    ∧ (ReferenceReq.read (2 :: List.replicate 11 0)).input = 2 ∧ (ReferenceReq.read (0 :: List.replicate 11 0)).priority = 0
    ∧ ({ Ref.initial with b := judged .qualified 0 0 0 none, sel := some .b } : Ref).revertive = false
    ∧ (({ Ref.initial with b := judged .qualified 0 0 0 none, sel := some .b } : Ref).input .b).state = .qualified
    ∧ ({ Ref.initial with revertive := true } : Ref).revertive = true := by
  refine ⟨⟨?_, ?_, ?_⟩, by decide +kernel⟩ <;> exact takes_at_reset rfl rfl rfl (.inl rfl)

/-! ### Witnesses: the edge schedule -/

/-- Port 0 UP, entry 0 a RISE at 500 ns on port 0, entry 1 a TICK at 500 ns, both in every second. -/
def edging : State :=
  (withPort State.reset 0 .up .settled).setEds { Eds.initial with
    active := (Eds.initial.active.set 0 ⟨true, 500, 1, .rise, 15⟩).set 1 ⟨true, 500, 0, .tick, 15⟩ }

/-- Its port with a compensation of 500 ns: an emission at the boundary's own instant, and one of the next second's
offset 0 that leaves early. -/
def early : State :=
  edging.setEds { edging.eds with
    active := edging.eds.active.set 0 ⟨true, 0, 1, .rise, 15⟩, comp := edging.eds.comp.set 0 500 }

theorem witness_EmissionsDriveLinesAndRaiseTicks_late :
    edging.mlc.held = false ∧ (State.reset.port 0).state = .down ∧ edging.eds.active[(0 : EntryIx)].used = true
    ∧ edging.eds.active[(0 : EntryIx)].action ≠ .tick ∧ edging.eds.active[(0 : EntryIx)].has 0 = true
    ∧ edging.eds.active[(0 : EntryIx)].fires 0 = true ∧ (edging.port 0).state ≠ .down
    ∧ ¬(edging.eds.active[(0 : EntryIx)].offset < edging.comp 0)
    ∧ edging.eds.earlyBelow[(0 : Port)] ≤ edging.eds.active[(0 : EntryIx)].offset
    ∧ edging.reach ⟨0, 500 - 0⟩ = some ((edging.reach ⟨0, 500 - 0⟩).getD edging)
    ∧ ((edging.reach ⟨0, 500 - 0⟩).getD edging).now.sec = 0
    ∧ ((edging.reach ⟨0, 500 - 0⟩).getD edging).clk.taken = []
    ∧ ((edging.reach ⟨0, 500 - 0⟩).getD edging).tsu.quiet = false := by
  refine ⟨by decide +kernel, by decide +kernel, by decide +kernel, by decide +kernel, by decide +kernel,
    by decide +kernel, by decide +kernel, by decide +kernel, by decide +kernel, reach_some (by decide +kernel),
    by decide +kernel, by decide +kernel, by decide +kernel⟩

/-- The early emission is of the next second, which no step has marked for a suppressed roll. -/
theorem witness_EmissionsDriveLinesAndRaiseTicks_early :
    early.eds.active[(0 : EntryIx)].offset < early.comp 0 ∧ early.eds.armed = false
    ∧ early.eds.active[(0 : EntryIx)].fires 1 = true
    ∧ early.reach ⟨1 - 1, 1000000000 + 0 - 500⟩ = some ((early.reach ⟨1 - 1, 1000000000 + 0 - 500⟩).getD early)
    ∧ ((early.reach ⟨1 - 1, 1000000000 + 0 - 500⟩).getD early).now.sec = 1 - 1
    ∧ ((early.reach ⟨1 - 1, 1000000000 + 0 - 500⟩).getD early).clk.taken = []
    ∧ ((early.reach ⟨1 - 1, 1000000000 + 0 - 500⟩).getD early).tsu.mark ≠ some 1 := by
  refine ⟨by decide +kernel, by decide +kernel, by decide +kernel, reach_some (by decide +kernel), by decide +kernel,
    by decide +kernel, by decide +kernel⟩

/-- The tick at which two emissions of port 0 fall, the later of them taken first. -/
theorem witness_EmissionsDriveLinesAndRaiseTicks_later :
    let s := ((edging.reach ⟨0, 500⟩).getD edging).note (.drive 0 ⟨0, 501⟩ 0)
    s.reach ⟨0, 500 - 0⟩ = some s ∧ TickEvent.drive 0 ⟨0, 501⟩ 0 ∈ s.clk.taken
    ∧ 0 < (⟨0, 501⟩ : Time).diff ⟨0, 500 - 0⟩ ∧ TickEvent.edge 0 0 0 ∉ s.clk.taken := by decide +kernel

theorem witness_EmissionsDriveLinesAndRaiseTicks_tick :
    edging.eds.active[(1 : EntryIx)].used = true ∧ edging.eds.active[(1 : EntryIx)].action = .tick
    ∧ edging.eds.active[(1 : EntryIx)].fires 0 = true
    ∧ edging.reach ⟨0, 500⟩ = some ((edging.reach ⟨0, 500⟩).getD edging)
    ∧ 0 = ((edging.reach ⟨0, 500⟩).getD edging).now.sec
    ∧ TickEvent.tick 1 0 ∉ ((edging.reach ⟨0, 500⟩).getD edging).clk.taken
    ∧ ((edging.reach ⟨0, 500⟩).getD edging).tsu.quiet = false := by
  refine ⟨by decide +kernel, by decide +kernel, by decide +kernel, reach_some (by decide +kernel), by decide +kernel,
    by decide +kernel, by decide +kernel⟩

/-- Its quiet interval open: emissions of the present second are suppressed, and those of a second marked for a suppressed
roll. -/
theorem witness_EmissionsDriveLinesAndRaiseTicks_suppressed :
    let s := edging.setTsu { edging.tsu with quiet := true }
    let v := early.setTsu { early.tsu with quiet := true, mark := some 1 }
    let i : Time := ⟨1 - 1, 1000000000 + 0 - 500⟩
    s.reach ⟨0, 500 - 0⟩ = some ((s.reach ⟨0, 500 - 0⟩).getD s) ∧ ((s.reach ⟨0, 500 - 0⟩).getD s).tsu.quiet = true
    ∧ (0 : RowSec) ≠ ((s.reach ⟨0, 500 - 0⟩).getD s).tsu.ts.sec + 1
    ∧ v.reach i = some ((v.reach i).getD v) ∧ ((v.reach i).getD v).tsu.quiet = true
    ∧ ((v.reach i).getD v).tsu.mark = some 1 :=
  ⟨reach_some (by decide +kernel), by decide +kernel, by decide +kernel, reach_some (by decide +kernel),
    by decide +kernel, by decide +kernel⟩

/-- Armed while the early emission's instant is to come; an offset of 500 ns below a compensation of 501 ns in the second
before; a second that the mask leaves out; instants of the next second; a tick that has taken the emissions of 500 ns; and one
that came into second 1 past the instant of 500 ns of second 0. -/
theorem witness_EmissionsDriveLinesAndRaiseTicks_none :
    let armed := early.setEds { early.eds with armed := true }
    let low := edging.setEds { edging.eds with earlyBelow := edging.eds.earlyBelow.set 0 501 }
    let odd := edging.setEds { edging.eds with active := edging.eds.active.set 0 ⟨true, 500, 1, .rise, 10⟩ }
    let u := (edging.reach ⟨0, 500⟩).getD edging
    let taken := (u.note (.edge 0 0 0)).note (.tick 1 0)
    let next := (edging.setTsu { edging.tsu with ts := ⟨1, 4, 0⟩ }).setClk { edging.clk with tickFrom := ⟨0, 400⟩ }
    (armed.eds.armed = true ∧ armed.eds.active[(0 : EntryIx)].offset < armed.comp 0)
    ∧ (low.eds.active[(0 : EntryIx)].offset < low.eds.earlyBelow[(0 : Port)]
      ∧ ¬(low.eds.active[(0 : EntryIx)].offset < low.comp 0))
    ∧ odd.eds.active[(0 : EntryIx)].fires 0 = false ∧ State.reset.eds.active[(0 : EntryIx)].used = false
    ∧ edging.eds.active[(1 : EntryIx)].action = .tick ∧ edging.eds.active[(0 : EntryIx)].action ≠ .tick
    ∧ edging.eds.active[(0 : EntryIx)].has 1 = false
    ∧ edging.reach ⟨1, 500 - 0⟩ = none ∧ taken.reach ⟨0, 500 - 0⟩ = some taken
    ∧ TickEvent.edge 0 0 0 ∈ taken.clk.taken ∧ TickEvent.tick 1 0 ∈ taken.clk.taken
    ∧ next.reach ⟨0, 500 - 0⟩ = some next ∧ (0 : RowSec) ≠ next.now.sec :=
  ⟨by decide +kernel, by decide +kernel, by decide +kernel, by decide +kernel, by decide +kernel, by decide +kernel,
    by decide +kernel, reach_none (by decide +kernel), by decide +kernel⟩

/-- Port 0 UP with one RISE in every second at an offset, a TICK at 999,999,995 ns, and a compensation. -/
def closing (offset comp : Nat) : State :=
  let s := (withPort State.reset 0 .up .settled).setEds { Eds.initial with
    active := (Eds.initial.active.set 0 ⟨true, offset, 1, .rise, 15⟩).set 1 ⟨true, 999999995, 0, .tick, 15⟩
    comp := Eds.initial.comp.set 0 comp }
  s.setPort 0 { s.port 0 with initComp := 500 }

/-- The tick of the roll comes from 0.999999992: an emission of 999,999,995 ns falls in it, an early one of 495 ns under a
compensation of 500 ns, and, where the compensation rises from 0 to 50 ns, the catch-up of 20 ns. -/
theorem witness_BoundaryTickMakesItsEmissions :
    (∀ offset comp : Nat, (closing offset comp).mlc.held = false ∧ (closing offset comp).tsu.quiet = false
      ∧ (closing offset comp).eds.armed = false)
    ∧ ((closing 0 0).runTicks (closing 0 0).ticksToRoll).clk.tickFrom.ns = 999999992
    ∧ (closing 0 0).tsu.mark ≠ some ((closing 0 0).runTicks (closing 0 0).ticksToRoll).tsu.ts.sec
    ∧ ((closing 0 0).port 0).state ≠ .down ∧ (closing 999999995 0).comp 0 = 0 ∧ (closing 495 500).comp 0 = 500
    ∧ 0 + (999999992 : Nat) < 999999995 - 0 ∧ 999999992 + 500 < 1000000000 + 495
    ∧ (after (.secondBoundary ⟨false, 0⟩) (closing 20 0)).comp 0 = 50
    ∧ (after (.secondBoundary ⟨false, 0⟩) (closing 20 0)).tsu.gen = (closing 20 0).tsu.gen
    ∧ (∀ ix : EntryIx, (closing 20 0).eds.active[ix].used = true → ix = 0 ∨ ix = 1)
    ∧ (∀ ix : EntryIx, State.reset.eds.active[ix].used = false)
    ∧ allEntries.countP (fun ix =>
        let e := (closing 20 0).eds.active[ix]
        e.used && e.action == .tick && e.fires 0 && decide (999999992 < e.offset)) = 1 :=
  ⟨fun _ _ => ⟨rfl, rfl, rfl⟩, by decide +kernel⟩

/-- 03 R47, R48: each of the three is made at the boundary's tick; one at 500 ns of the next second is not. -/
theorem test_boundary_emissions :
    [(999999995, 0), (495, 500), (20, 0), (500, 500)].map (fun x : Nat × Nat =>
      (after (.secondBoundary ⟨false, 0⟩) (closing x.1 x.2)).eds.level[(0 : Port)]) = [true, true, true, false] := by
  decide +kernel

/-- 03 R47: the RISE at 500 ns drives port 0 HIGH at 0.000000504, the first tick past its instant. -/
theorem test_edge_emission :
    (after (.edgeEmission 0 0 0) edging).eds.level[(0 : Port)] = true ∧ (after (.edgeEmission 0 0 0) edging).now = ⟨0, 504⟩ := by
  decide +kernel

/-- Two pending entries that collide on port 0, at indexes 30 and 31. -/
def colliding : State :=
  State.reset.setEds { Eds.initial with
    pend := (Eds.initial.pend.set 30 ⟨true, 9, 1, .rise, 15⟩).set 31 ⟨true, 9, 1, .fall, 1⟩ }

/-- A SCHEDULE EDIT of an index and an action. -/
def editOf (index action : Nat) : Req := asks (EditReq.bytes ⟨index, action, true, 15, 1000000000, 3⟩)

theorem witness_ScheduleRequestsEditCommitDiscard :
    (State.reset.Takes kindScheduleEdit (editOf 31 2) ∧ State.reset.Takes kindScheduleEdit (editOf 32 0)
    ∧ State.reset.Takes kindScheduleEdit (editOf 0 3) ∧ State.reset.Takes kindScheduleCommit (asks [])
    ∧ colliding.Takes kindScheduleCommit (asks []) ∧ State.reset.Takes kindScheduleDiscard (asks []))
    ∧ (EditReq.read (editOf 31 2).payload).index = 31 ∧ Action.code .tick = (EditReq.read (editOf 31 2).payload).action
    ∧ (EditReq.read (editOf 32 0).payload).index = 32 ∧ (EditReq.read (editOf 0 3).payload).action = 3
    ∧ ConflictFree State.reset.eds.pend
    ∧ colliding.eds.pend[(30 : EntryIx)].conflicts colliding.eds.pend[(31 : EntryIx)] = true
    ∧ (∀ k l : EntryIx, k.val < l.val → colliding.eds.pend[k].conflicts colliding.eds.pend[l] = true →
      30 < k.val ∨ (30 = k.val ∧ 31 ≤ l.val)) := by
  refine ⟨⟨?_, ?_, ?_, ?_, ?_, ?_⟩, by decide +kernel, by decide +kernel, by decide +kernel, by decide +kernel,
    ?_, by decide +kernel, by decide +kernel⟩
  iterate 6 exact takes_at_reset rfl rfl rfl (.inl rfl)
  unfold ConflictFree
  decide +kernel

/-- 03 R44: the conflicting pair is reported by its two indexes. -/
theorem test_commit_conflict :
    ((after (.scheduleCommit (asks [])) colliding).mlc.reply.map Reply.payload) = some [6, 30, 31] := by decide +kernel

/-! ### Witnesses: the rack link -/

/-- Port 0 UP. -/
def up : State := withPort State.reset 0 .up .settled

/-- Port 0 UP with a compensation of 500 ns. -/
def compensated : State := up.setEds { up.eds with comp := up.eds.comp.set 0 500 }

/-- Port 0 UP and QUIET, at the tick of the roll that began second 0. -/
def quietUp : State := up.setPort 0 { up.port 0 with mode := .quiet }

theorem witness_DepartureOpensItsExchange_atRoll :
    let s := up.setClk { up.clk with rolled := some 0 }
    s.mlc.held = false ∧ (s.port 0).state ≠ .down ∧ 0 < s.rle.cycle.divisor ∧ (s.port 0).exch = none ∧ s.comp 0 = 0
    ∧ s.clk.rolled = some 0 ∧ TickEvent.departure 0 0 0 ∉ s.clk.taken ∧ s.tsu.quiet = false
    ∧ (modesMoved (s.port 0) 0 16 false).exch = none := by decide +kernel

theorem witness_DepartureOpensItsExchange_inSecond :
    let left : Time := ⟨0, 15 * (1000000000 / 16) - 0⟩
    up.comp 0 = 0 ∧ 15 < up.rle.cycle.divisor ∧ up.reach left = some ((up.reach left).getD up)
    ∧ left.sec = ((up.reach left).getD up).now.sec ∧ (((up.reach left).getD up).port 0).exch = none
    ∧ TickEvent.departure 0 0 15 ∉ ((up.reach left).getD up).clk.taken
    ∧ (modesMoved (((up.reach left).getD up).port 0) 15 16 false).mode = .polled
    ∧ (modesMoved (((quietUp.reach left).getD quietUp).port 0) 15 16 false).mode = .quiet
    ∧ (modesMoved (((quietUp.reach left).getD quietUp).port 0) 15 16 false).solicited = false := by
  refine ⟨rfl, by decide, reach_some (by decide +kernel), by decide +kernel, by decide +kernel, by decide +kernel,
    by decide +kernel, by decide +kernel, by decide +kernel⟩

/-- A DOWN port, a cycle number equal to the divisor, an instant of the next second, and one of the second that the latest tick
left. -/
theorem witness_DepartureOpensItsExchange_none :
    let next := (up.setTsu { up.tsu with ts := ⟨1, 4, 0⟩ }).setClk { up.clk with tickFrom := ⟨0, 937499999⟩ }
    (State.reset.port 0).state = .down ∧ up.rle.cycle.divisor ≤ 16 ∧ up.reach (compensatedInstant 1 15 16 0) = none
    ∧ next.reach (compensatedInstant 0 15 16 0) = some next ∧ (compensatedInstant 0 15 16 0).sec ≠ next.now.sec :=
  ⟨rfl, by decide, reach_none (by decide +kernel), by decide +kernel, by decide +kernel⟩

theorem witness_DepartureOpensItsExchange_early :
    let left : Time := ⟨1 - 1, 1000000000 - 500⟩
    compensated.comp 0 = 500 ∧ compensated.reach left = some ((compensated.reach left).getD compensated)
    ∧ left.sec = ((compensated.reach left).getD compensated).now.sec
    ∧ TickEvent.departure 0 1 0 ∉ ((compensated.reach left).getD compensated).clk.taken
    ∧ ((compensated.reach left).getD compensated).rle.staged = none := by
  refine ⟨by decide +kernel, reach_some (by decide +kernel), by decide +kernel, by decide +kernel, by decide +kernel⟩

/-- 04 R63: the departure of cycle 0 puts a TIME frame of 27 bytes, beginning 31H, on the line. -/
theorem test_departure :
    let s := up.setClk { up.clk with rolled := some 0 }
    (((after (.cycleCompensatedInstant 0 0 0 false) s).port 0).tx.map (fun x => (x.length, x.head?))) =
      some (27, some 0x31) := by decide +kernel

/-- The departure that the witnesses' ECHO answers: cycle 0 of second 0, at 0.0. -/
def departed : LogEntry := ⟨⟨0, 0⟩, ⟨0, 0⟩, 0, 0⟩

/-- Port 0 UP with that departure's exchange open, 2,000 ns later. -/
def awaiting : State :=
  (up.setPort 0 { up.port 0 with exch := some ⟨departed, 200000, 0, false⟩, log := [departed] }).runTicks 250

/-- The same at the tick of a roll that began second 0, its receiver as given. -/
def overtaken (rx : RackRx) : State :=
  let s := awaiting.setClk { awaiting.clk with rolled := some 0 }
  s.setPort 0 { s.port 0 with rx := rx }

theorem witness_DepartureOpensItsExchange_open :
    (overtaken .looking).mlc.held = false ∧ ((overtaken .looking).port 0).state ≠ .down ∧ (overtaken .looking).comp 0 = 0
    ∧ (overtaken .looking).clk.rolled = some 0 ∧ TickEvent.departure 0 0 0 ∉ (overtaken .looking).clk.taken
    ∧ (modesMoved ((overtaken .looking).port 0) 0 16 false).exch ≠ none
    ∧ (modesMoved ((overtaken .looking).port 0) 0 16 false).mode = .polled
    ∧ (modesMoved ((overtaken .looking).port 0) 0 16 false).rx = .looking
    ∧ (modesMoved ((overtaken .receiving).port 0) 0 16 false).rx = .receiving
    ∧ (modesMoved ((overtaken .waitIdle).port 0) 0 16 false).rx = .waitIdle := by decide +kernel

/-- The port's receiver heard nothing that goes on past the departure's tick: it was open, or it was not. -/
theorem witness_DepartureOpensItsExchange_hears :
    (modesMoved ((overtaken .looking).port 0) 0 16 false).exch = some ⟨departed, 200000, 0, false⟩
    ∧ (modesMoved ((overtaken .looking).port 0) 0 16 false).rx = .looking
    ∧ (modesMoved ((overtaken .waitIdle).port 0) 0 16 false).exch ≠ none
    ∧ (modesMoved ((overtaken .waitIdle).port 0) 0 16 false).rx = .waitIdle
    ∧ (overtaken .looking).tsu.quiet = false ∧ (overtaken .looking).rle.staged = none := by decide +kernel

/-- 04 R66: the departure counts the missing echo, and the framing error of a frame being received. -/
theorem test_departure_closes :
    let t := after (.cycleCompensatedInstant 0 0 0 true) (overtaken .looking)
    (t.port 0).missRun = 1 ∧ (t.port 0).ctr.framing = 1 ∧ (t.port 0).ctr.departures = 1 := by decide +kernel

/-- A TIME frame with a leap, O and acknowledgement, or none of them. -/
def timeOf (leap : Leap) (offset : Option Int) (ack : Option Byte) : TimeFrame :=
  ⟨⟨3, 63⟩, 0x010203040506, -128, leap, .d, 9, .quiet, offset, 20000, ack⟩

/-- 11 section 11.4: its 25 bytes before the CRC, with everything there and with nothing. -/
theorem test_time_frame :
    (timeOf (.insert 2) (some (-1)) (some 7)).bytes.take 25 =
      [0x31, 0x73, 0xFF, 1, 2, 3, 4, 5, 6, 0x80, 1, 0, 0, 0, 0, 0, 2, 9, 0xFF, 0xFF, 0xFF, 0xFF, 0x4E, 0x20, 7]
    ∧ (timeOf .none none none).bytes.take 25 =
      [0x31, 0x73, 0x3F, 1, 2, 3, 4, 5, 6, 0x80, 0, 0, 0, 0, 0, 0, 0, 9, 0, 0, 0, 0, 0x4E, 0x20, 0] := by decide +kernel

/-- An ECHO without marks, of that cycle or of another. -/
def echoOf (cycle : BitVec 6) : Echo := ⟨⟨0, cycle⟩, 0, 1000, 10, false, false, []⟩

theorem witness_RackFramesAreWrittenAndReadBack :
    -128 ≤ (timeOf (.insert 2) (some (-1)) (some 7)).utc ∧ (timeOf (.delete 2) none none).utc ≤ 127
    ∧ (-2147483648 : Int) ≤ -2147483648 ∧ (2147483647 : Int) ≤ 2147483647 ∧ (echoOf 0).rxNs < 4294967296 ∧ (echoOf 0).turn ≤ 1000000 ∧ (echoOf 0).marks.length ≤ 12
    ∧ (∀ k ∈ List.replicate 12 (⟨31, 15, ⟨15, 63⟩, 255, 1073741823⟩ : MarkIn), k.m < 1073741824) := by decide +kernel

theorem witness_ValidEchoHandsOnMarksAndSample :
    awaiting.mlc.held = false ∧ (awaiting.port 0).canReceive = true ∧ judgeRack (echoBytes (echoOf 0)) = .echo (echoOf 0)
    ∧ (awaiting.port 0).exch = some ⟨departed, 200000, 0, false⟩ ∧ (echoOf 0).tag = departed.tag
    ∧ ((0 : Nat) : Int) ≤ awaiting.clk.elapsed - (2000 : Nat) * 4294967296
    ∧ awaiting.clk.elapsed - (0 : Nat) * 4294967296 ≤ ((0 : Nat) : Int) + (200000 : Nat) * 4294967296 := by decide +kernel

/-- 04 R67: a valid ECHO closes the exchange and is counted. -/
theorem test_valid_echo :
    ((after (.echoReceived 0 (echoBytes (echoOf 0)) 0) awaiting).port 0).exch = none
    ∧ ((after (.echoReceived 0 (echoBytes (echoOf 0)) 0) awaiting).port 0).ctr.echoes = 1 := by decide +kernel

/-- A departure at the tick at which that exchange's ECHO ends, and one with no exchange open. -/
def crossed : State := after (.cycleCompensatedInstant 0 0 0 false) (overtaken .looking)
def crossedAlone : State := after (.cycleCompensatedInstant 0 0 0 false) (up.setClk { up.clk with rolled := some 0 })

/-- What those departures have noted. -/
theorem crossed_taken :
    crossed.clk.taken = [.overtaken 0 (some ⟨departed, 200000, 0, false⟩), .departure 0 0 0]
    ∧ crossedAlone.clk.taken = [.overtaken 0 none, .departure 0 0 0] := by decide +kernel

theorem witness_ValidEchoHandsOnMarksAndSample_overtaken :
    crossed.mlc.held = false ∧ (crossed.port 0).state ≠ .down ∧ (crossed.port 0).rx = .closed
    ∧ TickEvent.overtaken 0 (some ⟨departed, 200000, 0, false⟩) ∈ crossed.clk.taken
    ∧ (∀ y : Option Exchange, TickEvent.overtaken 0 y ∈ crossed.clk.taken → y = some ⟨departed, 200000, 0, false⟩)
    ∧ judgeRack (echoBytes (echoOf 0)) = .echo (echoOf 0) ∧ (echoOf 0).tag = departed.tag
    ∧ ((0 : Nat) : Int) ≤ crossed.clk.elapsed - (2000 : Nat) * 4294967296
    ∧ crossed.clk.elapsed - (0 : Nat) * 4294967296 ≤ ((0 : Nat) : Int) + (200000 : Nat) * 4294967296 := by
  refine ⟨by decide +kernel, by decide +kernel, by decide +kernel, by decide +kernel, ?_, by decide +kernel,
    by decide +kernel, by decide +kernel, by decide +kernel⟩
  simp [crossed_taken]

/-- 06 R114: the ECHO taken after the departure of its tick is counted, and the departure's exchange stays open; a second one
is not taken. -/
theorem test_overtaken_echo :
    let echo := Instr.echoReceived 0 (echoBytes (echoOf 0)) 0
    let t := after echo crossed
    (crossed.port 0).exch.isSome = true ∧ (t.port 0).exch = (crossed.port 0).exch ∧ (t.port 0).ctr.echoes = 1
    ∧ (t.port 0).rx = .closed ∧ ((after echo t).port 0).ctr.echoes = 1 ∧ (t.port 0).ctr.departures = 1 := by decide +kernel

/-- What a valid ECHO may raise: on a port already UP, on one SEEKING and on one FAULTED, in SHARED mode. -/
theorem test_echo_raises :
    let heard := fun (st : PortState) => after (.echoReceived 0 (echoBytes (echoOf 0)) 0)
      (shared (awaiting.setPort 0 { awaiting.port 0 with state := st }))
    (heard .up).ntu.at (.port 0) = none ∧ (heard .seeking).ntu.at (.port 0) = some ⟨.port .up .echo, 1, 0⟩
    ∧ (heard .seeking).ntu.at (.rack 0) = none
    ∧ (heard .faulted).ntu.at (.rack 0) = some ⟨.rack .settling .recover 0 0, 1, 0⟩ := by decide +kernel

/-- That exchange at its window's end, its port having missed 7 echoes before. -/
def expiring : State :=
  (awaiting.setPort 0 { awaiting.port 0 with missRun := 7 }).setClk { awaiting.clk with elapsed := 200000 * 4294967296 }

theorem witness_WindowExpiryCountsAMissingEcho :
    expiring.mlc.held = false ∧ (expiring.port 0).exch = some ⟨departed, 200000, 0, false⟩
    ∧ expiring.reachElapsed 0 200000 = some ((expiring.reachElapsed 0 200000).getD expiring)
    ∧ (expiring.port 0).canReceive = true ∧ (expiring.port 0).state = .up
    ∧ (expiring.port 0).loss ≤ (expiring.port 0).missRun + 1
    ∧ ¬((awaiting.port 0).loss ≤ (awaiting.port 0).missRun + 1)
    ∧ awaiting.reachElapsed 0 200000 = some ((awaiting.reachElapsed 0 200000).getD awaiting) := by
  refine ⟨by decide +kernel, by decide +kernel, reachElapsed_some (by decide +kernel), by decide +kernel,
    by decide +kernel, by decide +kernel, by decide +kernel, reachElapsed_some (by decide +kernel)⟩

/-- 04 R73: the eighth missing echo takes the port to FAULTED and its record to LOST. -/
theorem test_window_expiry :
    ((after (.replyWindowExpiry 0 false) expiring).port 0).state = .faulted
    ∧ ((after (.replyWindowExpiry 0 false) expiring).rack 0).state = .lost := by decide +kernel

/-- Port 0 with that exchange, its expiry deferred. -/
def deferred : State :=
  awaiting.setPort 0 { awaiting.port 0 with exch := some ⟨departed, 200000, 0, true⟩, rx := .receiving }

theorem witness_OtherRackFramesAreCounted :
    up.mlc.held = false ∧ (up.port 0).canReceive = true ∧ (up.port 0).exch = none
    ∧ judgeRack (echoBytes (echoOf 0)) = .echo (echoOf 0) ∧ judgeRack (withCrc [0x33]) = .call
    ∧ judgeRack [0x34] = .bad .kind ∧ (awaiting.port 0).exch = some ⟨departed, 200000, 0, false⟩
    ∧ ¬(0 + 200000 * 4294967296 ≤ awaiting.clk.elapsed) ∧ judgeRack (echoBytes (echoOf 1)) = .echo (echoOf 1)
    ∧ (echoOf 1).tag ≠ departed.tag ∧ ((0 : Nat) : Int) ≤ awaiting.clk.elapsed - (2000 : Nat) * 4294967296
    ∧ awaiting.clk.elapsed - ((2001 : Nat) : Int) * 4294967296 < ((0 : Nat) : Int)
    ∧ (quietUp.port 0).mode = .quiet ∧ (up.port 0).rx = .looking ∧ (up.port 0).state ≠ .down
    ∧ ((after (.rackFrameRejected 0 .crc) up).port 0).rx = .waitIdle
    ∧ ((after (.callReceived 0) up).port 0).rx = .looking := by decide +kernel

/-- The exchange deferred, fallen due at its window's end, and one tick past it for a leading edge after the window. -/
theorem witness_OtherRackFramesAreCounted_due :
    (deferred.port 0).canReceive = true ∧ (deferred.port 0).exch = some ⟨departed, 200000, 0, true⟩
    ∧ (expiring.port 0).canReceive = true ∧ 0 + 200000 * 4294967296 ≤ expiring.clk.elapsed
    ∧ expiring.clk.elapsed - (0 : Int) ≤ ((0 : Nat) : Int) + (200000 : Nat) * 4294967296
    ∧ ((expiring.runTicks 1).port 0).exch = some ⟨departed, 200000, 0, false⟩
    ∧ ((0 : Nat) : Int) + (200000 : Nat) * 4294967296 < (expiring.runTicks 1).clk.elapsed - ((0 : Nat) : Int) * 4294967296 := by
  decide +kernel

/-- A departure at the tick at which a frame ends: the exchange that it closed, and none. -/
theorem witness_OtherRackFramesAreCounted_overtaken :
    (∀ s ∈ [crossed, crossedAlone], s.mlc.held = false ∧ (s.port 0).canReceive = false ∧ (s.port 0).state ≠ .down
      ∧ (s.port 0).rx = .closed ∧ (s.port 0).mode = .polled)
    ∧ TickEvent.overtaken 0 (some ⟨departed, 200000, 0, false⟩) ∈ crossed.clk.taken
    ∧ TickEvent.overtaken 0 none ∈ crossedAlone.clk.taken
    ∧ (∀ y : Option Exchange, TickEvent.overtaken 0 y ∈ crossed.clk.taken → y = some ⟨departed, 200000, 0, false⟩)
    ∧ (∀ y : Option Exchange, TickEvent.overtaken 0 y ∈ crossedAlone.clk.taken → y = none)
    ∧ (echoOf 1).tag ≠ departed.tag ∧ crossed.clk.elapsed - ((2001 : Nat) : Int) * 4294967296 < ((0 : Nat) : Int)
    ∧ (((crossed.setClk { crossed.clk with elapsed := 200001 * 4294967296 }).clk.elapsed : Int) - (0 : Nat) * 4294967296 >
      ((0 : Nat) : Int) + (200000 : Nat) * 4294967296)
    ∧ (State.reset.port 0).canReceive = false ∧ (State.reset.port 0).state = .down
    ∧ (∀ y : Option Exchange, TickEvent.overtaken 0 y ∉ awaiting.clk.taken) ∧ ((overtaken .waitIdle).port 0).rx ≠ .closed := by
  refine ⟨by decide +kernel, by decide +kernel, by decide +kernel, ?_, ?_, by decide +kernel, by decide +kernel,
    by decide +kernel, by decide +kernel, by decide +kernel, ?_, by decide +kernel⟩
  · simp [crossed_taken]
  · simp [crossed_taken]
  · have h : awaiting.clk.taken = [] := by decide +kernel
    simp [h]

/-- 06 R114: a late, a misplaced and a failed frame behind the departure of its tick. -/
theorem test_overtaken_frames :
    ((after (.echoReceived 0 (echoBytes (echoOf 0)) 0) crossedAlone).port 0).ctr.late = 1
    ∧ ((after (.echoReceived 0 (echoBytes (echoOf 1)) 0) crossed).port 0).ctr.tag = 1
    ∧ ((after (.callReceived 0) crossed).port 0).ctr.protocol = 1
    ∧ ((after (.rackFrameRejected 0 .crc) crossed).port 0).ctr.crc = 1
    ∧ ((after (.rackFrameRejected 0 .crc) crossed).port 0).missRun = 1 := by decide +kernel

/-- 04 R58, R59: a CALL and an ECHO right behind it are both taken; behind a rejected frame the next waits for the line. -/
theorem test_frames_in_a_row :
    ((after (.echoReceived 0 (echoBytes (echoOf 0)) 0) (after (.callReceived 0) awaiting)).port 0).ctr.echoes = 1
    ∧ ((after (.callReceived 0) (after (.rackFrameRejected 0 .crc) quietUp)).port 0).solicited = false := by decide +kernel

/-- A SET PORT of port 0. -/
def portOf (port : Nat) (enable : Bool) (mode : Nat) : Req := asks (PortReq.bytes ⟨port, enable, mode, 8, 0⟩)

theorem witness_SetPortEnablesDisablesAndStages :
    (State.reset.Takes kindSetPort (portOf 15 true 1) ∧ State.reset.Takes kindSetPort (portOf 15 false 1)
    ∧ State.reset.Takes kindSetPort (portOf 16 true 0) ∧ State.reset.Takes kindSetPort (portOf 0 true 2)
    ∧ up.Takes kindSetPort (portOf 0 true 1) ∧ up.Takes kindSetPort (portOf 0 false 0))
    ∧ PortReq.read (portOf 15 true 1).payload = ⟨15, true, 1, 8, 0⟩ ∧ PortReq.read (portOf 15 false 1).payload = ⟨15, false, 1, 8, 0⟩
    ∧ (PortReq.read (portOf 16 true 0).payload).port = 16 ∧ (PortReq.read (portOf 0 true 2).payload).mode = 2
    ∧ (State.reset.port 15).state = .down ∧ (up.port 0).state ≠ .down := by
  refine ⟨⟨?_, ?_, ?_, ?_, ?_, ?_⟩, by decide +kernel⟩ <;> exact takes_at_reset rfl rfl rfl (.inl rfl)

/-- The same enable and disable sent to broadcast. -/
theorem witness_SetPortEnablesDisablesAndStages_broadcast :
    State.reset.Takes kindSetPort (tells (portOf 15 true 1).payload)
    ∧ up.Takes kindSetPort (tells (portOf 0 false 0).payload) ∧ (tells (portOf 0 false 0).payload).broadcast = true := by
  refine ⟨?_, ?_, rfl⟩ <;> exact takes_at_reset rfl rfl rfl (.inr rfl)

/-- 04 R73, R78; 05 R83: an addressed enable is answered and its notices wait behind the reply; a broadcast disable begins the
RACK notice at once. -/
theorem test_set_port_raises :
    let t := after (.setPort (portOf 15 true 1)) State.reset
    let v := after (.setPort (tells (portOf 0 false 0).payload)) up
    (t.mlc.reply.map Reply.payload) = some [0] ∧ t.ntu.at (.port 15) = some ⟨.port .seeking .enable, 1, 0⟩
    ∧ t.ntu.at (.rack 15) = some ⟨.rack .settling .enable 0 0, 1, 0⟩
    ∧ v.mlc.reply = none ∧ v.mlc.owner = .notice ∧ v.ntu.at (.rack 0) = none
    ∧ v.ntu.at (.port 0) = some ⟨.port .down .disable, 1, 0⟩ := by decide +kernel

/-- 04 R78: an enable takes a DOWN port to SEEKING and its record to SETTLING. -/
theorem test_set_port :
    ((after (.setPort (portOf 15 true 1)) State.reset).port 15).state = .seeking
    ∧ ((after (.setPort (portOf 15 true 1)) State.reset).rack 15).state = .settling := by decide +kernel

/-- A SET CYCLE of a divisor. -/
def cycleOf (n : Byte) : Req := asks [n, 0, 0, 0, 0]

/-- A SET QUEUE of a policy and watermark 0. -/
def queueOf (policy : Nat) : Req := asks (QueueReq.bytes ⟨policy, 0⟩)

theorem witness_SetCycleSetDriftSetQueueTakeClampedFields :
    (State.reset.Takes kindSetCycle (cycleOf 64) ∧ State.reset.Takes kindSetCycle (cycleOf 3)
    ∧ State.reset.Takes kindSetDrift (asks (List.replicate 30 0)) ∧ State.reset.Takes kindSetQueue (queueOf 1)
    ∧ State.reset.Takes kindSetQueue (queueOf 2))
    ∧ (CycleReq.read (cycleOf 64).payload).divisor = 64 ∧ (CycleReq.read (cycleOf 3).payload).divisor = 3
    ∧ Policy.code .keepNewest = (QueueReq.read (queueOf 1).payload).policy
    ∧ (QueueReq.read (queueOf 2).payload).policy = 2 ∧ 1 ≠ State.reset.clk.ticks := by
  refine ⟨⟨?_, ?_, ?_, ?_, ?_⟩, by decide +kernel⟩ <;> exact takes_at_reset rfl rfl rfl (.inl rfl)

/-- 07 R139: the new policy governs from the tick after the request on. -/
theorem test_set_queue :
    let t := after (.setQueue (queueOf 1)) State.reset
    t.sq.policy = .keepNewest ∧ t.policyNow = .keepOldest ∧ (t.runTicks 1).policyNow = .keepNewest := by decide +kernel

/-- 11 R182: a divisor goes out as one byte, and a rack receive time as a time. -/
theorem test_reply_items :
    (⟨16, 200000⟩ : CycleCfg).bytes = [16, 0, 3, 0x0D, 0x40]
    ∧ (⟨⟨1, 2⟩, 3, 0x0405, 6, true, false⟩ : LastEcho).bytes =
      [0, 0, 0, 0, 0, 1, 0, 0, 0, 2, 0, 0, 0, 3, 0, 0, 0, 0, 4, 5, 0, 0, 0, 6, 1, 0] := by decide +kernel

/-- 04 R77: at divisor 64 the window of 0 is raised to 20,000 ns. -/
theorem test_set_cycle : (after (.setCycle (cycleOf 64)) State.reset).rle.staged = some ⟨64, 20000⟩ := by decide +kernel

/-! ### Witnesses: the rack records -/

/-- A sample of the witnesses' departure: its ECHO arrives `away` ns after it. -/
def sampleAfter (away : Nat) (gen : Gen) : Sample := ⟨0, { departed with gen := gen }, 200000, ⟨0, away⟩, 5, 0, 1903, false, false⟩

/-- A record that has both averages, with D valid. -/
def averaging (outliers : Nat) : RackRec :=
  { RackRec.initial with
    state := .settled, delay := 1900, delayCount := 8, delaySeed := false, offsetSeed := false, outlierRun := outliers }

theorem witness_SamplesSeedAndAverageDelayAndOffset :
    (sampleAfter 3811 1).entry.gen ≠ 0 ∧ (sampleAfter 3811 0).entry.gen = 0
    ∧ ¬(0 ≤ (sampleAfter 4 0).arrival.diff (sampleAfter 4 0).entry.left - (sampleAfter 4 0).turn)
    ∧ (sampleAfter 20005 0).arrival.diff departed.left - 5 = 20000 ∧ DriftCfg.default.rtMax = 20000
    ∧ (RackRec.initial.toSettling).delaySeed = true ∧ (RackRec.initial.toSettling).offsetSeed = true
    ∧ (averaging 0).delaySeed = false ∧ (averaging 0).offsetSeed = false ∧ (averaging 0).delayCount = 8
    ∧ (roundDiv (4205 - 5) 2 - (averaging 0).delay).natAbs ≤ DriftCfg.default.gate
    ∧ DriftCfg.default.gate < (roundDiv (6005 - 5) 2 - (averaging 3).delay).natAbs
    ∧ (averaging 2).outlierRun < 3 ∧ 3 ≤ (averaging 3).outlierRun := by decide +kernel

/-- A sample of no delay, for a record of none, whose rack read 500,000,000 ns, one less, or the next second. -/
def readAt (sec : BitVec 16) (ns : Nat) : Sample := ⟨0, departed, 200000, ⟨0, 0⟩, 0, sec, ns, true, false⟩

theorem witness_SamplesSeedAndAverageDelayAndOffset_gross :
    (readAt 0 500000000).entry.gen = 0 ∧ (readAt 0 500000000).arrival.diff departed.left - 0 = 0
    ∧ (RackRec.initial.toSettling).delaySeed = true ∧ (RackRec.initial.toSettling).stepHold = 0
    ∧ (RackRec.initial.toSettling).state = .settling ∧ RackRec.initial.state = .unseen
    ∧ 500000000 ≤ (((0 : BitVec 16) - 0).toInt * 1000000000 + 500000000 - 0 - 0).natAbs
    ∧ (((0 : BitVec 16) - 0).toInt * 1000000000 + 499999999 - 0 - 0).natAbs < 500000000
    ∧ 0 < ({ RackRec.initial.toSettling with stepHold := 1 } : RackRec).stepHold := by decide +kernel

/-- 05 R91: a gross sample leaves O at the limit and takes the record to DRIFTING; one nanosecond less only seeds O. -/
theorem test_gross :
    let y := fun (x : Sample) => ((RackRec.initial.toSettling).sample DriftCfg.default 0 x).record
    ((y (readAt 0 500000000)).offset, (y (readAt 0 500000000)).state) = (500000000, .drifting)
    ∧ ((y (readAt 0 499999999)).offset, (y (readAt 0 499999999)).state) = (499999999, .settling)
    ∧ (y (readAt 0xFFFF 0)).offset = -500000000 := by decide +kernel

/-- A fourth outlier whose own D is 3,000 ns: the rack reads 3,050 ns, or 500,003,000 ns. -/
def fourth (ns : Nat) : Sample := ⟨0, departed, 200000, ⟨0, 6005⟩, 5, 0, ns, false, true⟩

theorem witness_SamplesSeedAndAverageDelayAndOffset_fourth :
    (fourth 3050).entry.gen = 0 ∧ (fourth 3050).arrival.diff departed.left - (fourth 3050).turn = 6000
    ∧ roundDiv 6000 2 = 3000 ∧ 3 ≤ (averaging 3).outlierRun ∧ (averaging 3).stepHold = 0 ∧ (averaging 3).state = .settled
    ∧ (((0 : BitVec 16) - 0).toInt * 1000000000 + 3050 - 0 - 3000).natAbs < 500000000
    ∧ 500000000 ≤ (((0 : BitVec 16) - 0).toInt * 1000000000 + 500003000 - 0 - 3000).natAbs
    ∧ 0 < ({ averaging 3 with stepHold := 1 } : RackRec).stepHold := by decide +kernel

/-- 05 R88, R90, R91: the fourth outlier in a row seeds O too, with outcome RESEEDED, and a gross one takes the record to
DRIFTING. -/
theorem test_fourth_outlier :
    let y := fun (ns : Nat) => (averaging 3).sample DriftCfg.default 0 (fourth ns)
    ((y 3050).record.delay, (y 3050).record.offset, (y 3050).gross) = (3000, 50, false)
    ∧ ((y 3050).record.last.map (fun l => l.outcome)) = some .reseeded
    ∧ ((y 500003000).record.offset, (y 500003000).record.state, (y 500003000).gross) = (500000000, .drifting, true) := by
  decide +kernel

/-- 05 R88: the fourth outlier in a row re-seeds D with the sample's own. -/
theorem test_reseed : ((averaging 3).sample DriftCfg.default 0 (sampleAfter 6005 0)).path = some (3000, 1900) := by
  decide +kernel

/-- A record in a state with its three runs. -/
def warned (st : RackState) (watch alarm quiet : Nat) (offset : Int) : RackRec :=
  { averaging 0 with
    state := st, watchRun := watch, alarmRun := alarm, quietRun := quiet, offset := offset, accepted := true
    history := List.replicate 16 offset }

theorem witness_WarningsNeedTheirRuns :
    DriftCfg.default.offAlarm < (400000000 : Int).natAbs ∧ ¬(DriftCfg.default.offAlarm < (2000 : Int).natAbs)
    ∧ DriftCfg.default.offWatch < (501 : Int).natAbs ∧ ¬(DriftCfg.default.offWatch < (500 : Int).natAbs)
    ∧ (warned .settling 0 0 0 501).rate = 0 ∧ (warned .settling 0 0 0 501).state = .settling
    ∧ (warned .settled 1 1 0 0).watchRun < 2 ∧ (warned .settled 1 1 0 0).alarmRun < 2
    ∧ (warned .watch 0 1 8 0).alarmRun < 2 ∧ (warned .watch 0 1 8 0).quietRun < 9 ∧ (warned .drifting 0 0 8 0).quietRun < 9
    ∧ 2 ≤ (warned .settled 2 2 0 500).watchRun ∧ 2 ≤ (warned .watch 0 2 0 501).alarmRun
    ∧ 9 ≤ (warned .drifting 0 0 9 501).quietRun
    ∧ 2 ≤ (warned .watch 0 2 0 400000000).alarmRun ∧ 2 ≤ (warned .settled 2 0 0 501).watchRun
    ∧ 9 ≤ (warned .watch 0 0 9 0).quietRun := by decide +kernel

/-- 05 R98, R99: a first evaluation, a third watch in a row, a second one, and a tenth quiet second. -/
theorem test_warnings :
    [warned .settling 0 0 0 501, warned .settling 0 0 0 0, warned .settled 2 0 0 501, warned .settled 1 0 0 501,
      warned .drifting 0 0 9 0].map (fun r => (r.evaluate DriftCfg.default).state) =
      [.watch, .settled, .watch, .settled, .settled] := by decide +kernel

/-- 05 R97, R99: a run that this second breaks changes no state: no watch after two in SETTLED, no alarm after two in WATCH, and
a watch after nine quiet seconds in DRIFTING and in WATCH. -/
theorem test_broken_runs :
    [warned .settled 2 2 0 500, warned .watch 0 2 0 501, warned .drifting 0 0 9 501, warned .watch 0 0 9 501].map (fun r =>
      (r.evaluate DriftCfg.default).state) = [.settled, .watch, .drifting, .watch] := by decide +kernel

/-- Ports 0 and 1 UP and SETTLED, both with an accepted sample, O apart by 300,000 ns. -/
def spreading : State :=
  let s := withPort (withPort State.reset 0 .up .settled) 1 .up .settled
  (s.setRack 0 { warned .settled 0 0 0 300000 with history := [] }).setRack 1 (warned .settled 0 0 0 0)

theorem witness_EachSecondPushesHistoryAndSpread :
    spreading.mlc.held = false ∧ (∀ p : Port, (spreading.port p).exch = none)
    ∧ spreading.tsu.mark ≠ some (spreading.runTicks spreading.ticksToRoll).tsu.ts.sec
    ∧ (∀ q : State, (q = spreading ∨ q = spreading.setTsu { spreading.tsu with staged := some 9 }) →
      (q.rack 0).state ≠ .unseen ∧ (q.rack 2).state = .unseen)
    ∧ (after (.secondBoundary ⟨true, 0⟩) spreading).tsu.gen = spreading.tsu.gen
    ∧ (after (.secondBoundary ⟨true, 0⟩) (spreading.setTsu { spreading.tsu with staged := some 9 })).tsu.gen ≠
      spreading.tsu.gen := by
  refine ⟨rfl, by decide +kernel, by decide +kernel, ?_, by decide +kernel, by decide +kernel⟩
  rintro q (rfl | rfl) <;> decide +kernel

theorem witness_EachSecondPushesHistoryAndSpread_record :
    ¬((warned .settled 0 0 0 0).accepted = false) ∧ RackRec.initial.accepted = false
    ∧ (warned .settled 0 0 0 0).stepHold = 0 ∧ (warned .settled 0 0 0 0).history.length = 16
    ∧ ({ warned .settled 0 0 0 0 with history := List.replicate 15 0 } : RackRec).history.length = 15
    ∧ ({ warned .settled 0 0 0 0 with history := List.replicate 14 0 } : RackRec).history.length < 15
    ∧ (warned .lost 0 0 0 0).state = .lost := by decide +kernel

theorem witness_EachSecondPushesHistoryAndSpread_spread :
    allPorts.countP (fun p => (State.reset.rack p).state == .settled) = 0
    ∧ allPorts.countP (fun p => (spreading.rack p).state == .settled) = 2
    ∧ (∀ p : Port, (spreading.rack p).state = .settled ∨ (spreading.rack p).state = .unseen)
    ∧ (spreading.rack 0).offset = 300000 ∧ (spreading.rack 1).offset = 0 ∧ spreading.drm.high = false
    ∧ spreading.drm.cfg.spreadLimit = 1000 := by decide +kernel

/-- 05 R83, R97: with a full ring an evaluation takes port 0 from SETTLED to DRIFTING at its third alarm in a row, with its marker
and its notice. -/
theorem test_evaluation_raises :
    let s := shared (spreading.setRack 0 (warned .settled 2 2 0 300000))
    let t := after (.secondBoundary ⟨false, 0⟩) s
    (t.rack 0).state = .drifting ∧ t.ntu.at (.rack 0) = some ⟨.rack .drifting .evaluation 300000 0, 1, 1⟩
    ∧ (t.sq.backlog.rack[(0 : Port)].map (fun e => (e.state, e.count))) = some (.drifting, 1)
    ∧ t.ntu.at (.rack 1) = none ∧ s.mlc.mode = .shared := by decide +kernel

/-- 05 R102, R103: the row spread with its two ports, and its flag. -/
theorem test_spread :
    let t := after (.secondBoundary ⟨false, 0⟩) spreading
    t.drm.spread = some ⟨300000, 0, 1, 1⟩ ∧ t.drm.counted = 2 ∧ t.drm.high = true ∧ (t.ntu.at .spread).isSome = false := by decide +kernel

/-! ### Witnesses: local lines and marks -/

/-- Line 0 in a mode with a width, its latch and its latest sample given. -/
def lined (m : LineMode) (width : Nat) (latch : Latch) (level : Bool) : State :=
  State.reset.setLine 0 { State.reset.line 0 with cfg := ⟨m, width, 40, true⟩, latch := latch, sample := level }

/-- A held record of line 0, and a rise under qualification since elapsed time 0. -/
def heldRecord : LocalRec := ⟨⟨0, 100⟩, true, .d, 0, false⟩
def rising : EdgeCapture := ⟨⟨0, 0⟩, true, .d, 0, 0⟩

theorem witness_LineEdgesQualifyOrAreCounted :
    (lined .rise 100 .empty false).mlc.held = false ∧ ((lined .rise 100 .empty false).line 0).sample ≠ true
    ∧ (lined .rise 100 .empty false).clk.taken = []
    ∧ ((lined .rise 100 .empty false).line 0).cfg.mode = .rise ∧ ((lined .rise 100 .empty false).line 0).latch = .empty
    ∧ 0 < ((lined .rise 100 .empty false).line 0).cfg.width ∧ ((lined .rise 0 .empty false).line 0).cfg.width = 0
    ∧ ((lined .both 0 (.held heldRecord) false).line 0).latch = .held heldRecord
    ∧ ((lined .both 0 (.held heldRecord) false).line 0).cfg.mode = .both ∧ ((lined .rise 100 (.qualifying rising) true).line 0).latch = .qualifying rising
    ∧ ((lined .rise 100 (.qualifying rising) true).line 0).sample ≠ false ∧ rising.rising ≠ false
    ∧ ((lined .both 100 (.qualifying rising) true).line 0).cfg.runt = true
    ∧ ((lined .rise 0 (.held heldRecord) true).line 0).latch = .held heldRecord
    ∧ ((lined .rise 0 .empty true).line 0).latch = .empty
    ∧ ((lined .high 0 .waitRelease true).line 0).latch = .waitRelease
    ∧ ((lined .high 0 .waitRelease true).line 0).sample ≠ false := by decide +kernel

/-- In BOTH without runts reported, with a width and without; an edge to the level of the sample; a line sampled at this
tick, with a second before it and with the roll next; and the expiry of a width of 100 ns. -/
theorem witness_LineEdgesQualifyOrAreCounted_more :
    let quietly := fun (w : Nat) =>
      State.reset.setLine 0 { State.reset.line 0 with
        cfg := ⟨.both, w, 40, false⟩, latch := .qualifying rising, sample := true }
    ((quietly 100).line 0).cfg.runt = false ∧ 0 < ((quietly 100).line 0).cfg.width ∧ ((quietly 0).line 0).cfg.width = 0
    ∧ ((quietly 0).line 0).latch = .qualifying rising ∧ ((quietly 0).line 0).sample = true
    ∧ TickEvent.line 0 ∈ ((quietly 0).note (.line 0)).clk.taken ∧ 1 < ((quietly 0).note (.line 0)).ticksToRoll
    ∧ ((quietly 0).setTsu { State.reset.tsu with ts := ⟨0, 999999992, 0⟩ }).ticksToRoll ≤ 1
    ∧ (lined .rise 100 (.qualifying rising) true).reachElapsed rising.stamp 100 =
      some (((lined .rise 100 (.qualifying rising) true).reachElapsed rising.stamp 100).getD
        (lined .rise 100 (.qualifying rising) true)) :=
  ⟨rfl, by decide +kernel, rfl, rfl, rfl, by decide +kernel, by decide +kernel, by decide +kernel,
    reachElapsed_some (by decide +kernel)⟩

/-- 06 section 6.1: a rise and a fall, as each mode takes them: only an active edge fills the latch. -/
theorem test_active_edges :
    [LineMode.off, .rise, .fall, .both, .high, .low].map (fun m =>
      (((after (.lineEdge 0 true) (lined m 0 .empty false)).line 0).latch.index,
        ((after (.lineEdge 0 false) (lined m 0 .empty true)).line 0).latch.index)) =
      [(0, 0), (2, 0), (0, 2), (2, 2), (2, 0), (0, 2)] := by decide +kernel

/-- 06 R110, R111: in BOTH the edge that ends a reported qualification is an overrun too. -/
theorem test_both_runt :
    let t := after (.lineEdge 0 false) (lined .both 100 (.qualifying rising) true)
    (t.line 0).ctr.runts = 1 ∧ (t.line 0).ctr.overruns = 1 := by decide +kernel

/-- 06 R109: the held time is the edge's less the input delay of 40 ns. -/
theorem test_qualification :
    ((after (.qualificationExpiry 0) (lined .rise 100 (.qualifying rising) true)).line 0).latch =
      .held ⟨⟨281474976710655, 999999960⟩, true, .d, 0, false⟩ := by decide +kernel

/-- A SET LINE of a line, a mode and a runt policy. -/
def lineOf (line mode runt : Byte) : Req := asks [line, mode, 0x27, 0x11, 0, 0, runt]

theorem witness_SetLineAbandonsTheLatch :
    (State.reset.Takes kindSetLine (lineOf 7 5 1) ∧ State.reset.Takes kindSetLine (lineOf 8 0 0)
    ∧ State.reset.Takes kindSetLine (lineOf 0 6 0) ∧ State.reset.Takes kindSetLine (lineOf 0 0 2))
    ∧ (7 : Line).val = (LineReq.read (lineOf 7 5 1).payload).line ∧ LineMode.code .low = (LineReq.read (lineOf 7 5 1).payload).mode
    ∧ (LineReq.read (lineOf 7 5 1).payload).runt ≤ 1 ∧ (LineReq.read (lineOf 8 0 0).payload).line = 8
    ∧ (LineReq.read (lineOf 0 6 0).payload).mode = 6 ∧ (LineReq.read (lineOf 0 0 2).payload).runt = 2 := by
  refine ⟨⟨?_, ?_, ?_, ?_⟩, by decide +kernel⟩ <;> exact takes_at_reset rfl rfl rfl (.inl rfl)

/-- 06 R121: a width of 10,001 ns is clamped; a line already low in LOW waits for release. -/
theorem test_set_line :
    ((after (.setLine (lineOf 7 5 1)) State.reset).line 7).cfg.width = 10000
    ∧ ((after (.setLine (lineOf 7 5 1)) State.reset).line 7).latch = .waitRelease := by decide +kernel

/-- A port's marks with next-expected 10, and `n` marks waiting. -/
def marksOf (n : Nat) : PortMarks :=
  { PortMarks.initial with
    nextExp := some 10, buf := List.replicate n ⟨⟨0, 0⟩, .a, 0, 0, 0, 0, ⟨false, false, false, false⟩⟩ }

theorem witness_MarksAreAcceptedInSequence :
    (marksOf 0).nextExp = some 10 ∧ 126 < ((137 : Byte) - 10).toNat ∧ ((136 : Byte) - 10).toNat ≤ 126
    ∧ PortMarks.initial.nextExp = none ∧ 24 ≤ (marksOf 24).buf.length ∧ (marksOf 23).buf.length < 24 := by decide +kernel

/-- Dating by a log of one departure of generation 250: the steps since, and times up to the arrival and past it. -/
theorem witness_MarksAreAcceptedInSequence_dating :
    let e : LogEntry := ⟨⟨0, 0⟩, ⟨0, 0⟩, 250, 0⟩
    ([e].find? (fun x => x.tag == ⟨0, 0⟩)) = some e ∧ ([e].find? (fun x => x.tag == ⟨0, 1⟩)) = none
    ∧ 4 < ((255 : Gen) - 250).toNat ∧ ((254 : Gen) - 250).toNat ≤ 4 ∧ ((254 : Gen) - 250).toNat ≤ (List.replicate 4 (0 : Int)).length
    ∧ ([] : List Int).length < ((251 : Gen) - 250).toNat ∧ (251 : Gen) ≠ 250
    ∧ 0 < (e.left.plus 8).diff ⟨0, 7⟩ ∧ (e.left.plus 7).diff ⟨0, 7⟩ ≤ 0 := by decide +kernel

/-! ### Witnesses: the stamp queue, the strobe latch and the notices -/

/-- Reset with one waiting STEP marker. -/
def stepWaits : State :=
  State.reset.setSq { State.reset.sq with
    backlog := State.reset.sq.backlog.raise State.reset.hdr (.step 1 (-2500)) }

/-- Line 0 offers its record. -/
def offering : State := lined .rise 0 (.held heldRecord) true

/-- The same with the queue full for ordinary records. -/
def overflowing : State :=
  offering.setSq { offering.sq with
    queue := List.replicate 1008 ⟨0, offering.hdr, .localLine 0 true false⟩, rotation := 0 }

/-- `s` with a GAP entry waiting. -/
def gapped (s : State) : State :=
  s.setSq { s.sq with backlog := { s.sq.backlog with gap := some ⟨s.hdr, 3⟩ } }

/-- `s` under KEEP_NEWEST. -/
def newest (s : State) : State := s.setSq { s.sq with policy := .keepNewest }

/-- `s` with its queue full. -/
def full (s : State) : State :=
  s.setSq { s.sq with queue := List.replicate 1024 ⟨0, s.hdr, .localLine 0 true false⟩ }

theorem offering_offers (s : State) (h : (s.line 0).latch = .held heldRecord) :
    ∃ (hd : Hdr) (b : Body) (t : State), Offers s 0 hd b t :=
  ⟨_, _, _, .inl ⟨0, heldRecord, rfl, h, rfl, rfl, rfl⟩⟩

theorem witness_AdmissionServesBacklogThenSources_backlog :
    stepWaits.mlc.held = false ∧ TickEvent.arbiter ∉ stepWaits.clk.taken
    ∧ (stepWaits.sq.backlog.next.map (fun x => (x.1, x.2.1))) = some (State.reset.hdr, .step 1 (-2500))
    ∧ stepWaits.sq.queue.length < 1024 ∧ 1024 ≤ (full (newest stepWaits)).sq.queue.length
    ∧ (full (newest stepWaits)).policyNow = .keepNewest ∧ 1024 ≤ (full stepWaits).sq.queue.length
    ∧ (full stepWaits).policyNow = .keepOldest ∧ TickEvent.arbiter ∈ (stepWaits.note .arbiter).clk.taken
    ∧ 1 < (stepWaits.note .arbiter).ticksToRoll
    ∧ ((stepWaits.note .arbiter).setTsu { State.reset.tsu with ts := ⟨0, 999999992, 0⟩ }).ticksToRoll ≤ 1 := by
  decide +kernel

/-- 07 R128: each backlog entry alone, RACK of port 15 among them, and none. -/
theorem witness_AdmissionServesBacklogThenSources_order :
    Backlog.empty.step = none ∧ Backlog.empty.tstate = none ∧ Backlog.empty.leap = none ∧ Backlog.empty.tick = none
    ∧ ({ Backlog.empty with rack := Backlog.empty.rack.set 15 (some ⟨State.reset.hdr, .settled, 1⟩) } : Backlog).rack[(15 : Port)] =
      some ⟨State.reset.hdr, .settled, 1⟩
    ∧ (∀ q : Port, Backlog.empty.rack[q] = none) := by decide +kernel

/-- Line 0 offers; the pointer stands at 23, so it is next, or at 0, so it is last and the only one. Its record fits, fits
behind a GAP record at 1,006 records and not at 1,007, and not at 1,008. -/
theorem witness_AdmissionServesBacklogThenSources_sources :
    (∃ (h : Hdr) (b : Body) (t : State), Offers offering 0 h b t) ∧ (∃ (h : Hdr) (b : Body) (t : State), Offers overflowing 0 h b t)
    ∧ offering.sq.backlog.next = none ∧ (gapped offering).sq.backlog.next = none ∧ overflowing.sq.backlog.next = none
    ∧ offering.sq.rotation = 23 ∧ overflowing.sq.rotation = 0 ∧ (∀ j : Fin 24, (0 + 23 - 23) % 24 ≤ (j.val + 23 - 23) % 24)
    ∧ (∀ l : Line, l ≠ 0 → (overflowing.line l).latch = .empty) ∧ (∀ p : Port, (overflowing.marks p).buf = [])
    ∧ offering.sq.backlog.gap = none ∧ offering.sq.queue.length < 1008
    ∧ (gapped offering).sq.backlog.gap = some ⟨offering.hdr, 3⟩ ∧ (gapped offering).sq.queue.length < 1007
    ∧ ¬(overflowing.sq.queue.length < 1008) ∧ overflowing.policyNow = .keepOldest
    ∧ (newest overflowing).policyNow = .keepNewest := by
  refine ⟨offering_offers _ rfl, offering_offers _ rfl, by decide +kernel⟩

/-- 07 R133 to R135: a refused record counts a discard and a loss; under KEEP_NEWEST the head goes instead; a GAP record
goes ahead of the record that fits. -/
theorem test_overflow :
    ((after .admission overflowing).line 0).ctr.discards = 1
    ∧ (after .admission overflowing).sq.backlog.gap.map CountWait.count = some 1
    ∧ (after .admission (newest overflowing)).sq.queue.length = 1008
    ∧ (after .admission (newest overflowing)).sq.backlog.gap.map CountWait.count = some 1
    ∧ ((after .admission (gapped offering)).sq.queue.map (fun x => x.body)).drop 1 =
      [.marker (.gap 3), .localLine 0 true false] := by decide +kernel

/-- 07 R128: the STEP marker becomes the record after the RESTART record, with sequence 1. -/
theorem test_admission :
    (after .admission stepWaits).sq.queue.map (fun x => (x.seq, x.body)) =
      [(0, .marker (.restart .powerOn 0)), (1, .marker (.step 1 (-2500)))] := by decide +kernel

theorem witness_StampsReleasesAndReports :
    State.reset.Takes kindStamps (asks (StampsReq.bytes ⟨1, 10⟩))
    ∧ consecutive (threeFrom 4294967294).nextSeq (threeFrom 4294967294).queue ∧ (threeFrom 4294967294).queue.length ≤ 1024 :=
  ⟨takes_at_reset rfl rfl rfl (.inl rfl), ⟨rfl, rfl, rfl⟩, by decide⟩

/-- A latch filled by HSTB, its ignored count at its limit. -/
def strobed : State := State.reset.setStl ⟨some ⟨⟨0, 8⟩, 0, .freerun, .d, .hstb⟩, 255, some true⟩

/-- Reset with HSTB sampled low and the latch full. -/
def lowFull : State := sampled.setStl ⟨some ⟨⟨0, 8⟩, 0, .freerun, .d, .hstb⟩, 255, some false⟩

theorem witness_StrobesFillOnlyAnEmptyLatch :
    (sampled.mlc.held = false ∧ sampled.clk.taken = [] ∧ sampled.stl.hstb = some false ∧ sampled.stl.latched = none
      ∧ lowFull.stl.hstb = some false ∧ lowFull.stl.latched = some ⟨⟨0, 8⟩, 0, .freerun, .d, .hstb⟩
      ∧ State.reset.stl.hstb ≠ some false ∧ strobed.stl.hstb ≠ some false ∧ 1 < State.reset.ticksToRoll
      ∧ TickEvent.hstb ∈ (sampled.note .hstb).clk.taken ∧ 1 < (sampled.note .hstb).ticksToRoll
      ∧ (State.reset.setTsu { State.reset.tsu with ts := ⟨0, 999999992, 0⟩ }).ticksToRoll ≤ 1)
    ∧ State.reset.Takes kindLatch (asks []) ∧ strobed.Takes kindLatch (asks []) ∧ State.reset.Takes kindLatch (tells [])
    ∧ strobed.Takes kindLatch (tells []) ∧ State.reset.stl.latched = none
    ∧ strobed.stl.latched = some ⟨⟨0, 8⟩, 0, .freerun, .d, .hstb⟩ := by
  refine ⟨by decide +kernel, ?_, ?_, ?_, ?_, rfl, rfl⟩
  · exact takes_at_reset rfl rfl rfl (.inl rfl)
  · exact takes_at_reset rfl rfl rfl (.inl rfl)
  · exact takes_at_reset rfl rfl rfl (.inr rfl)
  · exact takes_at_reset rfl rfl rfl (.inr rfl)

/-- 08 R142, R144: the ignored count stays at 255, and from reset the rise is sampled at the second tick. -/
theorem test_strobe_saturates :
    (after .strobeEdge lowFull).stl.ignored = 255 ∧ (after .strobeEdge State.reset).clk.ticks = 1 := by decide +kernel

theorem witness_ReadStrobeReportsAndEmpties :
    State.reset.Takes kindReadStrobe (asks []) ∧ strobed.Takes kindReadStrobe (asks []) ∧ State.reset.stl.latched = none
    ∧ strobed.stl.latched = some ⟨⟨0, 8⟩, 0, .freerun, .d, .hstb⟩ :=
  ⟨takes_at_reset rfl rfl rfl (.inl rfl), takes_at_reset rfl rfl rfl (.inl rfl), rfl, rfl⟩

theorem witness_RaisedNoticesMergeAndGoOut :
    State.reset.ntu.at .leap = none ∧ (noticed State.reset).ntu.at .step = some ⟨.step (-2500), 1, 3⟩
    ∧ (shared State.reset).mlc.mode = .shared ∧ State.reset.mlc.mode = .point ∧ State.reset.mlc.owner = .free
    ∧ State.reset.mlc.held = false ∧ (({ State.reset.ntu with masks := 0xFFF } : Ntu).raise .leap (.leap .adopt 37 .none) 0).attn = false
    ∧ (State.reset.ntu.raise .leap (.leap .adopt 37 .none) State.reset.now.sec).choose = some .leap
    ∧ (State.reset.ntu.raise .leap (.leap .adopt 37 .none) State.reset.now.sec).at .leap =
        some ⟨.leap .adopt 37 .none, 1, 0⟩ := by decide +kernel

/-- 10 R169: a second occurrence replaces the value and counts 2. -/
theorem test_merge :
    ((noticed State.reset).ntu.raise .step (.step 7) 4).at .step = some ⟨.step 7, 2, 4⟩ := by decide +kernel

theorem witness_DeliveryTakesLowestClassThenRotation :
    State.reset.ntu.PointersInRange ∧ (noticed State.reset).ntu.choose = some .step
    ∧ (noticed State.reset).ntu.at .step = some ⟨.step (-2500), 1, 3⟩ := by
  unfold Ntu.PointersInRange
  decide +kernel

theorem witness_SetNoticesAndPollDeliver :
    (State.reset.Takes kindSetNotices (asks [0x0F, 0xFF]) ∧ State.reset.Takes kindPoll (asks [])
    ∧ (noticed State.reset).Takes kindPoll (asks []) ∧ State.reset.Takes kindSetNotices (tells [0, 0]))
    ∧ State.reset.ntu.choose = none ∧ (noticed State.reset).ntu.choose = some .step
    ∧ (noticed State.reset).ntu.at .step = some ⟨.step (-2500), 1, 3⟩ := by
  refine ⟨⟨?_, ?_, ?_, ?_⟩, by decide +kernel⟩
  · exact takes_at_reset rfl rfl rfl (.inl rfl)
  · exact takes_at_reset rfl rfl rfl (.inl rfl)
  · exact takes_at_reset rfl rfl rfl (.inl rfl)
  · exact takes_at_reset rfl rfl rfl (.inr rfl)

/-! ### Witnesses: the invariants, each at a state that can step -/

/-- Reset with a strobe waiting in the queue of commands. -/
def stepping : State := State.reset.setPending [.strobeEdge]

theorem stepping_steps : step stepping = .next (after .strobeEdge (stepping.setPending [])) := rfl

theorem witness_QueueStaysNumberedAndBounded :
    exec .strobeEdge (after (.restart (asks [])) State.reset) =
      .next (after .strobeEdge (after (.restart (asks [])) State.reset)) ∧ State.reset.mlc.restartDue = false
    ∧ State.reset.mlc.rx.phase ≠ .body ∧ stepping.sq.Inv
    ∧ step stepping = .next (after .strobeEdge (stepping.setPending [])) :=
  ⟨rfl, rfl, by decide, ⟨rfl, by decide, by decide⟩, rfl⟩

/-- Ticks with a body in assembly: no byte ends; one ends of a frame for address 0, and of a broadcast STAMPS. -/
theorem witness_QueueStaysNumberedAndBounded_ticks :
    (pins start still still).linkRx.ended = none ∧ field (hearing .body [0, 3, 7, 0] true).mlc.rx.bytes 0 1 % 16 ≠ 15
    ∧ field (hearing .body [15, 0x1B, 7, 0] true).mlc.rx.bytes 1 1 ≠ 3 := by decide +kernel

theorem witness_StepKeepsPortsAndRecordsTogether : stepping.RecordsFollowPorts ∧ stepping.DownPortsRest :=
  ⟨by unfold State.RecordsFollowPorts; decide +kernel, by unfold State.DownPortsRest; decide +kernel⟩

theorem witness_StepKeepsRatesAndCompensationsInRange :
    stepping.CompensationInRange ∧ stepping.tsu.RatesInRange ∧ stepping.tsu.slew.TermWithin
    ∧ stepping.rle.DivisorsPermitted :=
  ⟨by unfold State.CompensationInRange; decide +kernel, reset_rates, .inl (by decide), reset_divisors⟩

theorem witness_StepKeepsTheTimescaleSound :
    stepping.tsu.ts.InRange ∧ stepping.tsu.ReferenceOwns ∧ stepping.SelectionMatches ∧ stepping.tsu.MarkInQuiet :=
  ⟨reset_scale, ⟨by decide, by decide, by decide⟩, rfl, fun h => absurd rfl h⟩

theorem witness_StepKeepsSchedulesAndAttnSound :
    stepping.eds.SchedulesSound ∧ stepping.ntu.AttnFollows ∧ stepping.ntu.PointersInRange :=
  ⟨⟨by unfold ConflictFree; decide +kernel, fun h => absurd h (by decide)⟩,
    by unfold Ntu.AttnFollows; decide +kernel, by unfold Ntu.PointersInRange; decide +kernel⟩

theorem witness_StepKeepsBuffersAndRecordsInRange : stepping.BuffersBounded ∧ stepping.RecordsInRange :=
  ⟨⟨by decide +kernel, by decide +kernel, by decide +kernel, by decide +kernel, by decide +kernel⟩,
    ⟨by decide +kernel, by decide +kernel, by decide +kernel, by decide +kernel, by decide +kernel⟩⟩

end Sys2Proof.Tests
end

section
/-! PROOFS. The settings that a command can change: TSU's record, the selection, the divisors and the compensations. Every
other write of the model leaves them alone (one lemma per operation), and what a command can make of them is a run of the
moves of `Settings.Move`. -/

namespace Sys2Proof.Machine

/-- TSU's record, the selection, the divisors, and the applied and initial compensations. -/
structure Settings where
  tsu : Tsu
  sel : Option Input
  cycle : CycleCfg
  staged : Option CycleCfg
  comp : Vector Nat 16
  initComp : Vector Nat 16

/-- The settings of the hub. -/
def State.settings (s : State) : Settings :=
  ⟨s.tsu, s.ref.sel, s.rle.cycle, s.rle.staged, s.eds.comp, s.rle.ports.map (·.initComp)⟩

/-- The settings of every reset. -/
def Settings.initial : Settings :=
  ⟨Tsu.initial, none, ⟨16, 200000⟩, none, Vector.replicate 16 0, Vector.replicate 16 0⟩

/-- The divisors that 04 R77 permits. -/
def permittedDivisors : List Nat := [1, 2, 4, 8, 16, 32, 64]

/-- Everything that one event can do to the settings. -/
inductive Settings.Move : Settings → Settings → Prop
  /-- Ticks advance the timescale value (01 R1). -/
  | ticks (x : Settings) (v : Ts) (h : ∃ units, v = x.tsu.ts.advance units) :
      Move x { x with tsu := { x.tsu with ts := v } }
  /-- A cycle start is recorded (01 R5). -/
  | cycleStart (x : Settings) (c : CycleStart) : Move x { x with tsu := { x.tsu with lastCycle := some c } }
  /-- TSU's boundary work on a report, whose selection REF makes at the same boundary (01 R10). -/
  | boundary (x : Settings) (rep : Report) :
      Move x { x with tsu := (Tsu.boundary { x.tsu with mark := none } rep).1, sel := rep.sel }
  /-- A suppressed roll clears the mark (01 R4). -/
  | clearMark (x : Settings) : Move x { x with tsu := { x.tsu with mark := none } }
  /-- SET TIME (01 R15). -/
  | setTime (x : Settings) (T : RowSec) (h : x.tsu.state.referenced = false) :
      Move x { x with tsu := Tsu.refresh { x.tsu with staged := some T, slew := x.tsu.slew.abandon .setTime } }
  /-- ADJUST starts a slew whose term is 0 (01 R13). -/
  | adjust (x : Settings) (w : Slew) (h : x.tsu.state.referenced = false) (hw : w.term = 0) :
      Move x { x with tsu := Tsu.refresh { x.tsu with slew := w } }
  /-- SET LEAP (01 R17). -/
  | setLeap (x : Settings) (utc : Int) (l : Leap) : Move x { x with tsu := { x.tsu with utc := utc, leap := l } }
  /-- SET LOOP (02 R39). -/
  | setLoop (x : Settings) (q : LoopReq) (p : StepPolicy) : Move x { x with tsu := x.tsu.configure (q.apply p) }
  /-- SET CYCLE stages a permitted divisor (04 R77). -/
  | stageCycle (x : Settings) (c : CycleCfg) (h : c.divisor ∈ permittedDivisors) : Move x { x with staged := some c }
  /-- A staged divisor comes into force (04 R77). -/
  | applyCycle (x : Settings) : Move x { x with cycle := x.staged.getD x.cycle, staged := none }
  /-- A compensation moves toward its target: D limited, or the initial compensation (03 R53). -/
  | moveComp (x : Settings) (p : Port) (most target : Nat) (h : target ≤ 20000 ∨ target = x.initComp[p]) :
      Move x { x with comp := x.comp.set p (moveToward most x.comp[p] target) }
  /-- An enable sets the compensation to the initial one (04 R71). -/
  | enable (x : Settings) (p : Port) : Move x { x with comp := x.comp.set p x.initComp[p] }
  /-- SET PORT sets the initial compensation, clamped (04 R78). -/
  | setInitComp (x : Settings) (p : Port) (c : Nat) (h : c ≤ 20000) : Move x { x with initComp := x.initComp.set p c }
  /-- A RESTART takes effect (01 R19; 03 R57; 04 R80). -/
  | restart (x : Settings) : Move x { Settings.initial with tsu := x.tsu.restart }
  /-- Power-on and pin reset (09 R168). -/
  | reset (x : Settings) : Move x Settings.initial

/-- `t`'s settings come from `s`'s by moves. -/
def State.Reaches (s t : State) : Prop := Relation.ReflTransGen Settings.Move s.settings t.settings

namespace State.Reaches

variable {s t u : State}

theorem of_eq (h : t.settings = s.settings) : s.Reaches t := by
  unfold State.Reaches
  rw [h]

@[refl] theorem refl (s : State) : s.Reaches s := of_eq rfl

theorem of_move {x : Settings} (h : Settings.Move s.settings x) (e : t.settings = x) : s.Reaches t := by
  unfold State.Reaches
  rw [e]
  exact .single h

@[trans] theorem trans (h : s.Reaches t) (k : t.Reaches u) : s.Reaches u := Relation.ReflTransGen.trans h k

theorem trans_eq (h : s.Reaches t) (k : u.settings = t.settings) : s.Reaches u := h.trans (of_eq k)

theorem eq_trans (k : t.settings = s.settings) (h : t.Reaches u) : s.Reaches u := (of_eq k).trans h

/-- What every port's share of a work reaches, the whole work reaches. -/
theorem overPorts {f : Port → State → State} (h : ∀ (p : Port) (s : State), s.Reaches (f p s)) (s : State) :
    s.Reaches (overPorts f s) :=
  overPorts_keeps (P := s.Reaches) f (fun p _ ht => ht.trans (h p _)) s (refl s)

end State.Reaches

/-! ### Writes that leave the settings alone -/

section Writes

variable (s : State)

@[simp] theorem State.setDrm_settings (x : Drm) : (s.setDrm x).settings = s.settings := rfl
@[simp] theorem State.setEcu_settings (x : Ecu) : (s.setEcu x).settings = s.settings := rfl
@[simp] theorem State.setSq_settings (x : Sq) : (s.setSq x).settings = s.settings := rfl
@[simp] theorem State.setStl_settings (x : Stl) : (s.setStl x).settings = s.settings := rfl
@[simp] theorem State.setNtu_settings (x : Ntu) : (s.setNtu x).settings = s.settings := rfl
@[simp] theorem State.setMlc_settings (x : Mlc) : (s.setMlc x).settings = s.settings := rfl
@[simp] theorem State.setClk_settings (x : Clock) : (s.setClk x).settings = s.settings := rfl
@[simp] theorem State.setPending_settings (x : List Instr) : (s.setPending x).settings = s.settings := rfl
@[simp] theorem State.setRack_settings (p : Port) (r : RackRec) : (s.setRack p r).settings = s.settings := rfl
@[simp] theorem State.setMarks_settings (p : Port) (m : PortMarks) : (s.setMarks p m).settings = s.settings := rfl
@[simp] theorem State.setLine_settings (l : Line) (r : LineRec) : (s.setLine l r).settings = s.settings := rfl
@[simp] theorem State.setCtr_settings (c : LinkCounters) : (s.setCtr c).settings = s.settings := rfl
@[simp] theorem State.note_settings (e : TickEvent) : (s.note e).settings = s.settings := rfl
@[simp] theorem State.dropFrame_settings (c : LinkCounters) : (s.dropFrame c).settings = s.settings := rfl
@[simp] theorem State.raiseMarker_settings (h : Hdr) (m : Marker) : (s.raiseMarker h m).settings = s.settings := rfl
@[simp] theorem State.keepByte_settings (ph : RxPhase) (bs : List Byte) : (s.keepByte ph bs).settings = s.settings := rfl
@[simp] theorem State.setInByte_settings (b : Bool) : (s.setInByte b).settings = s.settings := rfl
@[simp] theorem State.moveRotation_settings (i : Fin 24) : (s.moveRotation i).settings = s.settings := rfl
@[simp] theorem State.settleOvertaken_settings (p : Port) : (s.settleOvertaken p).settings = s.settings := rfl

@[simp] theorem State.setTsu_settings (x : Tsu) : (s.setTsu x).settings = { s.settings with tsu := x } := rfl

@[simp] theorem State.setRef_settings (x : Ref) : (s.setRef x).settings = { s.settings with sel := x.sel } := rfl

@[simp] theorem State.setEds_settings (x : Eds) : (s.setEds x).settings = { s.settings with comp := x.comp } := rfl

@[simp] theorem State.setInput_settings (i : Input) (r : InputRec) : (s.setInput i r).settings = s.settings := by
  cases i <;> rfl

/-- A write of a port moves its initial compensation only. -/
theorem State.setPort_settings (p : Port) (r : PortRec) :
    (s.setPort p r).settings = { s.settings with initComp := s.settings.initComp.set p r.initComp } := by
  have h : (s.rle.ports.set p r).map (·.initComp) = (s.rle.ports.map (·.initComp)).set p r.initComp := by
    ext i hi
    simp only [Vector.getElem_map, Vector.getElem_set]
    split <;> rfl
  simp [State.settings, State.setPort, h]

@[simp] theorem State.settings_initComp (p : Port) : s.settings.initComp[p] = (s.port p).initComp := by
  simp [State.settings, State.port]

@[simp] theorem State.settings_comp (p : Port) : s.settings.comp[p] = s.comp p := rfl

/-- A write that keeps the port's initial compensation leaves the settings alone. -/
@[simp] theorem State.setPort_settings_of_kept {p : Port} {r : PortRec} (h : r.initComp = (s.port p).initComp) :
    (s.setPort p r).settings = s.settings := by
  rw [State.setPort_settings, h, ← State.settings_initComp]
  simp

end Writes
end Sys2Proof.Machine
end

section
/-! PROOFS. What each shared operation and each block's work does to the settings. -/
namespace Sys2Proof.Machine

section Operations

variable (s : State)

/-! ### The passing of ticks -/

@[simp] theorem State.lapse_settings : s.lapse.settings = s.settings := by
  obtain ⟨a, b, rx, n, h, -⟩ := s.lapse_eq
  rw [h]
  rfl

theorem State.runTicks_reaches (n : Nat) : s.Reaches (s.runTicks n) := by
  cases n with
  | zero => rfl
  | succ m =>
    refine .of_move (.ticks _ _ ⟨(m + 1) * s.tickUnits, rfl⟩) ?_
    rw [State.runTicks_succ, State.lapse_settings]
    rfl

variable {s} in
theorem State.reach_reaches {t : State} {i : Time} (h : s.reach i = some t) : s.Reaches t := by
  obtain ⟨n, rfl⟩ := s.reach_eq h
  exact s.runTicks_reaches n

variable {s} in
theorem State.reachElapsed_reaches {t : State} {a b : Nat} (h : s.reachElapsed a b = some t) : s.Reaches t := by
  obtain ⟨n, rfl⟩ := s.reachElapsed_eq h
  exact s.runTicks_reaches n

variable {s} in
theorem State.reachTick_reaches {t : State} {n : Nat} (h : s.reachTick n = some t) : s.Reaches t := by
  obtain ⟨k, rfl⟩ := s.reachTick_eq h
  exact s.runTicks_reaches k

variable {s} in
theorem State.freeTick_reaches {t : State} {b : Bool} (h : s.freeTick b = some t) : s.Reaches t := by
  obtain ⟨k, rfl⟩ := s.freeTick_eq h
  exact s.runTicks_reaches k

/-! ### Notices, markers, samples -/

@[simp] theorem State.handOut_settings : s.handOut.settings = s.settings := by
  obtain ⟨n, m, h⟩ := s.handOut_eq
  simp [h]

@[simp] theorem State.raiseNotice_settings (p : Place) (v : NoticeValue) :
    (s.raiseNotice p v).settings = s.settings := by
  obtain ⟨n, m, h⟩ := s.raiseNotice_eq p v
  simp [h]

@[simp] theorem State.raises_settings (xs : List Raise) : (xs.foldl State.raiseOne s).settings = s.settings := by
  obtain ⟨b, n, m, h⟩ := s.raises_eq xs
  simp [h]

@[simp] theorem State.changeRecord_settings (p : Port) (r : RackRec) (c : RackCause) :
    (s.changeRecord p r c).settings = s.settings := by
  obtain ⟨b, n, m, h⟩ := s.changeRecord_eq p r c
  simp [h]

@[simp] theorem State.takeSample_settings (x : Sample) : (s.takeSample x).settings = s.settings := by
  obtain ⟨b, n, m, h⟩ := s.takeSample_eq x
  simp [h]

/-! ### The rack link -/

@[simp] theorem State.portFaulted_settings (p : Port) : (s.portFaulted p).settings = s.settings := by
  simp [State.portFaulted, PortRec.enter]

@[simp] theorem PortRec.miss_initComp (r : PortRec) : r.miss.initComp = r.initComp := by
  simp [PortRec.miss]

@[simp] theorem State.missEcho_settings (p : Port) : (s.missEcho p).settings = s.settings := by
  unfold State.missEcho
  split <;> simp

@[simp] theorem State.closeForDeparture_settings (p : Port) (b : Bool) :
    (s.closeForDeparture p b).settings = s.settings := by
  rcases s.closeForDeparture_cases p b with ⟨-, h⟩ | ⟨-, -, h⟩ | ⟨-, -, h⟩ <;> simp [h]

@[simp] theorem State.noteOvertaken_settings (p : Port) (b : Bool) (t : State) :
    (s.noteOvertaken p b t).settings = t.settings := by
  unfold State.noteOvertaken
  split <;> simp

@[simp] theorem State.departPort_initComp (p : Port) (sec : RowSec) (k : Nat) (left : Time) :
    (s.departPort p sec k left).initComp = (s.port p).initComp := by
  simp [State.departPort]

@[simp] theorem State.depart_settings (p : Port) (sec : RowSec) (k : Nat) (left : Time) (b : Bool) :
    (s.depart p sec k left b).settings = s.settings := by
  simp [State.depart]

@[simp] theorem PortRec.modeFirst_initComp (r : PortRec) : r.modeFirst.initComp = r.initComp := by
  unfold PortRec.modeFirst
  split <;> rfl

@[simp] theorem PortRec.modeLast_initComp (r : PortRec) : r.modeLast.initComp = r.initComp := by
  unfold PortRec.modeLast
  split <;> rfl

@[simp] theorem modeWork_initComp (r : PortRec) (k n : Nat) (b : Bool) : (modeWork r k n b).initComp = r.initComp := by
  unfold modeWork
  split <;> split <;> simp

@[simp] theorem State.cycleWork_settings (p : Port) (sec : RowSec) (k : Nat) (left : Time) (early b : Bool) :
    (s.cycleWork p sec k left early b).settings = s.settings := by
  unfold State.cycleWork
  simp only
  split <;> simp

@[simp] theorem State.frameOver_settings (p : Port) (rx : RackRx) : (s.frameOver p rx).settings = s.settings := by
  simp [State.frameOver]

@[simp] theorem State.closeFrame_settings (p : Port) : (s.closeFrame p).settings = s.settings := by
  unfold State.closeFrame
  split
  · rfl
  · split <;> simp

@[simp] theorem PortRec.takeCall_initComp (r : PortRec) : r.takeCall.initComp = r.initComp := by
  unfold PortRec.takeCall
  split <;> rfl

@[simp] theorem State.rejectFrame_settings (p : Port) (c : RackCheck) : (s.rejectFrame p c).settings = s.settings := by
  simp [State.rejectFrame]

@[simp] theorem State.receiveCall_settings (p : Port) : (s.receiveCall p).settings = s.settings := by
  unfold State.receiveCall
  simp only
  split
  · simp
  · split
    · simp
    · split <;> simp

@[simp] theorem State.portUp_settings (p : Port) : (s.portUp p).settings = s.settings := by
  unfold State.portUp
  split <;> simp [PortRec.enter]

/-- A valid ECHO handed on keeps the settings where the port it is handed on with keeps the initial compensation. -/
theorem State.handOn_settings (p : Port) (r : PortRec) (x : Exchange) (e : Echo) (a : Time)
    (h : r.initComp = (s.port p).initComp) : (s.handOn p r x e a).settings = s.settings := by
  simp [State.handOn, h]

@[simp] theorem State.lateEcho_settings (p : Port) : (s.lateEcho p).settings = s.settings := by
  simp [State.lateEcho]

@[simp] theorem State.validEcho_settings (p : Port) (x : Exchange) (e : Echo) (a : Time) :
    (s.validEcho p x e a).settings = s.settings := s.handOn_settings p _ x e a rfl

@[simp] theorem State.receiveEcho_settings (p : Port) (e : Echo) (ago : Nat) :
    (s.receiveEcho p e ago).settings = s.settings := by
  unfold State.receiveEcho
  simp only
  split
  · simp
  · split
    · rfl
    · split
      · simp
      · split <;> simp

@[simp] theorem State.overtakenEcho_settings (p : Port) (x : Option Exchange) (e : Echo) (ago : Nat) :
    (s.overtakenEcho p x e ago).settings = s.settings := by
  unfold State.overtakenEcho
  split
  · simp
  · split
    · rfl
    · split
      · simp
      · split
        · exact s.handOn_settings p _ _ e _ rfl
        · simp

@[simp] theorem State.takeOvertaken_settings (p : Port) (x : Option Exchange) (v : RackVerdict) (ago : Nat) :
    (s.takeOvertaken p x v ago).settings = s.settings := by
  cases v <;> simp [State.takeOvertaken]

@[simp] theorem State.frameEnd_settings (p : Port) (v : RackVerdict) (ago : Nat) :
    (s.frameEnd p v ago).settings = s.settings := by
  rcases s.frameEnd_cases p v ago with ⟨-, h⟩ | ⟨-, -, h⟩ | ⟨x, -, -, h⟩
  · cases v <;> simp [h]
  · rw [h]
  · simp [h]

/-! ### Emissions, lines and strobes -/

@[simp] theorem State.emit_settings (p : Port) (a : Action) (i : Time) (sec : RowSec) :
    (s.emit p a i sec).settings = s.settings := by
  unfold State.emit
  split
  · rfl
  · simp
    rfl

@[simp] theorem State.sampleLine_settings (l : Line) (b : Bool) : (s.sampleLine l b).settings = s.settings := by
  unfold State.sampleLine
  split <;> simp

@[simp] theorem State.strobe_settings (src : StrobeSource) : (s.strobe src).settings = s.settings := by
  unfold State.strobe
  split <;> simp

@[simp] theorem State.sampleHstb_settings (b : Bool) : (s.sampleHstb b).settings = s.settings := by
  unfold State.sampleHstb
  simp only
  split <;> simp

@[simp] theorem State.sampleTod_settings (i : Input) (x : SerialLine) : (s.sampleTod i x).settings = s.settings := by
  simp [State.sampleTod]

@[simp] theorem State.gapTimeout_settings (i : Input) : (s.gapTimeout i).settings = s.settings := by
  rcases s.gapTimeout_cases i with h | ⟨-, h⟩ <;> simp [h]

@[simp] theorem State.linkTimeout_settings : s.linkTimeout.settings = s.settings := by
  rcases s.linkTimeout_cases with h | ⟨-, h⟩ <;> simp [h]

@[simp] theorem State.badByte_settings : s.badByte.settings = s.settings := by
  unfold State.badByte
  split <;> simp

/-! ### The stamp queue -/

@[simp] theorem State.countLoss_settings : s.countLoss.settings = s.settings := by
  unfold State.countLoss
  simp only
  split <;> simp

@[simp] theorem State.discardHead_settings : s.discardHead.settings = s.settings := by
  simp [State.discardHead]

@[simp] theorem State.discardHeads_settings (n : Nat) : (s.discardHeads n).settings = s.settings := by
  induction n generalizing s with
  | zero => rfl
  | succ n ih => simp [State.discardHeads, ih]

@[simp] theorem State.checkLevel_settings (n : Nat) : (s.checkLevel n).settings = s.settings := by
  unfold State.checkLevel
  split <;> simp

@[simp] theorem State.joinMarker_settings : s.joinMarker.settings = s.settings := by
  unfold State.joinMarker
  split <;> simp

@[simp] theorem State.joinGap_settings : s.joinGap.settings = s.settings := by
  unfold State.joinGap
  split <;> simp

@[simp] theorem State.releaseSource_settings (x : Source) : (s.releaseSource x).settings = s.settings := by
  cases x <;> simp [State.releaseSource]

@[simp] theorem State.refuseLine_settings (l : Line) : (s.refuseLine l).settings = s.settings := by
  simp [State.refuseLine]

@[simp] theorem State.serveSource_settings (i : Fin 24) (h : Hdr) (b : Body) :
    (s.serveSource i h b).settings = s.settings := by
  unfold State.serveSource
  simp only
  split
  · simp
  · split
    · simp
    · split <;> simp

variable {s} in
theorem State.arbiter_settings {t : State} (h : s.arbiter = some t) : t.settings = s.settings := by
  unfold State.arbiter at h
  split at h
  · cases h
    simp
  · split at h
    · cases h
      simp
    · split at h
      · cases h
      · split at h
        · cases h
        · cases h
          simp

/-! ### The drift monitor's boundary work -/

/-- What every port's share of a work leaves alone, the whole work leaves alone. -/
theorem overPorts_settings {f : Port → State → State} (h : ∀ (p : Port) (s : State), (f p s).settings = s.settings)
    (s : State) : (overPorts f s).settings = s.settings :=
  overPorts_keeps (P := fun t => t.settings = s.settings) f (fun p _ ht => (h p _).trans ht) s rfl

@[simp] theorem State.holdRecords_settings (b : Bool) : (s.holdRecords b).settings = s.settings :=
  overPorts_settings (fun p t => t.setRack_settings p _) s

@[simp] theorem State.stepHolds_settings (a b : Bool) : (s.stepHolds a b).settings = s.settings := by
  unfold State.stepHolds
  split <;> simp

@[simp] theorem drmPort_settings (p : Port) : (drmPort p s).settings = s.settings := by
  unfold drmPort
  simp only
  split <;> simp

@[simp] theorem State.takeSpread_settings (sec : RowSec) : (s.takeSpread sec).settings = s.settings := by
  unfold State.takeSpread
  simp only
  split <;> simp

@[simp] theorem State.drmBoundary_settings (sec : RowSec) : (s.drmBoundary sec).settings = s.settings := by
  unfold State.drmBoundary
  rw [State.takeSpread_settings, overPorts_settings (fun p t => drmPort_settings t p),
    overPorts_settings (fun p t => t.setRack_settings p _)]

end Operations
end Sys2Proof.Machine
end

section
/-! PROOFS. What the boundary, the requests and every command do to the settings. -/
namespace Sys2Proof.Machine

section Boundary

variable (s : State)

/-! ### The roll -/

theorem State.timeWork_reaches (sec : RowSec) : s.Reaches (s.timeWork sec).1 := by
  refine .of_move (.boundary _ (s.ref.boundary s.tsu.gen s.clk.elapsed sec).2.2) ?_
  unfold State.timeWork
  simp only
  split <;> rfl

@[simp] theorem rleEarly_settings (sec : RowSec) (n : Nat) (st : Bool) (rec : BitVec 16) (p : Port) :
    (rleEarly sec n st rec p s).settings = s.settings := by
  unfold rleEarly
  simp only
  split
  · rfl
  · split <;> simp

@[simp] theorem rleRoll_settings (sec : RowSec) (c : Port → Nat) (b : Bool) (rec : BitVec 16) (p : Port) :
    (rleRoll sec c b rec p s).settings = s.settings := by
  unfold rleRoll
  split
  · split <;> simp
  · split
    · have h : ∀ r : PortRec, (if s.rle.cycle.divisor = 1 then r.modeLast else r).initComp = r.initComp := by
        intro r
        split <;> simp
      have k : (if c p = 0 then (s.port p).modeFirst else s.port p).initComp = (s.port p).initComp := by
        split <;> simp
      simp [h, k]
    · split
      · simp
      · split <;> simp

@[simp] theorem passSecond_initComp (b v : Time) (n c : Nat) (r : PortRec) (sec : RowSec) :
    (passSecond b v n c r sec).initComp = r.initComp := by
  unfold passSecond
  simp only
  split <;> split <;> simp

@[simp] theorem passModes_settings (b v : Time) (p : Port) : (passModes b v p s).settings = s.settings := by
  unfold passModes
  split
  · rfl
  · simp

@[simp] theorem landAgain_settings (sec : RowSec) (p : Port) : (landAgain sec p s).settings = s.settings := by
  obtain ⟨xs, h⟩ := landAgain_eq s sec p
  simp [h]

@[simp] theorem rleSeconds_settings (p : Port) : (rleSeconds p s).settings = s.settings := by
  simp [rleSeconds]

/-- A compensation target is D limited to 20,000 ns, or the initial compensation (03 R53). -/
theorem compTarget_le (r : RackRec) (c : Nat) : (compTarget r c).ns ≤ 20000 ∨ (compTarget r c).ns = c := by
  unfold compTarget clamp
  split
  · refine .inl ?_
    simp only
    split
    · omega
    · split <;> omega
  · exact .inr rfl

theorem edsPortBoundary_reaches (old : Eds) (k : EdgeTick) (p : Port) : s.Reaches (edsPortBoundary old k p s) := by
  unfold edsPortBoundary
  split
  · exact .of_eq rfl
  · rename_i h
    refine .of_move (.moveComp _ p s.eds.compStep (compTarget (s.rack p) (s.port p).initComp).ns ?_) ?_
    · rw [State.settings_initComp]
      exact compTarget_le _ _
    · have e : s.movedComp p = moveToward s.eds.compStep (s.comp p) (compTarget (s.rack p) (s.port p).initComp).ns :=
        if_neg h
      simp only [e]
      split <;> rfl

@[simp] theorem edsTicks_settings (old : Eds) (k : EdgeTick) : (edsTicks old k s).settings = s.settings := by
  unfold edsTicks
  generalize allEntries = xs
  induction xs generalizing s with
  | nil => rfl
  | cons x xs ih =>
    rw [List.foldl_cons, ih]
    simp only
    split <;> simp

theorem State.edsBoundary_reaches (sec : RowSec) (n : Nat) (q st : Bool) : s.Reaches (s.edsBoundary sec n q st) := by
  have h : (s.setEds (s.eds.activate sec)).settings = s.settings := by
    unfold Eds.activate
    split <;> rfl
  unfold State.edsBoundary
  simp only
  exact (State.Reaches.eq_trans h (.overPorts (fun p t => edsPortBoundary_reaches t _ _ p) _)).trans_eq
    (edsTicks_settings _ _ _)

theorem State.applyCycle_reaches : s.Reaches (s.setRle s.rle.applyCycle) := by
  refine .of_move (.applyCycle _) ?_
  unfold Rle.applyCycle
  split <;> rename_i h <;> simp [State.settings, h]

/-- The ports' boundary work up to the move of the compensations: the divisor, and what was early in the second that ended. -/
def State.earlyWork (s : State) (sec : RowSec) (fromNs : Nat) (receiving : BitVec 16) : State :=
  overPorts (rleEarly sec fromNs s.rle.staged.isSome receiving) (s.setRle s.rle.applyCycle)

/-- The ports' boundary work up to cycle 0 of the second that begins. -/
def State.cycleZeroWork (s : State) (sec : RowSec) (fromNs : Nat) (quietBefore stepped : Bool) (receiving : BitVec 16) :
    State :=
  overPorts (rleRoll sec (s.earlyWork sec fromNs receiving).comp s.rle.staged.isSome receiving)
    ((s.earlyWork sec fromNs receiving).edsBoundary sec fromNs quietBefore stepped)

/-- What a step from `b` does to the instants it moves over. -/
def State.movedOver (s : State) (sec : RowSec) (b : Time) (stepped : Bool) : State :=
  if stepped && 0 < s.now.diff b then overPorts (passModes b s.now) s
  else if stepped && s.now.diff b < 0 then overPorts (landAgain sec) s
  else s

theorem State.portsWork_eq (sec : RowSec) (b : Time) (n : Nat) (q st : Bool) (rec : BitVec 16) :
    s.portsWork sec b n q st rec = overPorts rleSeconds ((s.cycleZeroWork sec n q st rec).movedOver sec b st) := rfl

@[simp] theorem State.movedOver_settings (sec : RowSec) (b : Time) (st : Bool) :
    (s.movedOver sec b st).settings = s.settings := by
  unfold State.movedOver
  split
  · exact overPorts_settings (fun p t => passModes_settings t _ _ p) _
  · split
    · exact overPorts_settings (fun p t => landAgain_settings t _ p) _
    · rfl

theorem State.earlyWork_reaches (sec : RowSec) (n : Nat) (rec : BitVec 16) : s.Reaches (s.earlyWork sec n rec) :=
  s.applyCycle_reaches.trans_eq (overPorts_settings (fun p t => rleEarly_settings t _ _ _ _ p) _)

theorem State.cycleZeroWork_reaches (sec : RowSec) (n : Nat) (q st : Bool) (rec : BitVec 16) :
    s.Reaches (s.cycleZeroWork sec n q st rec) :=
  ((s.earlyWork_reaches sec n rec).trans (State.edsBoundary_reaches _ sec n q st)).trans_eq
    (overPorts_settings (fun p t => rleRoll_settings t _ _ _ _ p) _)

theorem State.portsWork_reaches (sec : RowSec) (b : Time) (n : Nat) (q st : Bool) (rec : BitVec 16) :
    s.Reaches (s.portsWork sec b n q st rec) := by
  rw [State.portsWork_eq]
  refine (s.cycleZeroWork_reaches sec n q st rec).trans_eq ?_
  rw [overPorts_settings (fun p t => rleSeconds_settings t p), State.movedOver_settings]

/-- REF's and TSU's work of a boundary, what they raise, and DRM's share of a step. -/
def State.raisedWork (s : State) (sec : RowSec) (drmFirst : Bool) : State :=
  let t := (s.timeWork sec).2.foldl State.raiseOne (s.timeWork sec).1
  let stepped := (s.timeWork sec).1.tsu.gen != s.tsu.gen
  if drmFirst then (t.drmBoundary sec).stepHolds stepped false else t.stepHolds stepped true

theorem State.boundaryWork_eq (sec : RowSec) (d : Bool) (rec : BitVec 16) :
    s.boundaryWork sec d rec =
      (let v := (s.raisedWork sec d).portsWork sec s.now s.clk.tickFrom.ns s.tsu.quiet
        ((s.timeWork sec).1.tsu.gen != s.tsu.gen) rec
      if d then v else v.drmBoundary sec) := rfl

@[simp] theorem State.raisedWork_settings (sec : RowSec) (d : Bool) :
    (s.raisedWork sec d).settings = (s.timeWork sec).1.settings := by
  cases d <;> simp [State.raisedWork]

theorem State.boundaryWork_reaches (sec : RowSec) (d : Bool) (rec : BitVec 16) : s.Reaches (s.boundaryWork sec d rec) := by
  have h := (((s.timeWork_reaches sec).trans_eq (s.raisedWork_settings sec d)).trans (State.portsWork_reaches _ sec s.now
    s.clk.tickFrom.ns s.tsu.quiet ((s.timeWork sec).1.tsu.gen != s.tsu.gen) rec))
  rw [State.boundaryWork_eq]
  cases d
  · rw [if_neg Bool.false_ne_true]
    exact h.trans_eq (State.drmBoundary_settings _ sec)
  · rw [if_pos rfl]
    exact h

/-- The state at a roll, with the second that it begins noted. -/
def State.atRoll (s : State) : State := s.setClk { s.clk with rolled := some s.tsu.ts.sec }

/-- The mark cleared. -/
def State.clearMark (s : State) : State := s.setTsu { s.tsu with mark := none }

/-- A roll into the marked second does the early mode work and clears the mark. -/
theorem State.rollWork_of_marked (d : Bool) (rec : BitVec 16) (h : s.tsu.mark = some s.tsu.ts.sec) :
    s.rollWork d rec = (overPorts (rleEarly s.tsu.ts.sec s.clk.tickFrom.ns false rec) s.atRoll).clearMark := by
  simp only [State.rollWork, State.atRoll, State.clearMark, State.setClk_tsu, State.setClk_clk, h, if_true]

/-- Any other roll is a second boundary. -/
theorem State.rollWork_of_unmarked (d : Bool) (rec : BitVec 16) (h : s.tsu.mark ≠ some s.tsu.ts.sec) :
    s.rollWork d rec = s.atRoll.boundaryWork s.tsu.ts.sec d rec := by
  unfold State.rollWork
  exact if_neg h

@[simp] theorem State.atRoll_settings : s.atRoll.settings = s.settings := rfl

theorem State.clearMark_reaches : s.Reaches s.clearMark := .of_move (.clearMark _) rfl

theorem State.rollWork_reaches (d : Bool) (rec : BitVec 16) : s.Reaches (s.rollWork d rec) := by
  by_cases h : s.tsu.mark = some s.tsu.ts.sec
  · rw [s.rollWork_of_marked d rec h]
    refine .trans (.of_eq ?_) (State.clearMark_reaches _)
    rw [overPorts_settings (fun p t => rleEarly_settings t _ _ false rec p), State.atRoll_settings]
  · rw [s.rollWork_of_unmarked d rec h]
    exact .eq_trans s.atRoll_settings (State.boundaryWork_reaches _ _ d rec)

theorem State.roll_reaches (d : Bool) (rec : BitVec 16) : s.Reaches (s.roll d rec) :=
  (s.runTicks_reaches _).trans (State.rollWork_reaches _ d rec)

end Boundary
end Sys2Proof.Machine
end

section
/-! PROOFS. What the requests and every command do to the settings. -/
namespace Sys2Proof.Machine

section Requests

variable (s : State) (r : Req)

/-! ### The requests that leave the settings alone -/

@[simp] theorem actLatch_settings : (actLatch r s).state.settings = s.settings := by
  unfold actLatch
  simp only
  split <;> simp

@[simp] theorem actReadLines_settings : (actReadLines r s).state.settings = s.settings := by
  have h : s.clearLines.settings = s.settings := by
    unfold State.clearLines
    generalize allLines = ls
    induction ls generalizing s with
    | nil => rfl
    | cons l ls ih => rw [List.foldl_cons, ih, State.setLine_settings]
  unfold actReadLines
  simp only
  split
  · simp only
    split
    · exact h
    · rfl
  · split
    · simp only
      split <;> simp
    · rfl
  · rfl

@[simp] theorem actSetLine_settings : (actSetLine r s).state.settings = s.settings := by
  unfold actSetLine
  simp only
  split
  · split
    · rfl
    · split
      · rfl
      · simp
  · rfl

@[simp] theorem actSetReference_settings : (actSetReference r s).state.settings = s.settings := by
  unfold actSetReference
  simp only
  split
  · rename_i i pr _ _
    cases i <;> rfl
  · rfl
  · rfl

@[simp] theorem actReadReference_settings : (actReadReference r s).state.settings = s.settings := by
  unfold actReadReference
  simp only
  split <;> rfl

@[simp] theorem actReadSchedule_settings : (actReadSchedule r s).state.settings = s.settings := by
  unfold actReadSchedule
  simp only
  split
  · rfl
  · split <;> rfl
  · split <;> rfl
  · rfl

@[simp] theorem actScheduleEdit_settings : (actScheduleEdit r s).state.settings = s.settings := by
  unfold actScheduleEdit
  simp only
  split
  · split <;> rfl
  · rfl

@[simp] theorem actScheduleCommit_settings : (actScheduleCommit r s).state.settings = s.settings := by
  unfold actScheduleCommit
  split <;> rfl

@[simp] theorem actReadPort_settings : (actReadPort r s).state.settings = s.settings := by
  unfold actReadPort
  simp only
  split
  · simp only
    split <;> simp
  · rfl

@[simp] theorem actReadRack_settings : (actReadRack r s).state.settings = s.settings := by
  unfold actReadRack
  simp only
  split
  · simp only
    split <;> simp
  · rfl

@[simp] theorem actSetQueue_settings : (actSetQueue r s).state.settings = s.settings := by
  unfold actSetQueue
  simp only
  split <;> rfl

@[simp] theorem actStatus_settings : (actStatus r s).state.settings = s.settings := by
  unfold actStatus
  simp only
  split <;> rfl

@[simp] theorem actSetNotices_settings : (actSetNotices r s).state.settings = s.settings := by
  simp [actSetNotices]

/-! ### The requests that change them -/

theorem clampNat_le (lo hi v : Nat) (h : lo ≤ hi) : lo ≤ clampNat lo hi v ∧ clampNat lo hi v ≤ hi := by
  unfold clampNat
  split
  · omega
  · split <;> omega

theorem State.enablePort_reaches (p : Port) (m : Mode) : s.Reaches (s.enablePort p m) := by
  refine .of_move (.enable _ p) ?_
  rw [State.settings_initComp]
  simp [State.enablePort, PortRec.enter]
  rfl

@[simp] theorem State.disablePort_settings (p : Port) : (s.disablePort p).settings = s.settings := by
  simp [State.disablePort, PortRec.enter]
  rfl

theorem State.applyPort_reaches (p : Port) (enable : Bool) (m : Mode) : s.Reaches (s.applyPort p enable m) := by
  unfold State.applyPort
  split
  · split
    · exact s.enablePort_reaches p m
    · exact .of_eq (by simp)
  · split <;> exact .of_eq (by simp)

theorem actSetPort_reaches : s.Reaches (actSetPort r s).state := by
  unfold actSetPort
  simp only
  split
  · split
    · rfl
    · refine State.Reaches.trans ?_ (State.applyPort_reaches _ _ _ _)
      exact .of_move (.setInitComp _ _ _ (clampNat_le 0 20000 _ (by omega)).2) (State.setPort_settings ..)
  · rfl

theorem actSetCycle_reaches : s.Reaches (actSetCycle r s).state := by
  unfold actSetCycle
  simp only
  split
  · rfl
  · rename_i h
    have hd : validDivisor (CycleReq.read r.payload).divisor = true := by simpa using h
    exact .of_move (.stageCycle _ ⟨(CycleReq.read r.payload).divisor, _⟩ (List.contains_iff_mem.mp hd)) rfl

theorem actSetTime_reaches : s.Reaches (actSetTime r s).state := by
  unfold actSetTime
  split
  · rfl
  · rename_i h
    exact .of_move (.setTime _ _ (Bool.eq_false_iff.mpr h)) rfl

theorem actAdjust_reaches : s.Reaches (actAdjust r s).state := by
  unfold actAdjust
  simp only
  split
  · rfl
  · split
    · rfl
    · rename_i h
      exact .of_move (.adjust _ _ (Bool.eq_false_iff.mpr h) rfl) rfl

theorem actSetLeap_reaches : s.Reaches (actSetLeap r s).state := by
  unfold actSetLeap
  simp only
  split
  · rfl
  · split
    · rfl
    · exact .of_move (.setLeap _ _ _) rfl

theorem actSetLoop_reaches : s.Reaches (actSetLoop r s).state := by
  unfold actSetLoop
  simp only
  split
  · rfl
  · exact .of_move (.setLoop _ _ _) rfl

/-! ### Restart and resets -/

theorem State.restart_reaches : s.Reaches s.restart := by
  refine .of_move (.restart _) ?_
  unfold State.restart
  rw [State.raises_settings]
  simp [State.settings, State.restarted, Settings.initial, Ref.initial, Eds.initial, Rle.initial, PortRec.initial]

@[simp] theorem State.initial_settings (c : ResetCause) (st : Straps) (q : List Instr) :
    (State.initial c st q).settings = Settings.initial := by
  simp [State.settings, State.initial, Settings.initial, Ref.initial, Eds.initial, Rle.initial, PortRec.initial]

theorem actRestart_reaches : s.Reaches (actRestart r s).state := by
  unfold actRestart
  split
  · exact s.restart_reaches
  · exact .of_eq rfl

/-! ### Serving a request -/

/-- Every act of the catalogue is a run of moves. -/
theorem catalogue_reaches {n : Nat} {k : ReqKind} {act : Req → State → Served} (h : catalogue n = some (k, act)) :
    s.Reaches (act r s).state := by
  unfold catalogue at h
  split at h <;> cases h
  case h_1 => rfl
  case h_2 => exact .of_eq (actStatus_settings s r)
  case h_3 => exact actRestart_reaches s r
  case h_4 => rfl
  case h_5 => exact .of_eq (actLatch_settings s r)
  case h_6 => exact .of_eq rfl
  case h_7 => exact actSetTime_reaches s r
  case h_8 => exact actAdjust_reaches s r
  case h_9 => exact actSetLeap_reaches s r
  case h_10 => rfl
  case h_11 => exact .of_eq (actSetReference_settings s r)
  case h_12 => exact .of_eq (actReadReference_settings s r)
  case h_13 => exact actSetLoop_reaches s r
  case h_14 => exact .of_eq (actScheduleEdit_settings s r)
  case h_15 => exact .of_eq (actScheduleCommit_settings s r)
  case h_16 => exact .of_eq rfl
  case h_17 => exact .of_eq (actReadSchedule_settings s r)
  case h_18 => exact actSetCycle_reaches s r
  case h_19 => exact actSetPort_reaches s r
  case h_20 => exact .of_eq (actReadPort_settings s r)
  case h_21 => exact .of_eq rfl
  case h_22 => exact .of_eq (actReadRack_settings s r)
  case h_23 => rfl
  case h_24 => exact .of_eq (actSetLine_settings s r)
  case h_25 => exact .of_eq (actReadLines_settings s r)
  case h_26 => exact .of_eq (actSetQueue_settings s r)
  case h_27 => exact .of_eq rfl
  case h_28 => exact .of_eq (actSetNotices_settings s r)
  case h_29 => exact .of_eq rfl

@[simp] theorem State.taken_settings : (s.taken r).settings = s.settings := by
  unfold State.taken
  split <;> simp

/-- A judged request leaves the settings that its block left, or, refused, those it found. -/
theorem State.conclude_reaches (kb : Byte) (x : Served) (h : s.Reaches x.state) : s.Reaches (s.conclude kb r x) := by
  have key : s.Reaches (if x.result.refuses then s.taken r else x.state) := by
    split
    · exact .of_eq (s.taken_settings r)
    · exact h
  refine key.trans_eq ?_
  unfold State.conclude
  simp only
  split <;> simp

theorem State.serve_reaches (k : ReqKind) (act : Req → State → Served)
    (h : ∀ s : State, s.Reaches (act r s).state) : s.Reaches (s.serve k r act) := by
  rcases s.serve_cases k r act with ⟨-, e⟩ | ⟨-, -, e⟩ | ⟨-, -, -, e⟩ | ⟨-, -, -, -, e⟩ | ⟨-, -, -, -, e⟩ <;> rw [e]
  · exact .of_eq rfl
  · exact .of_eq rfl
  · exact .of_eq rfl
  · refine .eq_trans (State.dropFrame_settings ..) (State.conclude_reaches _ r _ _ ?_)
    refine .eq_trans (State.taken_settings _ r) ?_
    split
    · exact h _
    · exact .refl _

@[simp] theorem State.serveUnknown_settings : (s.serveUnknown r).settings = s.settings := by
  unfold State.serveUnknown State.throughLink State.receive
  split
  · rfl
  · split
    · simp
    · simp only
      split
      · simp
      · simp only [Bool.false_and, Bool.false_eq_true, if_false]
        unfold State.conclude
        simp only [Served.refuse]
        split <;> simp [Result.refuses]

/-- A command that is the receipt of a request serves it as the catalogue says. -/
theorem exec_of_catalogue {c : Instr} {k : ReqKind} {r : Req} (h : requestOf c = some (k, r)) :
    ∃ act, catalogue k.code.toNat = some (k, act) ∧ ∀ s : State, exec c s = .next (s.serve k r act) := by
  cases c <;> simp [requestOf] at h <;> obtain ⟨rfl, rfl⟩ := h <;> exact ⟨_, rfl, fun _ => rfl⟩

end Requests
end Sys2Proof.Machine
end

section
/-! PROOFS. What every command does to the settings: a run of the moves of `Settings.Move`. -/
namespace Sys2Proof.Machine

section Commands

variable (s : State)

/-! ### The pins -/

theorem State.judgeFrame_reaches (bs : List Byte) : s.Reaches (s.judgeFrame bs) := by
  unfold State.judgeFrame
  split
  · exact .of_eq (by simp)
  · split
    · exact .of_eq (by simp)
    · simp only
      split
      · rename_i h
        exact s.serve_reaches _ _ _ (fun t => catalogue_reaches t _ h)
      · exact .of_eq (by simp)

theorem State.goodByte_reaches (b : Byte) : s.Reaches (s.goodByte b) := by
  unfold State.goodByte
  simp only
  split
  · split
    · exact .of_eq (by simp)
    · rfl
  · split
    · exact .of_eq (by simp)
    · split <;> exact .of_eq (by simp)
  · split
    · exact .of_eq (by simp)
    · exact s.judgeFrame_reaches _

theorem State.linkByte_reaches (b : SerialByte) : s.Reaches (s.linkByte b) := by
  unfold State.linkByte
  simp only
  split
  · exact .of_eq (by simp)
  · split
    · exact .eq_trans (s.setInByte_settings false) (State.goodByte_reaches _ _)
    · exact .of_eq (by simp)

theorem State.sampleLink_reaches (x : SerialLine) : s.Reaches (s.sampleLink x) := by
  have h : s.Reaches (match x.ended with | none => s | some b => s.linkByte b) := by
    split
    · rfl
    · exact s.linkByte_reaches _
  refine h.trans (.of_eq ?_)
  simp only [State.sampleLink]
  split
  · exact State.setInByte_settings _ _
  · rfl

theorem State.samplePins_reaches (x : Pins) : s.Reaches (s.samplePins x) := by
  have h : ∀ (ls : List Line) (t : State),
      (ls.foldl (fun s l => s.sampleLine l (x.lines.getLsbD l.val)) t).settings = t.settings := by
    intro ls
    induction ls with
    | nil => exact fun _ => rfl
    | cons l ls ih => exact fun t => (ih _).trans (t.sampleLine_settings l _)
  unfold State.samplePins
  refine .trans (.of_eq ?_) (State.sampleLink_reaches _ _)
  rw [State.sampleTod_settings, State.sampleTod_settings, State.sampleHstb_settings, h, State.note_settings]

/-! ### The commands -/

/-- What an outcome leads to, if a state, is reached from `s`. -/
def Leads (s : State) (o : Host.Outcome State Fault Refusal) : Prop := ∀ t, o = .next t → s.Reaches t

variable {s}

theorem Leads.next {t : State} (h : s.Reaches t) : Leads s (.next t) := by
  rintro u ⟨⟩
  exact h

theorem Leads.same {t : State} (h : t.settings = s.settings) : Leads s (.next t) := .next (.of_eq h)

variable (s)

theorem execPowerOn_leads (st : Straps) : Leads s (execPowerOn st s) :=
  .next (.of_move (.reset _) (State.initial_settings ..))

theorem execPinReset_leads : Leads s (execPinReset s) :=
  .next (.of_move (.reset _) (State.initial_settings .pin s.mlc.straps s.pending))

theorem execResetnRelease_leads (st : Straps) : Leads s (execResetnRelease st s) := by
  unfold execResetnRelease
  split
  · exact .next (.of_move (.reset _) (State.initial_settings ..))
  · exact .same rfl

theorem execSecondBoundary_leads (x : RollInputs) : Leads s (execSecondBoundary x s) := by
  unfold execSecondBoundary
  split
  · exact .same rfl
  · exact .next (s.roll_reaches _ _)

theorem execSuppressedRoll_leads : Leads s (execSuppressedRoll s) := by
  unfold execSuppressedRoll
  split
  · exact .same rfl
  · exact .next (s.roll_reaches _ _)

theorem execOscillatorTick_leads (n : Nat) (x : Pins) : Leads s (execOscillatorTick n x s) := by
  unfold execOscillatorTick
  split
  · exact .same rfl
  · split
    · exact .next ((s.runTicks_reaches _).trans (State.samplePins_reaches _ x))
    · exact .next ((s.roll_reaches _ _).trans (State.samplePins_reaches _ x))

theorem execCycleStart_leads (sec : RowSec) (k : Nat) : Leads s (execCycleStart sec k s) := by
  unfold execCycleStart
  simp only
  split
  · exact .same rfl
  · split
    · exact .same rfl
    · rename_i t ht
      have h : s.Reaches t := by
        split at ht
        · cases ht
          rfl
        · exact State.reach_reaches ht
      split
      · exact .same rfl
      · exact .next (h.trans (.of_move (.cycleStart _ _) rfl))

theorem execReferencePulse_leads (i : Input) : Leads s (execReferencePulse i s) := by
  unfold execReferencePulse
  simp only
  split
  · exact .same rfl
  · refine .same ?_
    split <;> simp

theorem execMessageArrival_leads (i : Input) (b : Vector Byte 18) : Leads s (execMessageArrival i b s) := by
  unfold execMessageArrival
  split <;> exact .same (by simp)

theorem execMessageFramingError_leads (i : Input) : Leads s (execMessageFramingError i s) := by
  unfold execMessageFramingError
  split <;> exact .same (by simp)

theorem execMessageGapTimeout_leads (i : Input) : Leads s (execMessageGapTimeout i s) := by
  unfold execMessageGapTimeout
  split
  · exact .same rfl
  · cases h : s.reachTick ((s.input i).lastTick + longestGap + 1) with
    | none => exact .same rfl
    | some t => exact .next ((State.reachTick_reaches h).trans_eq (t.gapTimeout_settings i))

section Expiries

/-! The two expiries that are matched on a latch or an observation first are taken apart with the wait for their instant a
variable: with `State.reachElapsed` itself there the kernel would evaluate its ticks. -/

variable (f : State → Nat → Nat → Option State) (hf : ∀ {s t : State} {a b : Nat}, f s a b = some t → s.Reaches t)

include hf in
theorem messageWindow_leads (i : Input) :
    Leads s (if s.mlc.held then .next s
      else match (s.input i).obs with
        | none => .next s
        | some o =>
          match f s o.stamp 600000000 with
          | none => .next s
          | some t => .next (t.setInput i (t.input i).closeOpen)) := by
  split
  · exact .same rfl
  · split
    · exact .same rfl
    · split
      · exact .same rfl
      · rename_i t ht
        exact .next ((hf ht).trans_eq (t.setInput_settings i _))

include hf in
theorem qualification_leads (l : Line) :
    Leads s (if s.mlc.held then .next s
      else match (s.line l).latch with
        | .qualifying c =>
          match f s c.stamp (s.line l).cfg.width with
          | none => .next s
          | some t => .next (t.setLine l ((t.line l).qualify c))
        | .empty => .next s
        | .held _ => .next s
        | .waitRelease => .next s) := by
  split
  · exact .same rfl
  · split
    · split
      · exact .same rfl
      · rename_i t ht
        exact .next ((hf ht).trans_eq (t.setLine_settings l _))
    · exact .same rfl
    · exact .same rfl
    · exact .same rfl

end Expiries

theorem execMessageWindowExpiry_leads (i : Input) : Leads s (execMessageWindowExpiry i s) :=
  messageWindow_leads s State.reachElapsed State.reachElapsed_reaches i

theorem execQualificationExpiry_leads (l : Line) : Leads s (execQualificationExpiry l s) :=
  qualification_leads s State.reachElapsed State.reachElapsed_reaches l

theorem execMissingPulseExpiry_leads (i : Input) : Leads s (execMissingPulseExpiry i s) := by
  unfold execMissingPulseExpiry
  split
  · exact .same rfl
  · split
    · exact .same rfl
    · split
      · split
        · exact .same rfl
        · rename_i t ht
          exact .next ((State.reachElapsed_reaches ht).trans_eq (t.setInput_settings i _))
      · exact .same rfl

theorem execEdgeEmission_leads (p : Port) (ix : EntryIx) (sec : RowSec) : Leads s (execEdgeEmission p ix sec s) := by
  unfold execEdgeEmission
  simp only
  split
  · exact .same rfl
  · split
    · exact .same rfl
    · rename_i t ht
      split
      · exact .same rfl
      · exact .next ((State.reach_reaches ht).trans_eq (by simp))

theorem execTickEmission_leads (ix : EntryIx) (sec : RowSec) : Leads s (execTickEmission ix sec s) := by
  unfold execTickEmission
  simp only
  split
  · exact .same rfl
  · split
    · exact .same rfl
    · rename_i t ht
      split
      · exact .same rfl
      · exact .next ((State.reach_reaches ht).trans_eq (by simp))

theorem execCycleCompensatedInstant_leads (p : Port) (sec : RowSec) (k : Nat) (b : Bool) :
    Leads s (execCycleCompensatedInstant p sec k b s) := by
  unfold execCycleCompensatedInstant
  simp only
  split
  · exact .same rfl
  · split
    · exact .same rfl
    · rename_i t ht
      have h : s.Reaches t := by
        split at ht
        · cases ht
          rfl
        · exact State.reach_reaches ht
      split
      · exact .same rfl
      · exact .next (h.trans_eq (by simp))

theorem execEchoReceived_leads (p : Port) (f : List Byte) (n : Nat) : Leads s (execEchoReceived p f n s) := by
  unfold execEchoReceived
  split <;> exact .same (by simp)

theorem execCallReceived_leads (p : Port) : Leads s (execCallReceived p s) := by
  unfold execCallReceived
  split <;> exact .same (by simp)

theorem execRackFrameRejected_leads (p : Port) (c : RackCheck) : Leads s (execRackFrameRejected p c s) := by
  unfold execRackFrameRejected
  split <;> exact .same (by simp)

theorem execReplyWindowExpiry_leads (p : Port) (b : Bool) : Leads s (execReplyWindowExpiry p b s) := by
  unfold execReplyWindowExpiry
  split
  · exact .same rfl
  · split
    · exact .same rfl
    · split
      · exact .same rfl
      · split
        · exact .same rfl
        · rename_i t ht
          split <;> exact .next ((State.reachElapsed_reaches ht).trans_eq (by simp))

theorem execRackReceiverReopen_leads (p : Port) : Leads s (execRackReceiverReopen p s) := by
  unfold execRackReceiverReopen
  simp only
  split
  · exact .same rfl
  · split <;> exact .same (by simp)

theorem execLineEdge_leads (l : Line) (b : Bool) : Leads s (execLineEdge l b s) := by
  unfold execLineEdge
  split
  · exact .same rfl
  · split
    · exact .same rfl
    · rename_i t ht
      exact .next ((State.freeTick_reaches ht).trans_eq (by simp))

variable {s} in
theorem State.hstbLow_reaches {t : State} (h : s.hstbLow = some t) : s.Reaches t := by
  unfold State.hstbLow at h
  split at h
  · cases h
    rfl
  · obtain ⟨u, hu, rfl⟩ := Option.map_eq_some_iff.mp h
    exact (State.freeTick_reaches hu).trans_eq (u.sampleHstb_settings false)

theorem execStrobeEdge_leads : Leads s (execStrobeEdge s) := by
  unfold execStrobeEdge
  split
  · exact .same rfl
  · split
    · exact .same rfl
    · rename_i t ht
      obtain ⟨u, hu, hv⟩ := Option.bind_eq_some_iff.mp ht
      exact .next (((State.hstbLow_reaches hu).trans (State.freeTick_reaches hv)).trans_eq (t.sampleHstb_settings true))

theorem execAdmission_leads : Leads s (execAdmission s) := by
  unfold execAdmission
  split
  · exact .same rfl
  · split
    · exact .same rfl
    · rename_i t ht
      have h : s.Reaches t := State.freeTick_reaches ht
      split
      · exact .next h
      · rename_i u hu
        exact .next (h.trans_eq ((u.note_settings .arbiter).trans (State.arbiter_settings hu)))

theorem execLinkFramingError_leads : Leads s (execLinkFramingError s) := by
  unfold execLinkFramingError
  split <;> exact .same (by simp)

theorem execLengthError_leads : Leads s (execLengthError s) := by
  unfold execLengthError
  split <;> exact .same rfl

theorem execInterByteTimeout_leads : Leads s (execInterByteTimeout s) := by
  unfold execInterByteTimeout
  split
  · exact .same rfl
  · cases h : s.reachTick (s.mlc.rx.lastTick + longestGap + 1) with
    | none => exact .same rfl
    | some t => exact .next ((State.reachTick_reaches h).trans_eq t.linkTimeout_settings)

theorem execCrcError_leads : Leads s (execCrcError s) := by
  unfold execCrcError
  split <;> exact .same rfl

theorem execOtherFrame_leads : Leads s (execOtherFrame s) := by
  unfold execOtherFrame
  split <;> exact .same rfl

theorem execBusyDiscard_leads : Leads s (execBusyDiscard s) := by
  unfold execBusyDiscard
  split <;> exact .same rfl

theorem execBroadcastQuery_leads : Leads s (execBroadcastQuery s) := by
  unfold execBroadcastQuery
  split
  · exact .same rfl
  · split <;> exact .same rfl

theorem execReplyStart_leads : Leads s (execReplyStart s) := by
  unfold execReplyStart
  split
  · split <;> exact .same rfl
  · exact .same rfl
  · exact .same rfl
  · exact .same rfl
  · exact .same rfl

@[simp] theorem State.freeTransmitter_settings : s.freeTransmitter.settings = s.settings := by
  simp [State.freeTransmitter]

theorem execReplyCompletion_leads : Leads s (execReplyCompletion s) := by
  unfold execReplyCompletion
  simp only
  split
  · exact .same rfl
  · refine .next (.eq_trans (s.setMlc_settings s.mlc.closeService) ?_)
    split
    · exact (State.restart_reaches _).trans_eq (State.freeTransmitter_settings _)
    · exact .of_eq (State.freeTransmitter_settings _)

theorem execNoticeCompletion_leads : Leads s (execNoticeCompletion s) := by
  unfold execNoticeCompletion
  simp only
  split
  · exact .same rfl
  · split <;> exact .same (by simp)

theorem execLinkDeDeassert_leads : Leads s (execLinkDeDeassert s) := by
  unfold execLinkDeDeassert
  split <;> exact .same rfl

/-- Every command leads to a state whose settings come from the present ones by moves. -/
theorem exec_leads (c : Instr) : Leads s (exec c s) := by
  cases h : requestOf c with
  | some x =>
    obtain ⟨act, ha, he⟩ := exec_of_catalogue (k := x.1) (r := x.2) h
    rw [he]
    exact .next (s.serve_reaches _ _ _ (fun t => catalogue_reaches t _ ha))
  | none =>
    cases c <;> simp only [requestOf, reduceCtorEq] at h
    case powerOn st => exact execPowerOn_leads s st
    case pinReset => exact execPinReset_leads s
    case secondBoundary x => exact execSecondBoundary_leads s x
    case suppressedRoll => exact execSuppressedRoll_leads s
    case cycleStart sec k => exact execCycleStart_leads s sec k
    case referencePulse i => exact execReferencePulse_leads s i
    case messageArrival i b => exact execMessageArrival_leads s i b
    case messageFramingError i => exact execMessageFramingError_leads s i
    case messageGapTimeout i => exact execMessageGapTimeout_leads s i
    case messageWindowExpiry i => exact execMessageWindowExpiry_leads s i
    case missingPulseExpiry i => exact execMissingPulseExpiry_leads s i
    case edgeEmission p ix sec => exact execEdgeEmission_leads s p ix sec
    case tickEmission ix sec => exact execTickEmission_leads s ix sec
    case cycleCompensatedInstant p sec k b => exact execCycleCompensatedInstant_leads s p sec k b
    case echoReceived p f n => exact execEchoReceived_leads s p f n
    case callReceived p => exact execCallReceived_leads s p
    case rackFrameRejected p c => exact execRackFrameRejected_leads s p c
    case replyWindowExpiry p b => exact execReplyWindowExpiry_leads s p b
    case lineEdge l b => exact execLineEdge_leads s l b
    case qualificationExpiry l => exact execQualificationExpiry_leads s l
    case strobeEdge => exact execStrobeEdge_leads s
    case admission => exact execAdmission_leads s
    case linkFramingError => exact execLinkFramingError_leads s
    case lengthError => exact execLengthError_leads s
    case interByteTimeout => exact execInterByteTimeout_leads s
    case crcError => exact execCrcError_leads s
    case otherFrame => exact execOtherFrame_leads s
    case busyDiscard => exact execBusyDiscard_leads s
    case unknownRequest r => exact .same (s.serveUnknown_settings r)
    case broadcastQuery => exact execBroadcastQuery_leads s
    case replyStart => exact execReplyStart_leads s
    case replyCompletion => exact execReplyCompletion_leads s
    case noticeCompletion => exact execNoticeCompletion_leads s
    case oscillatorTick n x => exact execOscillatorTick_leads s n x
    case resetnRelease st => exact execResetnRelease_leads s st
    case linkDeDeassert => exact execLinkDeDeassert_leads s
    case rackReceiverReopen p => exact execRackReceiverReopen_leads s p

/-- So does every step. -/
theorem step_reaches {t : State} (h : step s = .next t) : s.Reaches t := by
  unfold step at h
  split at h
  · cases h
    rfl
  · rename_i c cs _
    exact .eq_trans (s.setPending_settings cs) (exec_leads _ c t h)

end Commands
end Sys2Proof.Machine
end

section
/-! PROOFS. TSU's boundary work taken apart into its parts (01 R10), and what each part keeps. -/
namespace Sys2Proof.Machine

/-- A time worked out has its nanoseconds below 10^9. -/
theorem time_plus_ns_lt (t : Time) (d : Int) : (t.plus d).ns < 1000000000 := by
  simp only [Time.plus, nsPerSec]
  omega

section Parts

variable (t : Tsu) (rep : Report)

/-! ### The parts, in the order of 01 R10 -/

/-- TSU after part 1, with the quiet interval closed. -/
def Tsu.selected : Tsu := Tsu.takeSelection { t with quiet := false } rep.sel.isSome

/-- TSU after part 2, and the step that it decides. -/
def Tsu.updated : Tsu × Option Int :=
  match rep.good with
  | some (e, _) => if (t.selected rep).state.referenced then (t.selected rep).loopUpdate e else (t.selected rep, none)
  | none => (t.selected rep, none)

/-- TSU after part 3. -/
def Tsu.held : Tsu := (t.updated rep).1.countHoldover.1

/-- TSU after the adoption of a message's offset and leap, and what they raise. -/
def Tsu.adopted : Tsu × List Raise :=
  match rep.good with
  | some (_, m) =>
    ((((t.held rep).adoptOffset m).1.adoptLeap m).1,
      ((t.held rep).adoptOffset m).2 ++ (((t.held rep).adoptOffset m).1.adoptLeap m).2)
  | none => (t.held rep, [])

/-- TSU after a leap that has fallen due. -/
def Tsu.leapt : Tsu := ((t.adopted rep).1.applyLeap (t.ts.sec - 1)).1

/-- TSU after part 5, before the step. -/
def Tsu.slewed : Tsu := Tsu.refresh { t.leapt rep with slew := (t.leapt rep).slew.settle (t.leapt rep).fLoop }

theorem Tsu.boundary_fst : (t.boundary rep).1 = ((t.slewed rep).step (t.updated rep).2).1 := by
  unfold Tsu.boundary Tsu.slewed Tsu.leapt Tsu.adopted Tsu.held Tsu.updated Tsu.selected
  cases rep.good <;> rfl

theorem Tsu.boundary_snd : (t.boundary rep).2 =
    Tsu.changed { t with quiet := false } (t.selected rep) ++ (t.selected rep).changed (t.updated rep).1
      ++ (t.updated rep).1.countHoldover.2 ++ (t.adopted rep).2 ++ ((t.adopted rep).1.applyLeap (t.ts.sec - 1)).2
      ++ ((t.slewed rep).step (t.updated rep).2).2 := by
  unfold Tsu.boundary Tsu.slewed Tsu.leapt Tsu.adopted Tsu.held Tsu.updated Tsu.selected
  cases rep.good <;> rfl

/-! ### What each part changes -/

/-- The loop update steps, or filters, counts and pushes. -/
theorem Tsu.loopUpdate_cases (e : PhaseErr) :
    (t.wantsStep e = true ∧ t.loopUpdate e =
        ({ t with state := .acquiring, lockRun := 0, unlockRun := 0, lastErr := some e }, some e.e))
    ∨ (t.wantsStep e = false ∧ t.loopUpdate e = (((t.filter e).countLock e).pushRing, none)) := by
  unfold Tsu.loopUpdate
  cases t.wantsStep e
  · exact .inr ⟨rfl, rfl⟩
  · exact .inl ⟨rfl, rfl⟩

/-- The count toward lock and unlock changes the state, the flag of R7 and the two runs only. -/
theorem Tsu.countLock_eq (e : PhaseErr) : ∃ (st : TsState) (since : Bool) (lock unlock : Nat),
    t.countLock e = { t with state := st, lockedSince := since, lockRun := lock, unlockRun := unlock }
      ∧ (st = t.state ∨ st = .acquiring ∧ t.state = .locked ∨ st = .locked ∧ t.state = .acquiring)
      ∧ (st = t.state ∧ since = t.lockedSince ∨ st = .acquiring ∧ since = t.lockedSince ∨ since = true) := by
  unfold Tsu.countLock
  split
  · rename_i h
    split
    · split
      · exact ⟨_, _, _, _, rfl, .inr (.inr ⟨rfl, h⟩), .inr (.inr rfl)⟩
      · exact ⟨_, _, _, _, rfl, .inl rfl, .inl ⟨rfl, rfl⟩⟩
    · exact ⟨_, _, _, _, rfl, .inl rfl, .inl ⟨rfl, rfl⟩⟩
  · rename_i h
    split
    · split
      · exact ⟨_, _, _, _, rfl, .inr (.inl ⟨rfl, h⟩), .inr (.inl ⟨rfl, rfl⟩)⟩
      · exact ⟨_, _, _, _, rfl, .inl rfl, .inl ⟨rfl, rfl⟩⟩
    · exact ⟨_, _, _, _, rfl, .inl rfl, .inl ⟨rfl, rfl⟩⟩
  · exact ⟨_, _, _, _, rfl, .inl rfl, .inl ⟨rfl, rfl⟩⟩
  · exact ⟨_, _, _, _, rfl, .inl rfl, .inl ⟨rfl, rfl⟩⟩

/-- The push in LOCKED changes the ring only. -/
theorem Tsu.pushRing_eq : ∃ ring : List Int, t.pushRing = { t with ring := ring } ∧ (t.state = .locked → ring ≠ []) := by
  unfold Tsu.pushRing
  split
  · refine ⟨_, rfl, fun _ h => ?_⟩
    have hl := congrArg List.length h
    simp [Config.ringPlaces] at hl
    omega
  · exact ⟨_, rfl, fun h => absurd h (by assumption)⟩

/-- The holdover count changes itself and the flag of its expiry only. -/
theorem Tsu.countHoldover_eq : ∃ (n : Nat) (b : Bool),
    t.countHoldover.1 = { t with holdCount := n, holdExpired := b } := by
  unfold Tsu.countHoldover
  split
  · simp only
    split <;> exact ⟨_, _, rfl⟩
  · exact ⟨_, _, rfl⟩

theorem Tsu.adoptOffset_eq (m : RefMessage) : ∃ utc : Int, (t.adoptOffset m).1 = { t with utc := utc } := by
  unfold Tsu.adoptOffset
  split <;> exact ⟨_, rfl⟩

theorem Tsu.adoptLeap_eq (m : RefMessage) : ∃ l : Leap, (t.adoptLeap m).1 = { t with leap := l } := by
  unfold Tsu.adoptLeap
  split
  · exact ⟨_, rfl⟩
  · split <;> exact ⟨_, rfl⟩

theorem Tsu.applyLeap_eq (s : RowSec) : ∃ (utc : Int) (l : Leap), (t.applyLeap s).1 = { t with utc := utc, leap := l } := by
  unfold Tsu.applyLeap
  split
  · exact ⟨_, _, rfl⟩
  · split <;> exact ⟨_, _, rfl⟩
  · split <;> exact ⟨_, _, rfl⟩

/-- Parts 3 and 4 change the holdover count, its flag, the UTC offset and the leap only. -/
theorem Tsu.leapt_eq : ∃ (n : Nat) (b : Bool) (utc : Int) (l : Leap),
    t.leapt rep = { (t.updated rep).1 with holdCount := n, holdExpired := b, utc := utc, leap := l } := by
  have h : ∃ (utc : Int) (l : Leap), (t.adopted rep).1 = { t.held rep with utc := utc, leap := l } := by
    unfold Tsu.adopted
    split
    · rename_i m _
      obtain ⟨utc, hu⟩ := (t.held rep).adoptOffset_eq m
      obtain ⟨l, hl⟩ := ((t.held rep).adoptOffset m).1.adoptLeap_eq m
      exact ⟨utc, l, by simpa [hu] using hl⟩
    · exact ⟨_, _, rfl⟩
  obtain ⟨n, b, hh⟩ := (t.updated rep).1.countHoldover_eq
  obtain ⟨utc, l, ha⟩ := h
  obtain ⟨utc', l', hl⟩ := (t.adopted rep).1.applyLeap_eq (t.ts.sec - 1)
  exact ⟨n, b, utc', l', by rw [Tsu.leapt, hl, ha, Tsu.held, hh]⟩

/-- The step takes the value by its amount, or nothing is done. -/
theorem Tsu.step_cases (d : Option Int) :
    (∃ (v : Ts) (a : Int), t.step d = (t.takeStep v a, stepRaises a) ∧ (t.ts.InRange → v.InRange))
    ∨ (d = none ∧ t.staged = none ∧ t.step d = (t, [])) := by
  unfold Tsu.step
  split
  · exact .inl ⟨_, _, rfl, fun h => ⟨time_plus_ns_lt _ _, h.2⟩⟩
  · split
    · exact .inl ⟨_, _, rfl, fun _ => ⟨Nat.succ_pos _, Nat.succ_pos _⟩⟩
    · exact .inr ⟨rfl, by assumption, rfl⟩

end Parts
end Sys2Proof.Machine
end

section
/-! PROOFS. The invariants of the settings: each is kept by every move, so by every step. -/
namespace Sys2Proof.Machine

/-- What every move keeps, a run of moves keeps. -/
theorem State.Reaches.keeps {P : Settings → Prop} (hP : ∀ x y, Settings.Move x y → P x → P y) {s t : State}
    (h : s.Reaches t) (hs : P s.settings) : P t.settings := by
  have key : ∀ {x y : Settings}, Relation.ReflTransGen Settings.Move x y → P x → P y := by
    intro x y h hx
    induction h with
    | refl => exact hx
    | tail _ m ih => exact hP _ _ m ih
  exact key h hs

/-! ### Compensations and divisors (03 R53, R54; 04 R77) -/

/-- `State.CompensationInRange` in the words of the settings. -/
def Settings.CompInRange (x : Settings) : Prop := ∀ p : Port, x.comp[p] ≤ 20000 ∧ x.initComp[p] ≤ 20000

theorem State.compensationInRange_iff (s : State) : s.CompensationInRange ↔ s.settings.CompInRange := by
  simp only [State.CompensationInRange, Settings.CompInRange, State.settings_initComp, State.settings_comp]

/-- A value written at one port and the old values at the others. -/
theorem forall_set_iff {P : Nat → Prop} {v : Vector Nat 16} (p : Port) {c : Nat} (hv : ∀ q : Port, P v[q]) (hc : P c) :
    ∀ q : Port, P (v.set p c)[q] := by
  intro q
  rw [Fin.getElem_fin, Vector.getElem_set]
  split
  · exact hc
  · exact hv q

/-- A compensation that moves toward its target does not pass it (03 R53). -/
theorem moveToward_le (step c target top : Nat) (hc : c ≤ top) (ht : target ≤ top) : moveToward step c target ≤ top := by
  unfold moveToward
  split <;> omega

theorem Settings.Move.keeps_compInRange {x y : Settings} (m : Settings.Move x y) (h : x.CompInRange) : y.CompInRange := by
  have hc : ∀ p : Port, x.comp[p] ≤ 20000 := fun p => (h p).1
  have hi : ∀ p : Port, x.initComp[p] ≤ 20000 := fun p => (h p).2
  have zero : ∀ p : Port, Settings.initial.comp[p] ≤ 20000 ∧ Settings.initial.initComp[p] ≤ 20000 := by
    simp [Settings.initial]
  have same : ∀ z : Settings, z.comp = x.comp → z.initComp = x.initComp → z.CompInRange := by
    intro z e f p
    rw [e, f]
    exact h p
  cases m with
  | moveComp p step target ht =>
    have hlt : target ≤ 20000 := ht.elim id (fun e => e ▸ hi p)
    exact fun q => ⟨forall_set_iff (P := (· ≤ 20000)) p hc (moveToward_le step _ _ _ (hc p) hlt) q, hi q⟩
  | enable p => exact fun q => ⟨forall_set_iff (P := (· ≤ 20000)) p hc (hi p) q, hi q⟩
  | setInitComp p c hle => exact fun q => ⟨hc q, forall_set_iff (P := (· ≤ 20000)) p hi hle q⟩
  | restart => exact zero
  | reset => exact zero
  | _ => exact same _ rfl rfl

/-- `Rle.DivisorsPermitted` in the words of the settings. -/
def Settings.CyclesPermitted (x : Settings) : Prop :=
  x.cycle.divisor ∈ permittedDivisors ∧ ∀ c : CycleCfg, x.staged = some c → c.divisor ∈ permittedDivisors

theorem State.divisorsPermitted_iff (s : State) : s.rle.DivisorsPermitted ↔ s.settings.CyclesPermitted :=
  ⟨fun h => ⟨h.inForce, h.staged⟩, fun h => ⟨h.1, h.2⟩⟩

theorem Settings.Move.keeps_cyclesPermitted {x y : Settings} (m : Settings.Move x y) (h : x.CyclesPermitted) :
    y.CyclesPermitted := by
  have zero : Settings.initial.CyclesPermitted := ⟨by decide, fun _ h => by cases h⟩
  have same : ∀ z : Settings, z.cycle = x.cycle → z.staged = x.staged → z.CyclesPermitted := by
    intro z e f
    unfold Settings.CyclesPermitted
    rw [e, f]
    exact h
  cases m with
  | stageCycle c hc => exact ⟨h.1, fun d e => by cases e; exact hc⟩
  | applyCycle =>
    refine ⟨?_, fun _ e => by cases e⟩
    cases hs : x.staged with
    | none => exact h.1
    | some c => exact h.2 c hs
  | restart => exact zero
  | reset => exact zero
  | _ => exact same _ rfl rfl

/-! ### The rates and the slew (01 R2, R14) -/

/-- `Tsu.RatesInRange` and `Slew.TermWithin` but for the total rate, which the boundary works out last. -/
structure Tsu.LoopInRange (t : Tsu) : Prop where
  limit : 1000 ≤ t.cfg.fmax ∧ t.cfg.fmax ≤ 200000000
  freerun : -t.cfg.fmax ≤ t.cfg.freerun ∧ t.cfg.freerun ≤ t.cfg.fmax
  loop : -t.cfg.fmax ≤ t.fLoop ∧ t.fLoop ≤ t.cfg.fmax
  integral : -t.cfg.fmax ≤ t.integ ∧ t.integ ≤ t.cfg.fmax
  term : t.slew.TermWithin

/-- `t`'s total rate is the limited sum of F_loop and the slew term (01 R2). -/
def Tsu.TotalFollows (t : Tsu) : Prop := t.fTotal = clamp (-200000000) 200000000 (t.fLoop + 1000 * t.slew.term)

theorem Tsu.rates_iff (t : Tsu) : t.RatesInRange ∧ t.slew.TermWithin ↔ t.LoopInRange ∧ t.TotalFollows :=
  ⟨fun ⟨h, w⟩ => ⟨⟨h.limit, h.freerun, h.loop, h.integral, w⟩, h.total⟩,
    fun ⟨h, e⟩ => ⟨⟨h.limit, h.freerun, h.loop, h.integral, e⟩, h.term⟩⟩

theorem clamp_mem {lo hi : Int} (v : Int) (h : lo ≤ hi) : lo ≤ clamp lo hi v ∧ clamp lo hi v ≤ hi := by
  unfold clamp
  split
  · omega
  · split <;> omega

/-- A limited rate lies within the limit. -/
theorem LoopCfg.limit_mem (c : LoopCfg) (h : 1000 ≤ c.fmax) (v : Int) : -c.fmax ≤ c.limit v ∧ c.limit v ≤ c.fmax :=
  clamp_mem v (by omega)

theorem Slew.abandon_termWithin (w : Slew) (c : SlewEnd) (h : w.TermWithin) : (w.abandon c).TermWithin := by
  unfold Slew.abandon
  split
  · exact h
  · exact .inl ⟨le_refl _, le_refl _⟩

/-- What a limit on both sides of 0 leaves of a value lies between 0 and the value. -/
theorem clamp_between {lo hi : Int} (v : Int) (hl : lo ≤ 0) (hh : 0 ≤ hi) :
    (0 ≤ v → 0 ≤ clamp lo hi v ∧ clamp lo hi v ≤ v) ∧ (v ≤ 0 → v ≤ clamp lo hi v ∧ clamp lo hi v ≤ 0) := by
  unfold clamp
  constructor <;> intro h <;> split
  · omega
  · split <;> omega
  · omega
  · split <;> omega

/-- The limits that the total rate puts on a slew term lie on both sides of 0 (01 R14). -/
theorem limitTerm_between (f v : Int) (hl : -200000000 ≤ f) (hh : f ≤ 200000000) :
    (0 ≤ v → 0 ≤ limitTerm f v ∧ limitTerm f v ≤ v) ∧ (v ≤ 0 → v ≤ limitTerm f v ∧ limitTerm f v ≤ 0) := by
  unfold limitTerm Config.totalRateMax
  exact clamp_between v (by omega) (by omega)

theorem Slew.settle_termWithin (w : Slew) (f : Int) (hl : -200000000 ≤ f) (hh : f ≤ 200000000) (h : w.TermWithin) :
    (w.settle f).TermWithin := by
  unfold Slew.settle
  split
  · exact h
  · split
    · exact .inl ⟨le_refl _, le_refl _⟩
    · have k : (0 : Int) ≤ (w.rate * w.boost : Nat) := Int.natCast_nonneg _
      have c := clamp_between (lo := -((w.rate * w.boost : Nat) : Int)) (hi := w.rate * w.boost) (w.remainder - w.term)
        (by omega) (by simpa using k)
      have l := limitTerm_between f (clamp (-((w.rate * w.boost : Nat) : Int)) (w.rate * w.boost) (w.remainder - w.term))
        hl hh
      rcases Int.le_total 0 (w.remainder - w.term) with hr | hr
      · have := c.1 hr
        have := l.1 this.1
        exact .inl ⟨this.1, by simp only; omega⟩
      · have := c.2 hr
        have := l.2 this.2
        exact .inr ⟨by simp only; omega, this.2⟩

namespace Tsu.LoopInRange

variable {t : Tsu} (h : t.LoopInRange)
include h

theorem total_room : -200000000 ≤ t.fLoop ∧ t.fLoop ≤ 200000000 := by
  have := h.limit
  have := h.loop
  omega

theorem acquire (v : Int) : (t.acquire v).LoopInRange where
  limit := h.limit
  freerun := h.freerun
  loop := t.cfg.limit_mem h.limit.1 v
  integral := t.cfg.limit_mem h.limit.1 v
  term := t.slew.abandon_termWithin _ h.term

theorem enterHoldover : t.enterHoldover.LoopInRange where
  limit := h.limit
  freerun := h.freerun
  loop := by
    unfold Tsu.enterHoldover
    simp only
    split
    · exact h.freerun
    · exact t.cfg.limit_mem h.limit.1 _
  integral := h.integral
  term := h.term

theorem takeSelection (b : Bool) : (t.takeSelection b).LoopInRange := by
  unfold Tsu.takeSelection
  split
  · exact h.acquire _
  · exact h.acquire _
  · split
    · exact h.enterHoldover
    · exact ⟨h.limit, h.freerun, h.freerun, h.integral, h.term⟩
  · exact h.enterHoldover
  all_goals exact h

theorem filter (e : PhaseErr) : (t.filter e).LoopInRange where
  limit := h.limit
  freerun := h.freerun
  loop := t.cfg.limit_mem h.limit.1 _
  integral := t.cfg.limit_mem h.limit.1 _
  term := h.term

theorem countLock (e : PhaseErr) : (t.countLock e).LoopInRange := by
  obtain ⟨_, _, _, _, he, -⟩ := t.countLock_eq e
  rw [he]
  exact ⟨h.limit, h.freerun, h.loop, h.integral, h.term⟩

theorem pushRing : t.pushRing.LoopInRange := by
  obtain ⟨_, he, -⟩ := t.pushRing_eq
  rw [he]
  exact ⟨h.limit, h.freerun, h.loop, h.integral, h.term⟩

theorem loopUpdate (e : PhaseErr) : (t.loopUpdate e).1.LoopInRange := by
  rcases t.loopUpdate_cases e with ⟨-, k⟩ | ⟨-, k⟩ <;> rw [k]
  · exact ⟨h.limit, h.freerun, h.loop, h.integral, h.term⟩
  · exact ((h.filter e).countLock e).pushRing

theorem updated (rep : Report) : (t.updated rep).1.LoopInRange := by
  have hs : (t.selected rep).LoopInRange :=
    takeSelection (t := { t with quiet := false }) ⟨h.limit, h.freerun, h.loop, h.integral, h.term⟩ _
  unfold Tsu.updated
  split
  · split
    · exact hs.loopUpdate _
    · exact hs
  · exact hs

theorem slewed (rep : Report) : (t.slewed rep).LoopInRange := by
  obtain ⟨_, _, _, _, e⟩ := t.leapt_eq rep
  have hu := h.updated rep
  have hl : (t.leapt rep).LoopInRange := by
    rw [e]
    exact ⟨hu.limit, hu.freerun, hu.loop, hu.integral, hu.term⟩
  exact ⟨hl.limit, hl.freerun, hl.loop, hl.integral,
    Slew.settle_termWithin _ _ hl.total_room.1 hl.total_room.2 hl.term⟩

theorem step (d : Option Int) : (t.step d).1.LoopInRange := by
  rcases t.step_cases d with ⟨v, a, e, -⟩ | ⟨-, -, e⟩ <;> rw [e]
  · exact ⟨h.limit, h.freerun, h.loop, h.integral, h.term⟩
  · exact h

end Tsu.LoopInRange

/-- A step changes no rate. -/
theorem Tsu.TotalFollows.step {t : Tsu} (h : t.TotalFollows) (d : Option Int) : (t.step d).1.TotalFollows := by
  rcases t.step_cases d with ⟨v, a, e, -⟩ | ⟨-, -, e⟩ <;> rw [e] <;> exact h

theorem Tsu.refresh_totalFollows (t : Tsu) : t.refresh.TotalFollows := rfl

/-- A new loop configuration's limits lie in their ranges, and hold the rates (02 R39). -/
theorem Tsu.configure_loopInRange {t : Tsu} (h : t.LoopInRange) (q : LoopReq) (p : StepPolicy) :
    (t.configure (q.apply p)).LoopInRange := by
  have hf : 1000 ≤ (q.apply p).fmax ∧ (q.apply p).fmax ≤ 200000000 := by
    have := clampNat_le 1000 200000000 q.fmax (by omega)
    simp only [LoopReq.apply]
    omega
  have hr : -(q.apply p).fmax ≤ (q.apply p).freerun ∧ (q.apply p).freerun ≤ (q.apply p).fmax :=
    clamp_mem _ (by have := hf.1; simp only [LoopReq.apply] at this; omega)
  refine ⟨hf, hr, ?_, (q.apply p).limit_mem hf.1 _, h.term⟩
  unfold Tsu.configure Tsu.refresh
  simp only
  split
  · exact hr
  · exact (q.apply p).limit_mem hf.1 _

/-- A RESTART's default limits hold the rates (01 R19, 02 R41). -/
theorem Tsu.restart_loopInRange {t : Tsu} (h : t.LoopInRange) : t.restart.LoopInRange := by
  have hm : 1000 ≤ LoopCfg.default.fmax ∧ LoopCfg.default.fmax ≤ 200000000 := by decide
  have hd : -LoopCfg.default.fmax ≤ LoopCfg.default.freerun ∧ LoopCfg.default.freerun ≤ LoopCfg.default.fmax := by decide
  have hl : -LoopCfg.default.fmax ≤ (if t.state = .freerun then LoopCfg.default.freerun else LoopCfg.default.limit t.fLoop)
      ∧ (if t.state = .freerun then LoopCfg.default.freerun else LoopCfg.default.limit t.fLoop) ≤ LoopCfg.default.fmax := by
    split
    · exact hd
    · exact LoopCfg.default.limit_mem hm.1 _
  have key : ∀ u : Tsu, u.LoopInRange → u.refresh.LoopInRange := fun u k =>
    ⟨k.limit, k.freerun, k.loop, k.integral, k.term⟩
  unfold Tsu.restart
  refine key _ ?_
  split
  · refine Tsu.LoopInRange.enterHoldover ⟨hm, hd, hl, LoopCfg.default.limit_mem hm.1 _, ?_⟩
    exact t.slew.abandon_termWithin _ h.term
  · exact ⟨hm, hd, hl, LoopCfg.default.limit_mem hm.1 _, t.slew.abandon_termWithin _ h.term⟩

theorem Settings.Move.keeps_rates {x y : Settings} (m : Settings.Move x y)
    (h : x.tsu.LoopInRange ∧ x.tsu.TotalFollows) : y.tsu.LoopInRange ∧ y.tsu.TotalFollows := by
  obtain ⟨hl, ht⟩ := h
  have copy : ∀ u : Tsu, u.cfg = x.tsu.cfg → u.fLoop = x.tsu.fLoop → u.integ = x.tsu.integ → u.slew.TermWithin →
      u.LoopInRange := fun u hc hf hi hw => ⟨hc ▸ hl.limit, hc ▸ hl.freerun, hc ▸ hf ▸ hl.loop, hc ▸ hi ▸ hl.integral, hw⟩
  have same : ∀ u : Tsu, u.cfg = x.tsu.cfg → u.fLoop = x.tsu.fLoop → u.integ = x.tsu.integ → u.slew = x.tsu.slew →
      u.fTotal = x.tsu.fTotal → u.LoopInRange ∧ u.TotalFollows := by
    intro u hc hf hi hw he
    refine ⟨copy u hc hf hi (hw ▸ hl.term), ?_⟩
    rw [Tsu.TotalFollows, he, hf, hw]
    exact ht
  cases m with
  | boundary rep =>
    simp only [Tsu.boundary_fst]
    exact ⟨((copy { x.tsu with mark := none } rfl rfl rfl hl.term).slewed rep).step _,
      (Tsu.refresh_totalFollows _).step _⟩
  | setTime T hr => exact ⟨copy _ rfl rfl rfl (x.tsu.slew.abandon_termWithin _ hl.term), Tsu.refresh_totalFollows _⟩
  | adjust w hr hw =>
    refine ⟨copy _ rfl rfl rfl ?_, Tsu.refresh_totalFollows _⟩
    unfold Slew.TermWithin
    simp only [Tsu.refresh, hw]
    omega
  | setLoop q p => exact ⟨Tsu.configure_loopInRange hl q p, Tsu.refresh_totalFollows _⟩
  | restart => exact ⟨Tsu.restart_loopInRange hl, Tsu.refresh_totalFollows _⟩
  | reset => exact ⟨⟨by decide, by decide, by decide, by decide, .inl ⟨by decide, by decide⟩⟩, rfl⟩
  | _ => exact same _ rfl rfl rfl rfl rfl

end Sys2Proof.Machine
end

section
/-! PROOFS. The timescale's soundness: the value's range, what a reference owns, the selection, the mark. -/
namespace Sys2Proof.Machine

/-! ### The timescale value (01 section 1.1) -/

/-- An advanced value is in range, whatever it was (01 R1). -/
theorem Ts.advance_inRange (v : Ts) (n : Nat) : (v.advance n).InRange := by
  unfold Ts.advance Ts.InRange nsPerSec unitsPerNs
  simp only
  omega

/-! ### What a selected reference owns (01 R6, R7, R10) -/

theorem Slew.abandon_remainder (w : Slew) (c : SlewEnd) : (w.abandon c).remainder = 0 := by
  unfold Slew.abandon
  split
  · assumption
  · rfl

theorem Slew.settle_of_idle (w : Slew) (f : Int) (h : w.remainder = 0) : w.settle f = w := if_pos h

namespace Tsu.ReferenceOwns

variable {t : Tsu}

/-- Outside ACQUIRING and LOCKED a reference owns nothing. -/
theorem of_unreferenced (h : t.state.referenced = false) : t.ReferenceOwns where
  staged := fun k => absurd (h.symm.trans k) Bool.false_ne_true
  slew := fun k => absurd (h.symm.trans k) Bool.false_ne_true
  locked := fun k => by
    rw [k] at h
    cases h

/-- What the invariant speaks of, unchanged. -/
theorem copy (h : t.ReferenceOwns) {u : Tsu} (hst : u.state = t.state) (hsg : u.staged = t.staged)
    (hsl : u.slew.remainder = t.slew.remainder) (hsi : u.lockedSince = t.lockedSince) (hr : u.ring = t.ring) :
    u.ReferenceOwns where
  staged := fun k => hsg.trans (h.staged (hst ▸ k))
  slew := fun k => hsl.trans (h.slew (hst ▸ k))
  locked := fun k => by
    rw [hsi, hr]
    exact h.locked (hst ▸ k)

theorem acquire (t : Tsu) (v : Int) : (t.acquire v).ReferenceOwns where
  staged := fun _ => rfl
  slew := fun _ => t.slew.abandon_remainder _
  locked := fun k => by cases k

variable (h : t.ReferenceOwns)
include h

theorem takeSelection (b : Bool) : (t.takeSelection b).ReferenceOwns := by
  unfold Tsu.takeSelection
  split
  · exact acquire t _
  · exact acquire t _
  · split <;> exact of_unreferenced rfl
  · exact of_unreferenced rfl
  all_goals exact h

/-- The update that leaves LOCKED has set the flag and pushes its rate (01 R7). -/
theorem loopUpdate (e : PhaseErr) (hr : t.state.referenced = true) : (t.loopUpdate e).1.ReferenceOwns := by
  have hs := h.staged hr
  have hw := h.slew hr
  rcases t.loopUpdate_cases e with ⟨-, k⟩ | ⟨-, k⟩ <;> rw [k]
  · exact ⟨fun _ => hs, fun _ => hw, fun k => by cases k⟩
  · obtain ⟨st, since, lock, unlock, hc, -, hsince⟩ := (t.filter e).countLock_eq e
    obtain ⟨ring, hp, hring⟩ := ((t.filter e).countLock e).pushRing_eq
    rw [hp]
    rw [hc] at hring ⊢
    refine ⟨fun _ => hs, fun _ => hw, fun k => ⟨?_, hring k⟩⟩
    rcases hsince with ⟨rfl, rfl⟩ | ⟨rfl, -⟩ | rfl
    · exact (h.locked k).1
    · cases k
    · rfl

theorem updated (rep : Report) : (t.updated rep).1.ReferenceOwns := by
  have hs : (t.selected rep).ReferenceOwns :=
    takeSelection (t := { t with quiet := false }) (h.copy rfl rfl rfl rfl rfl) _
  unfold Tsu.updated
  split
  · split
    · exact hs.loopUpdate _ (by assumption)
    · exact hs
  · exact hs

theorem slewed (rep : Report) : (t.slewed rep).ReferenceOwns := by
  obtain ⟨_, _, _, _, e⟩ := t.leapt_eq rep
  have hl : (t.leapt rep).ReferenceOwns := by
    rw [e]
    exact (h.updated rep).copy rfl rfl rfl rfl rfl
  refine ⟨hl.staged, fun k => ?_, hl.locked⟩
  have hw := hl.slew k
  exact (congrArg Slew.remainder (Slew.settle_of_idle _ _ hw)).trans hw

theorem step (d : Option Int) : (t.step d).1.ReferenceOwns := by
  rcases t.step_cases d with ⟨v, a, e, -⟩ | ⟨-, -, e⟩ <;> rw [e]
  · exact ⟨fun _ => rfl, h.slew, h.locked⟩
  · exact h

end Tsu.ReferenceOwns

/-- Before the step a boundary leaves the timescale value. -/
theorem Tsu.updated_ts (t : Tsu) (rep : Report) : (t.updated rep).1.ts = t.ts := by
  have hs : (t.selected rep).ts = t.ts := by
    unfold Tsu.selected Tsu.takeSelection
    split
    case h_3 => split <;> rfl
    all_goals rfl
  have hu : ∀ (u : Tsu) (e : PhaseErr), (u.loopUpdate e).1.ts = u.ts := by
    intro u e
    rcases u.loopUpdate_cases e with ⟨-, k⟩ | ⟨-, k⟩ <;> rw [k]
    obtain ⟨_, _, _, _, hc, -⟩ := (u.filter e).countLock_eq e
    obtain ⟨_, hp, -⟩ := ((u.filter e).countLock e).pushRing_eq
    rw [hp, hc]
    rfl
  unfold Tsu.updated
  split
  · split
    · rw [hu, hs]
    · exact hs
  · exact hs

theorem Tsu.slewed_ts (t : Tsu) (rep : Report) : (t.slewed rep).ts = t.ts := by
  obtain ⟨_, _, _, _, e⟩ := t.leapt_eq rep
  have : (t.leapt rep).ts = t.ts := by
    rw [e]
    exact t.updated_ts rep
  exact this

theorem Tsu.boundary_ts_inRange {t : Tsu} (h : t.ts.InRange) (rep : Report) : (t.boundary rep).1.ts.InRange := by
  rw [← t.slewed_ts rep] at h
  rw [Tsu.boundary_fst]
  rcases (t.slewed rep).step_cases (t.updated rep).2 with ⟨v, a, e, hv⟩ | ⟨-, -, e⟩ <;> rw [e]
  · exact hv h
  · exact h

/-- A RESTART leaves FREERUN or HOLDOVER (01 R19). -/
theorem Tsu.restart_unreferenced (t : Tsu) : t.restart.state.referenced = false := by
  unfold Tsu.restart
  simp only
  split
  · rfl
  · rename_i h
    exact Bool.eq_false_iff.mpr h

/-- A RESTART changes neither the value nor the mark and the quiet interval. -/
theorem Tsu.restart_kept (t : Tsu) : t.restart.ts = t.ts ∧ t.restart.mark = t.mark ∧ t.restart.quiet = t.quiet := by
  unfold Tsu.restart
  simp only
  split <;> exact ⟨rfl, rfl, rfl⟩

theorem Settings.Move.keeps_scale {x y : Settings} (m : Settings.Move x y)
    (h : x.tsu.ts.InRange ∧ x.tsu.ReferenceOwns) : y.tsu.ts.InRange ∧ y.tsu.ReferenceOwns := by
  obtain ⟨ht, ho⟩ := h
  cases m with
  | ticks v hv =>
    have hr : v.InRange := hv.elim fun n e => e ▸ Ts.advance_inRange _ n
    exact ⟨hr, ho.copy rfl rfl rfl rfl rfl⟩
  | cycleStart c => exact ⟨ht, ho.copy rfl rfl rfl rfl rfl⟩
  | clearMark => exact ⟨ht, ho.copy rfl rfl rfl rfl rfl⟩
  | setLeap utc l => exact ⟨ht, ho.copy rfl rfl rfl rfl rfl⟩
  | boundary rep =>
    refine ⟨Tsu.boundary_ts_inRange (t := { x.tsu with mark := none }) ht rep, ?_⟩
    simp only [Tsu.boundary_fst]
    exact ((ho.copy (u := { x.tsu with mark := none }) rfl rfl rfl rfl rfl).slewed rep).step _
  | setTime T hr => exact ⟨ht, .of_unreferenced hr⟩
  | adjust w hr hw => exact ⟨ht, .of_unreferenced hr⟩
  | setLoop q p => exact ⟨ht, ho.copy rfl rfl rfl rfl rfl⟩
  | restart => exact ⟨x.tsu.restart_kept.1 ▸ ht, .of_unreferenced x.tsu.restart_unreferenced⟩
  | reset => exact ⟨⟨by decide, by decide⟩, .of_unreferenced rfl⟩
  | _ => exact ⟨ht, ho⟩

/-! ### The selection (01 R6) -/

theorem Tsu.takeSelection_referenced (t : Tsu) (b : Bool) : (t.takeSelection b).state.referenced = b := by
  unfold Tsu.takeSelection
  split
  case h_3 => split <;> rfl
  case h_1 => rfl
  case h_2 => rfl
  case h_4 => rfl
  all_goals
    rename_i h
    rw [h]
    rfl

theorem Tsu.loopUpdate_referenced (t : Tsu) (e : PhaseErr) (h : t.state.referenced = true) :
    (t.loopUpdate e).1.state.referenced = true := by
  rcases t.loopUpdate_cases e with ⟨-, k⟩ | ⟨-, k⟩ <;> rw [k]
  · rfl
  · obtain ⟨st, _, _, _, hc, hst, -⟩ := (t.filter e).countLock_eq e
    obtain ⟨_, hp, -⟩ := ((t.filter e).countLock e).pushRing_eq
    rw [hp, hc]
    rcases hst with rfl | ⟨rfl, -⟩ | ⟨rfl, -⟩
    · exact h
    · rfl
    · rfl

/-- A boundary ends with a reference owning TSU exactly where the report names one. -/
theorem Tsu.boundary_referenced (t : Tsu) (rep : Report) : (t.boundary rep).1.state.referenced = rep.sel.isSome := by
  have hs : (t.selected rep).state.referenced = rep.sel.isSome := Tsu.takeSelection_referenced _ _
  have hu : (t.updated rep).1.state.referenced = rep.sel.isSome := by
    unfold Tsu.updated
    split
    · split
      · rename_i h
        rw [Tsu.loopUpdate_referenced _ _ h, ← hs, h]
      · exact hs
    · exact hs
  have hl : (t.slewed rep).state = (t.updated rep).1.state := by
    obtain ⟨_, _, _, _, e⟩ := t.leapt_eq rep
    have he : (t.leapt rep).state = (t.updated rep).1.state := by rw [e]
    exact he
  rw [Tsu.boundary_fst]
  rcases (t.slewed rep).step_cases (t.updated rep).2 with ⟨v, a, e, -⟩ | ⟨-, -, e⟩
  · rw [e, ← hu, ← hl]
    rfl
  · rw [e, ← hu, ← hl]

/-- `State.SelectionMatches` in the words of the settings. -/
def Settings.SelectionMatches (x : Settings) : Prop := x.tsu.state.referenced = x.sel.isSome

theorem Settings.Move.keeps_selection {x y : Settings} (m : Settings.Move x y) (h : x.SelectionMatches) :
    y.SelectionMatches := by
  have same : ∀ z : Settings, z.tsu.state = x.tsu.state → z.sel = x.sel → z.SelectionMatches := by
    intro z e f
    unfold Settings.SelectionMatches
    rw [e, f]
    exact h
  cases m with
  | boundary rep => exact Tsu.boundary_referenced _ rep
  | restart => exact x.tsu.restart_unreferenced
  | reset => exact rfl
  | _ => exact same _ rfl rfl

/-! ### The mark (01 R4, R11, R12) -/

/-- Before the step a boundary has closed the quiet interval and left the mark. -/
theorem Tsu.slewed_mark (t : Tsu) (rep : Report) : (t.slewed rep).mark = t.mark ∧ (t.slewed rep).quiet = false := by
  have hs : (t.selected rep).mark = t.mark ∧ (t.selected rep).quiet = false := by
    unfold Tsu.selected Tsu.takeSelection
    split
    case h_3 => split <;> exact ⟨rfl, rfl⟩
    all_goals exact ⟨rfl, rfl⟩
  have hu : ∀ (u : Tsu) (e : PhaseErr), (u.loopUpdate e).1.mark = u.mark ∧ (u.loopUpdate e).1.quiet = u.quiet := by
    intro u e
    rcases u.loopUpdate_cases e with ⟨-, k⟩ | ⟨-, k⟩ <;> rw [k]
    · exact ⟨rfl, rfl⟩
    · obtain ⟨_, _, _, _, hc, -⟩ := (u.filter e).countLock_eq e
      obtain ⟨_, hp, -⟩ := ((u.filter e).countLock e).pushRing_eq
      rw [hp, hc]
      exact ⟨rfl, rfl⟩
  have hup : (t.updated rep).1.mark = t.mark ∧ (t.updated rep).1.quiet = false := by
    unfold Tsu.updated
    split
    · split
      · rw [(hu _ _).1, (hu _ _).2]
        exact hs
      · exact hs
    · exact hs
  obtain ⟨_, _, _, _, e⟩ := t.leapt_eq rep
  have hl : (t.leapt rep).mark = t.mark ∧ (t.leapt rep).quiet = false := by
    rw [e]
    exact hup
  exact hl

theorem Settings.Move.keeps_mark {x y : Settings} (m : Settings.Move x y) (h : x.tsu.MarkInQuiet) : y.tsu.MarkInQuiet := by
  have same : ∀ u : Tsu, u.mark = x.tsu.mark → u.quiet = x.tsu.quiet → u.MarkInQuiet := by
    intro u e f
    unfold Tsu.MarkInQuiet
    rw [e, f]
    exact h
  cases m with
  | boundary rep =>
    intro hm
    simp only [Tsu.boundary_fst] at hm ⊢
    rcases (Tsu.slewed { x.tsu with mark := none } rep).step_cases (Tsu.updated { x.tsu with mark := none } rep).2 with
      ⟨v, a, e, -⟩ | ⟨-, -, e⟩ <;> rw [e] at hm ⊢
    · rfl
    · exact absurd (Tsu.slewed_mark _ rep).1 hm
  | clearMark => exact fun hm => absurd rfl hm
  | restart => exact same _ x.tsu.restart_kept.2.1 x.tsu.restart_kept.2.2
  | reset => exact fun hm => absurd rfl hm
  | _ => exact same _ rfl rfl

/-! ### The statements -/

/-- Settles O56: each of the three invariants is one of the settings, and every move keeps it. -/
theorem stepKeepsRatesAndCompensationsInRange : Obligations.StepKeepsRatesAndCompensationsInRange := by
  refine ⟨fun s t hs h => ?_, fun s t hr hw h => ?_, fun s t hs h => ?_⟩
  · rw [State.compensationInRange_iff] at hs ⊢
    exact (step_reaches s h).keeps (fun _ _ m => m.keeps_compInRange) hs
  · exact (Tsu.rates_iff _).mpr ((step_reaches s h).keeps (P := fun x => x.tsu.LoopInRange ∧ x.tsu.TotalFollows)
      (fun _ _ m => m.keeps_rates) ((Tsu.rates_iff _).mp ⟨hr, hw⟩))
  · rw [State.divisorsPermitted_iff] at hs ⊢
    exact (step_reaches s h).keeps (fun _ _ m => m.keeps_cyclesPermitted) hs

/-- Settles O57: each of the three invariants is one of the settings, and every move keeps it. -/
theorem stepKeepsTheTimescaleSound : Obligations.StepKeepsTheTimescaleSound := by
  refine ⟨fun s t hr ho h => ?_, fun s t hs h => ?_, fun s t hs h => ?_⟩
  · exact (step_reaches s h).keeps (P := fun x => x.tsu.ts.InRange ∧ x.tsu.ReferenceOwns) (fun _ _ m => m.keeps_scale)
      ⟨hr, ho⟩
  · exact (step_reaches s h).keeps (P := Settings.SelectionMatches) (fun _ _ m => m.keeps_selection) hs
  · exact (step_reaches s h).keeps (P := fun x => x.tsu.MarkInQuiet) (fun _ _ m => m.keeps_mark) hs

end Sys2Proof.Machine
end

section
/-! PROOFS. ADJUST, SET TIME and SET LEAP. -/
namespace Sys2Proof.Machine

section TimescaleRequests

variable {s : State} {r : Req}

/-- A request that the hub takes and its block refuses leaves only the link concluded. -/
theorem State.serve_refused {k : ReqKind} (h : s.Takes k r) (hk : k.length ≤ 248) {act : Req → State → Served}
    {res : Result} (ha : act r ((s.dropFrame s.mlc.ctr).taken r) = .refuse ((s.dropFrame s.mlc.ctr).taken r) res) :
    s.serve k r act = s.concluded (k.code + 0x80) r res [] := by
  rw [State.serve_of_takes h hk, ha]
  exact State.conclude_of_kept h.idle

/-- A request that the hub takes and its block carries out by a new TSU record leaves that record and the link concluded. -/
theorem State.serve_setTsu {k : ReqKind} (h : s.Takes k r) (hk : k.length ≤ 248) {act : Req → State → Served}
    (f : Tsu → Tsu) {res : Result} {body : List Byte} (hr : res.refuses = false)
    (ha : act r ((s.dropFrame s.mlc.ctr).taken r) =
      ⟨((s.dropFrame s.mlc.ctr).taken r).setTsu (f ((s.dropFrame s.mlc.ctr).taken r).tsu), res, body⟩) :
    s.serve k r act = (s.setTsu (f s.tsu)).concluded (k.code + 0x80) r res body := by
  rw [State.serve_of_takes h hk, ha]
  exact State.conclude_of_update (fun s => s.setTsu (f s.tsu)) (fun _ _ => rfl) hr h.idle

@[simp] theorem State.taken_tsu : ((s.dropFrame s.mlc.ctr).taken r).tsu = s.tsu := by
  obtain ⟨m, hm, -⟩ := State.taken_eq (s := s) (r := r)
  rw [hm]
  rfl

/-- A reference is selected exactly in ACQUIRING and LOCKED (01 R6). -/
theorem TsState.referenced_iff (st : TsState) : st.referenced = true ↔ st = .acquiring ∨ st = .locked := by
  cases st <;> simp [TsState.referenced]

theorem TsState.unreferenced_iff (st : TsState) : st.referenced = false ↔ st = .freerun ∨ st = .holdover := by
  cases st <;> simp [TsState.referenced]

@[simp] theorem Result.ofClamp_refuses (b : Bool) : (Result.ofClamp b).refuses = false := by
  cases b <;> rfl

/-- A result told by whether a value was changed. -/
theorem Result.ofClamp_ne {α : Type} [DecidableEq α] (a b : α) :
    Result.ofClamp (decide (a ≠ b)) = if a = b then .done else .doneClamped := by
  by_cases h : a = b <;> simp [Result.ofClamp, h]

/-! ### ADJUST (01 R13) -/

/-- The slew that an accepted ADJUST starts. -/
def AdjustReq.slew (q : AdjustReq) (t : Tsu) : Slew where
  remainder := clamp (-999999999) 999999999 q.amount
  term := 0
  rate := adjustRate q.rate
  boost := adjustBoost t.fLoop q.boost
  ended := if t.slew.remainder = 0 then t.slew.ended else .replaced

theorem actAdjust_invalid (t : State)
    (h : ¬((AdjustReq.read r.payload).boost = 1 ∨ (AdjustReq.read r.payload).boost = 2
      ∨ (AdjustReq.read r.payload).boost = 4)) :
    actAdjust r t = .refuse t .invalid := by
  simp only [not_or] at h
  exact if_pos h

theorem actAdjust_wrongState (t : State)
    (h : (AdjustReq.read r.payload).boost = 1 ∨ (AdjustReq.read r.payload).boost = 2
      ∨ (AdjustReq.read r.payload).boost = 4) (ht : t.tsu.state.referenced = true) :
    actAdjust r t = .refuse t .wrongState := by
  unfold actAdjust
  rw [if_neg (by omega), if_pos ht]

theorem actAdjust_accepted (t : State)
    (h : (AdjustReq.read r.payload).boost = 1 ∨ (AdjustReq.read r.payload).boost = 2
      ∨ (AdjustReq.read r.payload).boost = 4) (ht : t.tsu.state.referenced = false) :
    actAdjust r t = ⟨t.setTsu (Tsu.refresh { t.tsu with slew := (AdjustReq.read r.payload).slew t.tsu }),
      .ofClamp (clamp (-999999999) 999999999 (AdjustReq.read r.payload).amount ≠ (AdjustReq.read r.payload).amount
        || ((AdjustReq.read r.payload).rate ≠ 0 && adjustRate (AdjustReq.read r.payload).rate ≠ (AdjustReq.read r.payload).rate)
        || adjustBoost t.tsu.fLoop (AdjustReq.read r.payload).boost ≠ (AdjustReq.read r.payload).boost), []⟩ := by
  unfold actAdjust
  rw [if_neg (by omega), if_neg (Bool.eq_false_iff.mp ht)]
  rfl

/-- Settles O19: a refusal keeps TSU; an accepted ADJUST's slew has term 0, so that the total rate is F_loop limited. -/
theorem adjustStartsASlew : Obligations.AdjustStartsASlew := by
  intro s r h q valid amount rate boost changed t
  refine ⟨fun hv => ?_, fun hv hst => ?_, fun hv hst => ?_⟩
  · exact congrArg _ (State.serve_refused h (by decide) (actAdjust_invalid _ hv))
  · refine congrArg _ (State.serve_refused h (by decide) (actAdjust_wrongState _ hv ?_))
    rw [State.taken_tsu]
    exact (TsState.referenced_iff _).mpr hst
  · have key := State.serve_setTsu h (by decide) (fun t => Tsu.refresh { t with slew := q.slew t })
      (Result.ofClamp_refuses _) (actAdjust_accepted _ hv (by
        rw [State.taken_tsu]
        exact (TsState.unreferenced_iff _).mpr hst))
    have ht : s.setTsu (Tsu.refresh { s.tsu with slew := q.slew s.tsu }) = t := by
      simp [t, Tsu.refresh, AdjustReq.slew, Config.totalRateMax, amount, rate, boost, adjustRate, adjustBoost]
    rw [State.taken_tsu, ht] at key
    have hc : (clamp (-999999999) 999999999 q.amount ≠ q.amount || (q.rate ≠ 0 && adjustRate q.rate ≠ q.rate)
        || adjustBoost s.tsu.fLoop q.boost ≠ q.boost) = decide changed := by
      rw [Bool.eq_iff_iff]
      simp only [Bool.or_eq_true, Bool.and_eq_true, decide_eq_true_eq, or_assoc]
      exact Iff.rfl
    rw [hc] at key
    constructor
    · intro hch
      rw [decide_eq_true hch] at key
      exact congrArg _ key
    · intro hch
      rw [decide_eq_false hch] at key
      exact congrArg _ key

/-! ### SET TIME and SET LEAP (01 R15, R17) -/

/-- The codes of a pending leap (11 section 11.1). -/
theorem Leap.ofCode_eq (e : RowSec) (k : Nat) : Leap.ofCode e k =
    if 2 < k then Option.none else some (if k = 0 then .none else if k = 1 then .insert e else .delete e) := by
  match k with
  | 0 => rfl
  | 1 => rfl
  | 2 => rfl
  | k + 3 => rfl

theorem actSetTime_of_unreferenced {t : State} (h : t.tsu.state.referenced = false) :
    actSetTime r t = ⟨t.setTsu (Tsu.refresh { t.tsu with
      staged := some (readSetTime r.payload), slew := t.tsu.slew.abandon .setTime }), .done, []⟩ :=
  if_neg (Bool.eq_false_iff.mp h)

/-- What SET LEAP does, by its kind and the timescale state. -/
theorem actSetLeap_eq (t : State) : actSetLeap r t =
    let q := LeapReq.read r.payload
    if 2 < q.kind then .refuse t .invalid
    else if t.tsu.state.referenced then .refuse t .wrongState
    else ⟨t.setTsu { t.tsu with
        utc := clamp (-128) 127 q.utc
        leap := if q.kind = 0 then .none else if q.kind = 1 then .insert q.second else .delete q.second },
      if clamp (-128) 127 q.utc = q.utc then .done else .doneClamped, []⟩ := by
  unfold actSetLeap
  simp only [Leap.ofCode_eq, Result.ofClamp_ne]
  by_cases h : 2 < (LeapReq.read r.payload).kind <;> simp only [h, if_true, if_false]

/-- Settles O20: each request's act by the timescale state and the leap kind. -/
theorem setTimeAndSetLeapNeedNoReference : Obligations.SetTimeAndSetLeapNeedNoReference := by
  intro s r
  have owned : s.tsu.state = .acquiring ∨ s.tsu.state = .locked →
      ((s.dropFrame s.mlc.ctr).taken r).tsu.state.referenced = true := by
    rw [State.taken_tsu]
    exact (TsState.referenced_iff _).mpr
  have free : s.tsu.state = .freerun ∨ s.tsu.state = .holdover →
      ((s.dropFrame s.mlc.ctr).taken r).tsu.state.referenced = false := by
    rw [State.taken_tsu]
    exact (TsState.unreferenced_iff _).mpr
  constructor
  · intro h w
    refine ⟨fun hst => ?_, fun hst => ?_⟩
    · exact congrArg _ (State.serve_refused h (by decide) (if_pos (owned hst)))
    · exact congrArg _ (State.serve_setTsu h (by decide)
        (fun t => Tsu.refresh { t with staged := some (readSetTime r.payload), slew := t.slew.abandon .setTime }) rfl
        (actSetTime_of_unreferenced (free hst)))
  · intro h q utc leap res
    refine ⟨fun hk => ?_, fun hk hst => ?_, fun hk hst => ?_⟩
    · refine congrArg _ (State.serve_refused h (by decide) ?_)
      rw [actSetLeap_eq]
      exact if_pos hk
    · refine congrArg _ (State.serve_refused h (by decide) ?_)
      rw [actSetLeap_eq]
      exact (if_neg (not_lt.mpr hk)).trans (if_pos (owned hst))
    · have hr : res.refuses = false := by
        simp only [res]
        split <;> rfl
      refine congrArg _ (State.serve_setTsu h (by decide) (fun t => { t with utc := utc, leap := leap }) hr ?_)
      rw [actSetLeap_eq]
      exact (if_neg (not_lt.mpr hk)).trans (if_neg (Bool.eq_false_iff.mp (free hst)))

end TimescaleRequests
end Sys2Proof.Machine
end

section
/-! PROOFS. Slews, steps, and the runs toward lock and unlock. -/
namespace Sys2Proof.Machine

/-! ### Slews (01 R14) -/

/-- Of the values between 0 and `v` that limits on both sides of 0 allow, the clamped `v` is the farthest from 0. -/
theorem between_clamp {lo hi v y : Int} (hy : (0 ≤ y ∧ y ≤ v) ∨ (v ≤ y ∧ y ≤ 0))
    (hlo : lo ≤ y) (hhi : y ≤ hi) : (0 ≤ y ∧ y ≤ clamp lo hi v) ∨ (clamp lo hi v ≤ y ∧ y ≤ 0) := by
  unfold clamp
  split
  · omega
  · split <;> omega

/-- A settled slew that goes on: the term taken off, the new term within its three limits. -/
theorem Slew.settle_of_running (w : Slew) (f : Int) (h : w.remainder ≠ 0) (k : w.remainder - w.term ≠ 0) :
    w.settle f = { w with
      remainder := w.remainder - w.term
      term := limitTerm f (clamp (-((w.rate * w.boost : Nat) : Int)) (w.rate * w.boost) (w.remainder - w.term)) } :=
  (if_neg h).trans (if_neg k)

/-- A settled slew that has come to its end. -/
theorem Slew.settle_of_completed (w : Slew) (f : Int) (h : w.remainder ≠ 0) (k : w.remainder - w.term = 0) :
    w.settle f = { w with remainder := 0, term := 0, ended := .completed } :=
  (if_neg h).trans (if_pos k)

/-- The total limit leaves a term the room it needs (01 R14). -/
theorem limitTerm_total (f v : Int) :
    -200000000 ≤ f + 1000 * limitTerm f v ∧ f + 1000 * limitTerm f v ≤ 200000000 := by
  have := clamp_mem (lo := -((200000000 + f) / 1000)) (hi := (200000000 - f) / 1000) v (by omega)
  unfold limitTerm Config.totalRateMax
  omega

/-- The term of a settled slew is the largest within its limits. -/
theorem Slew.settled_term (k : Nat) (f r : Int) (hl : -200000000 ≤ f) (hh : f ≤ 200000000) :
    let x := limitTerm f (clamp (-(k : Int)) k r)
    x.natAbs ≤ k ∧ ((0 ≤ x ∧ x ≤ r) ∨ (r ≤ x ∧ x ≤ 0))
      ∧ ∀ y : Int, y.natAbs ≤ k → (0 ≤ y ∧ y ≤ r) ∨ (r ≤ y ∧ y ≤ 0) →
        -200000000 ≤ f + 1000 * y → f + 1000 * y ≤ 200000000 → y.natAbs ≤ x.natAbs := by
  intro x
  have hk : -(k : Int) ≤ 0 ∧ (0 : Int) ≤ k := by omega
  have hm := clamp_mem (lo := -(k : Int)) (hi := k) r (by omega)
  have hc := clamp_between r hk.1 hk.2
  have hx := limitTerm_between f (clamp (-(k : Int)) k r) hl hh
  refine ⟨?_, ?_, fun y hy hb h1 h2 => ?_⟩
  · rcases Int.le_total 0 r with hr | hr
    · have := hx.1 (hc.1 hr).1
      omega
    · have := hx.2 (hc.2 hr).2
      omega
  · rcases Int.le_total 0 r with hr | hr
    · have := hx.1 (hc.1 hr).1
      have := hc.1 hr
      omega
    · have := hx.2 (hc.2 hr).2
      have := hc.2 hr
      omega
  · have hb1 := between_clamp (lo := -(k : Int)) (hi := k) hb (by omega) (by omega)
    have hb2 := between_clamp (lo := -((200000000 + f) / 1000)) (hi := (200000000 - f) / 1000) hb1
      (by omega) (by omega)
    have hx' : x = clamp (-((200000000 + f) / 1000)) ((200000000 - f) / 1000) (clamp (-(k : Int)) k r) := rfl
    omega

/-! ### Steps (01 R11) -/

/-- The difference of a time worked out to the one it starts from, within the range of row seconds. -/
theorem time_plus_diff (t : Time) (d : Int) (ht : t.ns < 1000000000) (hd : d.natAbs ≤ 70000000000000 * 1000000000) :
    (t.plus d).diff t = d := by
  have hq : -(2 ^ 47) ≤ (t.ns + d) / 1000000000 ∧ (t.ns + d) / 1000000000 < 2 ^ 47 := by omega
  have hs : secDiff (t.sec + BitVec.ofInt 48 ((t.ns + d) / 1000000000)) t.sec = (t.ns + d) / 1000000000 := by
    unfold secDiff
    rw [show t.sec + BitVec.ofInt 48 ((t.ns + d) / 1000000000) - t.sec = BitVec.ofInt 48 ((t.ns + d) / 1000000000) by
      rw [BitVec.add_comm, BitVec.add_sub_cancel], BitVec.toInt_ofInt]
    exact Int.bmod_eq_of_le (by omega) (by omega)
  simp only [Time.diff, Time.plus, nsPerSec, Nat.cast_ofNat]
  rw [hs]
  omega

/-- Settles O22, part by part: a settled slew completes or goes on with the largest term; a step's value, by the arithmetic of
times; what it raises. -/
theorem slewsAndStepsMoveByTheirAmounts : Obligations.SlewsAndStepsMoveByTheirAmounts := by
  refine ⟨?_, ?_, ?_⟩
  · intro w f hr hl hh x
    by_cases hk : w.remainder - w.term = 0
    · have hx : x = { w with remainder := 0, term := 0, ended := .completed } := w.settle_of_completed f hr hk
      rw [hx]
      exact ⟨hk.symm, rfl, rfl, fun _ => ⟨rfl, rfl⟩, fun h => absurd rfl h⟩
    · have hx : x = _ := w.settle_of_running f hr hk
      rw [hx]
      obtain ⟨hmax, hbetween, hlargest⟩ := Slew.settled_term (w.rate * w.boost) f (w.remainder - w.term) hl hh
      have hroom := limitTerm_total f (clamp (-((w.rate * w.boost : Nat) : Int)) (w.rate * w.boost : Nat)
        (w.remainder - w.term))
      push_cast at hmax hbetween hlargest hroom
      refine ⟨rfl, rfl, rfl, fun h => absurd h hk, fun _ => ⟨rfl, ?_, ?_, ?_, ?_, ?_⟩⟩
      all_goals push_cast
      · exact hmax
      · exact hbetween
      · exact hroom.1
      · exact hroom.2
      · exact hlargest
  · intro t e ht he u
    refine ⟨?_, ⟨time_plus_ns_lt _ _, ht.2⟩, rfl, rfl, rfl, rfl, rfl, rfl, rfl, rfl⟩
    exact time_plus_diff t.ts.capture (-e) ht.1 (by omega)
  · intro t raised
    refine ⟨fun e => rfl, ?_, fun hn => ?_⟩
    · intro T hT a
      simp only [Tsu.step, hT]
      rfl
    · simp only [Tsu.step, hn]

end Sys2Proof.Machine
end

section
/-! PROOFS. The runs toward lock and unlock (01 R7; 02 R33, R35). -/
namespace Sys2Proof.Machine

section Runs

variable {t : Tsu} {e : PhaseErr}

/-- A step is wanted for a gross error or one from the threshold on, where the policy takes it in the state (02 R33). -/
theorem Tsu.wantsStep_iff : t.wantsStep e = true ↔
    (e.gross = true ∨ t.cfg.stepThr ≤ e.e.natAbs)
      ∧ (t.cfg.policy = .always ∨ t.cfg.policy = .acquireOnly ∧ t.state = .acquiring) := by
  unfold Tsu.wantsStep
  cases t.cfg.policy <;> simp

/-- An update at which no step is taken filters, counts and pushes (02 R33 to R35). -/
theorem Tsu.loopUpdate_of_kept (h : t.wantsStep e = false) :
    t.loopUpdate e = (((t.filter e).countLock e).pushRing, none) := by
  rcases t.loopUpdate_cases e with ⟨k, -⟩ | ⟨-, k⟩
  · rw [h] at k
    cases k
  · exact k

/-! ### The count (02 R35) -/

/-- In ACQUIRING an error below the lock threshold raises the lock run, to LOCKED at 8; any other ends it. -/
theorem Tsu.countLock_of_acquiring (h : t.state = .acquiring) : t.countLock e =
    if e.gross = false ∧ e.e.natAbs < t.cfg.lockThr then
      if 7 ≤ t.lockRun then { t with state := .locked, lockedSince := true, lockRun := 0, unlockRun := 0 }
      else { t with lockRun := t.lockRun + 1 }
    else { t with lockRun := 0 } := by
  unfold Tsu.countLock
  rw [h]
  simp [show ∀ n : Nat, 8 ≤ n + 1 ↔ 7 ≤ n by omega]

/-- In LOCKED an error from the unlock threshold on raises the unlock run, to ACQUIRING at 3; any other ends it. -/
theorem Tsu.countLock_of_locked (h : t.state = .locked) : t.countLock e =
    if e.gross = true ∨ t.cfg.unlockThr ≤ e.e.natAbs then
      if 2 ≤ t.unlockRun then { t with state := .acquiring, lockRun := 0, unlockRun := 0 }
      else { t with unlockRun := t.unlockRun + 1 }
    else { t with unlockRun := 0 } := by
  unfold Tsu.countLock
  rw [h]
  simp [show ∀ n : Nat, 3 ≤ n + 1 ↔ 2 ≤ n by omega]

theorem Tsu.countLock_of_unreferenced (h : t.state.referenced = false) : t.countLock e = t := by
  rcases (TsState.unreferenced_iff _).mp h with h | h <;> simp [Tsu.countLock, h]

/-- The push leaves all but the ring. -/
theorem Tsu.pushRing_frame : t.pushRing = { t with
    ring := if t.state = .locked then (t.ring ++ [t.fLoop]).drop (t.ring.length + 1 - 64) else t.ring } := by
  unfold Tsu.pushRing
  split <;> rfl

/-- The count leaves all but the state, the two runs and the flag of R7, which the entry to LOCKED sets. -/
theorem Tsu.countLock_frame : t.countLock e = { t with
    state := (t.countLock e).state
    lockRun := (t.countLock e).lockRun
    unlockRun := (t.countLock e).unlockRun
    lockedSince := decide (t.lockedSince = true ∨ (t.state = .acquiring ∧ (t.countLock e).state = .locked)) } := by
  cases hst : t.state with
  | acquiring =>
    rw [Tsu.countLock_of_acquiring hst]
    split
    · split <;> simp [hst]
    · simp [hst]
  | locked =>
    rw [Tsu.countLock_of_locked hst]
    split
    · split <;> simp
    · simp
  | freerun =>
    rw [Tsu.countLock_of_unreferenced (by rw [hst]; rfl)]
    simp
  | holdover =>
    rw [Tsu.countLock_of_unreferenced (by rw [hst]; rfl)]
    simp

/-! ### One update -/

@[simp] theorem Tsu.filter_cfg : (t.filter e).cfg = t.cfg := rfl
@[simp] theorem Tsu.filter_lockRun : (t.filter e).lockRun = t.lockRun := rfl
@[simp] theorem Tsu.filter_unlockRun : (t.filter e).unlockRun = t.unlockRun := rfl

/-- Where no step is taken an update's state and runs are those of the count. -/
theorem Tsu.loopUpdate_counts (h : t.wantsStep e = false) :
    (t.loopUpdate e).1.state = ((t.filter e).countLock e).state
      ∧ (t.loopUpdate e).1.lockRun = ((t.filter e).countLock e).lockRun
      ∧ (t.loopUpdate e).1.unlockRun = ((t.filter e).countLock e).unlockRun
      ∧ (t.loopUpdate e).1.lockedSince = ((t.filter e).countLock e).lockedSince := by
  rw [Tsu.loopUpdate_of_kept h, Tsu.pushRing_frame]
  exact ⟨rfl, rfl, rfl, rfl⟩

/-- The part of 02 R35 for ACQUIRING. -/
theorem Tsu.loopUpdate_of_acquiring (h : t.wantsStep e = false) (hst : t.state = .acquiring) :
    (¬(e.gross = false ∧ e.e.natAbs < t.cfg.lockThr) →
      (t.loopUpdate e).1.state = .acquiring ∧ (t.loopUpdate e).1.lockRun = 0
        ∧ (t.loopUpdate e).1.unlockRun = t.unlockRun)
    ∧ (e.gross = false ∧ e.e.natAbs < t.cfg.lockThr → t.lockRun < 7 →
      (t.loopUpdate e).1.state = .acquiring ∧ (t.loopUpdate e).1.lockRun = t.lockRun + 1
        ∧ (t.loopUpdate e).1.unlockRun = t.unlockRun)
    ∧ (e.gross = false ∧ e.e.natAbs < t.cfg.lockThr → 7 ≤ t.lockRun →
      (t.loopUpdate e).1.state = .locked ∧ (t.loopUpdate e).1.lockRun = 0 ∧ (t.loopUpdate e).1.unlockRun = 0) := by
  obtain ⟨hs, hl, hu, -⟩ := Tsu.loopUpdate_counts h
  have hc := Tsu.countLock_of_acquiring (t := t.filter e) (e := e) hst
  rw [Tsu.filter_cfg, Tsu.filter_lockRun] at hc
  rw [hs, hl, hu]
  refine ⟨fun far => ?_, fun near hr => ?_, fun near hr => ?_⟩
  · rw [hc, if_neg far]
    exact ⟨hst, rfl, rfl⟩
  · rw [hc, if_pos near, if_neg (not_le.mpr hr)]
    exact ⟨hst, rfl, rfl⟩
  · rw [hc, if_pos near, if_pos hr]
    exact ⟨rfl, rfl, rfl⟩

/-- The part of 02 R35 for LOCKED. -/
theorem Tsu.loopUpdate_of_locked (h : t.wantsStep e = false) (hst : t.state = .locked) :
    (¬(e.gross = true ∨ t.cfg.unlockThr ≤ e.e.natAbs) →
      (t.loopUpdate e).1.state = .locked ∧ (t.loopUpdate e).1.unlockRun = 0 ∧ (t.loopUpdate e).1.lockRun = t.lockRun)
    ∧ (e.gross = true ∨ t.cfg.unlockThr ≤ e.e.natAbs → t.unlockRun < 2 →
      (t.loopUpdate e).1.state = .locked ∧ (t.loopUpdate e).1.unlockRun = t.unlockRun + 1
        ∧ (t.loopUpdate e).1.lockRun = t.lockRun)
    ∧ (e.gross = true ∨ t.cfg.unlockThr ≤ e.e.natAbs → 2 ≤ t.unlockRun →
      (t.loopUpdate e).1.state = .acquiring ∧ (t.loopUpdate e).1.lockRun = 0 ∧ (t.loopUpdate e).1.unlockRun = 0) := by
  obtain ⟨hs, hl, hu, -⟩ := Tsu.loopUpdate_counts h
  have hc := Tsu.countLock_of_locked (t := t.filter e) (e := e) hst
  rw [Tsu.filter_cfg, Tsu.filter_unlockRun] at hc
  rw [hs, hl, hu]
  refine ⟨fun near => ?_, fun far hr => ?_, fun far hr => ?_⟩
  · rw [hc, if_neg near]
    exact ⟨hst, rfl, rfl⟩
  · rw [hc, if_pos far, if_neg (not_le.mpr hr)]
    exact ⟨hst, rfl, rfl⟩
  · rw [hc, if_pos far, if_pos hr]
    exact ⟨rfl, rfl, rfl⟩

/-- An update at which no step is taken changes nothing but the state, the runs, the flag of R7, the filter's values, the last
phase error and, in LOCKED, the ring. -/
theorem Tsu.loopUpdate_frame (h : t.wantsStep e = false) : (t.loopUpdate e).1 = { t with
    state := (t.loopUpdate e).1.state
    integ := (t.loopUpdate e).1.integ
    fLoop := (t.loopUpdate e).1.fLoop
    lastErr := some e
    lockRun := (t.loopUpdate e).1.lockRun
    unlockRun := (t.loopUpdate e).1.unlockRun
    lockedSince := decide (t.lockedSince = true ∨ (t.state = .acquiring ∧ (t.loopUpdate e).1.state = .locked))
    ring := if (t.loopUpdate e).1.state = .locked then
        (t.ring ++ [(t.loopUpdate e).1.fLoop]).drop (t.ring.length + 1 - 64)
      else t.ring } := by
  rw [Tsu.loopUpdate_of_kept h]
  simp only
  rw [Tsu.pushRing_frame, Tsu.countLock_frame]
  rfl

/-! ### Many updates -/

/-- No step is wanted for an error that is not gross and is within the step threshold. -/
theorem Tsu.wantsStep_of_small (hg : e.gross = false) (hs : e.e.natAbs < t.cfg.stepThr) : t.wantsStep e = false := by
  rw [Bool.eq_false_iff, ne_eq, Tsu.wantsStep_iff]
  rintro ⟨h | h, -⟩
  · rw [hg] at h
    cases h
  · omega

/-- The state that a list of updates leaves. -/
def Tsu.updates (t : Tsu) (es : List PhaseErr) : Tsu := es.foldl (fun u e => (u.loopUpdate e).1) t

theorem Tsu.loopUpdate_cfg (h : t.wantsStep e = false) : (t.loopUpdate e).1.cfg = t.cfg := by
  rw [Tsu.loopUpdate_frame h]

/-- Updates below the lock threshold raise the lock run in ACQUIRING as long as it stays below 8. -/
theorem Tsu.updates_of_acquiring (es : List PhaseErr) (hes : ∀ e ∈ es, e.gross = false ∧ e.e.natAbs < t.cfg.stepThr)
    (hlock : ∀ e ∈ es, e.e.natAbs < t.cfg.lockThr) (hst : t.state = .acquiring) (hr : t.lockRun + es.length < 8) :
    (t.updates es).state = .acquiring ∧ (t.updates es).lockRun = t.lockRun + es.length
      ∧ (t.updates es).cfg = t.cfg := by
  induction es generalizing t with
  | nil => exact ⟨hst, rfl, rfl⟩
  | cons e es ih =>
    have hw := Tsu.wantsStep_of_small (hes e (by simp)).1 (hes e (by simp)).2
    have hc := Tsu.loopUpdate_cfg hw
    simp only [List.length_cons] at hr
    obtain ⟨hs, hl, -⟩ := (Tsu.loopUpdate_of_acquiring hw hst).2.1 ⟨(hes e (by simp)).1, hlock e (by simp)⟩ (by omega)
    obtain ⟨i1, i2, i3⟩ := ih (t := (t.loopUpdate e).1)
      (fun f hf => by rw [hc]; exact hes f (by simp [hf])) (fun f hf => by rw [hc]; exact hlock f (by simp [hf])) hs
      (by omega)
    refine ⟨i1, i2.trans ?_, i3.trans hc⟩
    simp only [List.length_cons]
    omega

/-- Updates from the unlock threshold on raise the unlock run in LOCKED as long as it stays below 3. -/
theorem Tsu.updates_of_locked (es : List PhaseErr) (hes : ∀ e ∈ es, e.gross = false ∧ e.e.natAbs < t.cfg.stepThr)
    (hunlock : ∀ e ∈ es, t.cfg.unlockThr ≤ e.e.natAbs) (hst : t.state = .locked) (hr : t.unlockRun + es.length < 3) :
    (t.updates es).state = .locked ∧ (t.updates es).unlockRun = t.unlockRun + es.length
      ∧ (t.updates es).cfg = t.cfg := by
  induction es generalizing t with
  | nil => exact ⟨hst, rfl, rfl⟩
  | cons e es ih =>
    have hw := Tsu.wantsStep_of_small (hes e (by simp)).1 (hes e (by simp)).2
    have hc := Tsu.loopUpdate_cfg hw
    simp only [List.length_cons] at hr
    obtain ⟨hs, hl, -⟩ := (Tsu.loopUpdate_of_locked hw hst).2.1 (.inr (hunlock e (by simp))) (by omega)
    obtain ⟨i1, i2, i3⟩ := ih (t := (t.loopUpdate e).1)
      (fun f hf => by rw [hc]; exact hes f (by simp [hf])) (fun f hf => by rw [hc]; exact hunlock f (by simp [hf])) hs
      (by omega)
    refine ⟨i1, i2.trans ?_, i3.trans hc⟩
    simp only [List.length_cons]
    omega

/-- A list of `n + 1` is one of `n` and a last element. -/
theorem exists_append_of_length {α : Type} {xs : List α} {n : Nat} (h : xs.length = n + 1) :
    ∃ (ys : List α) (x : α), xs = ys ++ [x] ∧ ys.length = n := by
  have hne : xs ≠ [] := fun e => by simp [e] at h
  refine ⟨xs.dropLast, xs.getLast hne, (List.dropLast_append_getLast hne).symm, ?_⟩
  simp [h]

/-- Settles O23: the runs by induction on the list of updates, their ends by the update that makes the eighth and the third. -/
theorem lockAndUnlockNeedTheirRuns : Obligations.LockAndUnlockNeedTheirRuns := by
  refine ⟨?_, ?_⟩
  · intro t es run hes
    refine ⟨fun hst hr hlock => ⟨fun hn => ?_, fun hn => ?_⟩, fun hst hr hun => ⟨fun hn => ?_, fun hn => ?_⟩⟩
    · exact (Tsu.updates_of_acquiring es hes hlock hst (by omega)).1
    · obtain ⟨fs, e, rfl, hfs⟩ := exists_append_of_length hn
      have he := hes e (by simp)
      obtain ⟨hs, hl, hc⟩ := Tsu.updates_of_acquiring fs (fun f hf => hes f (by simp [hf]))
        (fun f hf => hlock f (by simp [hf])) hst (by omega)
      have hw : (t.updates fs).wantsStep e = false := Tsu.wantsStep_of_small he.1 (by rw [hc]; exact he.2)
      have hlocked := ((Tsu.loopUpdate_of_acquiring hw hs).2.2 ⟨he.1, by rw [hc]; exact hlock e (by simp)⟩ (by omega)).1
      have hu : (fs ++ [e]).foldl run t = ((t.updates fs).loopUpdate e).1 := List.foldl_append
      rw [hu]
      refine ⟨hlocked, ?_, ?_⟩
      · rw [Tsu.loopUpdate_frame hw]
        simp [hs, hlocked]
      · have hring := congrArg Tsu.ring (Tsu.loopUpdate_frame hw)
        simp only [if_pos hlocked] at hring
        rw [hring, List.getLast?_drop, if_neg (by simp), List.getLast?_concat]
    · exact (Tsu.updates_of_locked es hes hun hst (by omega)).1
    · obtain ⟨fs, e, rfl, hfs⟩ := exists_append_of_length hn
      have he := hes e (by simp)
      obtain ⟨hs, hl, hc⟩ := Tsu.updates_of_locked fs (fun f hf => hes f (by simp [hf]))
        (fun f hf => hun f (by simp [hf])) hst (by omega)
      have hw : (t.updates fs).wantsStep e = false := Tsu.wantsStep_of_small he.1 (by rw [hc]; exact he.2)
      have hu : (fs ++ [e]).foldl run t = ((t.updates fs).loopUpdate e).1 := List.foldl_append
      rw [hu]
      exact ((Tsu.loopUpdate_of_locked hw hs).2.2 (.inr (by rw [hc]; exact hun e (by simp))) (by omega)).1
  · intro t e wanted takes near far y hk
    have hw : t.wantsStep e = false := by
      rw [Bool.eq_false_iff, ne_eq, Tsu.wantsStep_iff]
      exact hk
    exact ⟨Tsu.loopUpdate_of_acquiring hw, Tsu.loopUpdate_of_locked hw, Tsu.loopUpdate_frame hw⟩

end Runs
end Sys2Proof.Machine
end

section
/-! PROOFS. TSU's boundary work and what it raises (01 R10). -/
namespace Sys2Proof.Machine

section TimescaleBoundary

variable (t : Tsu)

/-- A loop update is made where a reference is selected (01 R10). -/
theorem Tsu.updated_eq (rep : Report) : t.updated rep =
    match rep.good with
    | some (e, _) =>
      if (t.selected rep).state = .acquiring ∨ (t.selected rep).state = .locked then (t.selected rep).loopUpdate e
      else (t.selected rep, none)
    | none => (t.selected rep, none) := by
  unfold Tsu.updated
  simp only [TsState.referenced_iff] <;> rfl

/-! ### Selection and holdover (01 R6, R8) -/

theorem Tsu.takeSelection_of_freerun (h : t.state = .freerun) :
    t.takeSelection true = t.acquire t.cfg.freerun ∧ t.takeSelection false = t := by
  simp [Tsu.takeSelection, h]

theorem Tsu.takeSelection_of_holdover (h : t.state = .holdover) :
    t.takeSelection true = t.acquire t.holdRate ∧ t.takeSelection false = t := by
  simp [Tsu.takeSelection, h]

theorem Tsu.takeSelection_of_acquiring (h : t.state = .acquiring) : t.takeSelection true = t ∧ t.takeSelection false =
    if t.lockedSince then t.enterHoldover else { t with state := .freerun, fLoop := t.cfg.freerun } := by
  simp [Tsu.takeSelection, h]

theorem Tsu.takeSelection_of_locked (h : t.state = .locked) :
    t.takeSelection true = t ∧ t.takeSelection false = t.enterHoldover := by
  simp [Tsu.takeSelection, h]

/-- The holdover rate: the freerun rate with an empty ring, else the limited mean (01 R8). -/
theorem Tsu.enterHoldover_eq : t.enterHoldover =
    let rate := if t.ring = [] then t.cfg.freerun else t.cfg.limit (meanOf t.ring)
    { t with
      state := .holdover
      holdRate := rate
      fLoop := rate
      holdCount := 0
      holdExpired := false
      lockRun := 0
      unlockRun := 0 } := by
  unfold Tsu.enterHoldover
  simp only [List.isEmpty_iff]

theorem Tsu.countHoldover_of_other (h : t.state ≠ .holdover) : t.countHoldover = (t, []) := if_neg h

theorem Tsu.countHoldover_of_holdover (h : t.state = .holdover) : t.countHoldover =
    let n := if t.holdCount + 1 ≤ 4294967295 then t.holdCount + 1 else 4294967295
    if t.cfg.holdLimit ≤ n ∧ t.holdExpired = false then
      ({ t with holdCount := n, holdExpired := true }, [.notice .holdoverLimit (.holdoverLimit n t.cfg.holdLimit)])
    else ({ t with holdCount := n }, []) := if_pos h

/-! ### The UTC offset and the leap (01 R16) -/

theorem Tsu.adoptLeap_of_leap {m : RefMessage} {l : Leap} (h : m.leap = some l) : t.adoptLeap m =
    if l = t.leap then (t, []) else ({ t with leap := l }, [.notice .leap (.leap .pending t.utc l)]) := by
  unfold Tsu.adoptLeap
  rw [h]
  rfl

theorem Tsu.adoptLeap_of_none {m : RefMessage} (h : m.leap = none) : t.adoptLeap m = (t, []) := by
  unfold Tsu.adoptLeap
  rw [h]

/-- A message's leap by its warning byte (11 section 11.5). -/
theorem RefMessage.leap_eq (m : RefMessage) : m.leap = if 2 < m.warn.toNat then none
    else some (if m.warn.toNat = 0 then .none else if m.warn.toNat = 1 then .insert m.eff else .delete m.eff) :=
  Leap.ofCode_eq _ _

theorem Tsu.applyLeap_of_none (ended : RowSec) (h : t.leap = .none) : t.applyLeap ended = (t, []) := by
  unfold Tsu.applyLeap
  rw [h]

theorem Tsu.applyLeap_of_insert {e : RowSec} (ended : RowSec) (h : t.leap = .insert e) : t.applyLeap ended =
    if e.toNat ≤ ended.toNat then
      let u := { t with utc := clamp (-128) 127 (t.utc + 1), leap := .none }
      (u, u.leapRaises .insert)
    else (t, []) := by
  unfold Tsu.applyLeap
  rw [h]

theorem Tsu.applyLeap_of_delete {e : RowSec} (ended : RowSec) (h : t.leap = .delete e) : t.applyLeap ended =
    if e.toNat ≤ ended.toNat then
      let u := { t with utc := clamp (-128) 127 (t.utc - 1), leap := .none }
      (u, u.leapRaises .delete)
    else (t, []) := by
  unfold Tsu.applyLeap
  rw [h]

/-! ### The statement -/

/-- The boundary's parts under the names of 01 R10, and what they raise in their order. -/
theorem Tsu.boundary_parts (rep : Report) :
    (∀ t2, t2 = t.updated rep → t2.1.countHoldover.1 = t.held rep) ∧
    (match rep.good with
      | some (_, m) => (((t.held rep).adoptOffset m).1.adoptLeap m).1
      | none => t.held rep) = (t.adopted rep).1 ∧
    (match rep.good with
      | some (_, m) => ((t.held rep).adoptOffset m).2 ++ (((t.held rep).adoptOffset m).1.adoptLeap m).2
      | none => []) = (t.adopted rep).2 := by
  refine ⟨fun _ h => h ▸ rfl, ?_, ?_⟩ <;> unfold Tsu.adopted <;> cases rep.good <;> rfl

/-- Settles O16: the parts in their order are those of `Tsu.boundary_fst` and `Tsu.boundary_snd`; each part by its cases. -/
theorem boundaryWorkOfTheTimescale : Obligations.BoundaryWorkOfTheTimescale := by
  refine ⟨?_, ?_, ?_, ?_, ?_⟩
  · intro t rep t1 t2 t3 t4 t5 w t6 changed adopted
    have h2 : t2 = t.updated rep := (t.updated_eq rep).symm
    have h3 : t3 = t.held rep := (t.boundary_parts rep).1 _ h2
    have h4 : t4 = (t.adopted rep).1 := by
      simp only [t4, h3]
      exact (t.boundary_parts rep).2.1
    have ha : adopted = (t.adopted rep).2 := by
      simp only [adopted, h3]
      exact (t.boundary_parts rep).2.2
    have h6 : t6 = t.slewed rep := by
      simp only [t6, w, t5, h4]
      rfl
    rw [Tsu.boundary_fst, Tsu.boundary_snd, h2, h4, h6, ha]
    exact ⟨rfl, rfl⟩
  · intro t acquired rate held
    have hh : t.enterHoldover = held := t.enterHoldover_eq
    refine ⟨t.takeSelection_of_freerun, t.takeSelection_of_holdover, fun h => ?_, fun h => ?_⟩
    · rw [← hh]
      exact t.takeSelection_of_acquiring h
    · rw [← hh]
      exact t.takeSelection_of_locked h
  · intro t n
    refine ⟨t.countHoldover_of_other, fun h hl he => ?_, fun h hl => ?_⟩
    · rw [t.countHoldover_of_holdover h]
      exact if_pos ⟨hl, he⟩
    · rw [t.countHoldover_of_holdover h]
      refine if_neg fun k => ?_
      rcases hl with hl | hl
      · exact absurd k.1 (not_le.mpr hl)
      · exact absurd (hl.symm.trans k.2) (by simp)
  · intro t m ended raised
    refine ⟨fun h => if_pos h, fun h => if_neg h, fun h => ?_, fun l hl => ?_, t.applyLeap_of_none ended, fun e he hlt => ?_,
      ?_, ?_⟩
    · exact t.adoptLeap_of_none (m.leap_eq.trans (if_pos h))
    · have hm : m.leap = some l := by
        rw [m.leap_eq]
        rcases hl with ⟨h, rfl⟩ | ⟨h, rfl⟩ | ⟨h, rfl⟩ <;> simp [h]
      rw [t.adoptLeap_of_leap hm]
      exact ⟨fun h => if_pos h, fun h => if_neg h⟩
    · rcases he with he | he
      · rw [t.applyLeap_of_insert ended he]
        exact if_neg (not_le.mpr hlt)
      · rw [t.applyLeap_of_delete ended he]
        exact if_neg (not_le.mpr hlt)
    · intro e he hle u
      exact (t.applyLeap_of_insert ended he).trans (if_pos hle)
    · intro e he hle u
      exact (t.applyLeap_of_delete ended he).trans (if_pos hle)
  · intro t e far takes ef i f
    refine ⟨fun h => if_pos (Tsu.wantsStep_iff.mpr h), fun h => ?_⟩
    have hw : t.wantsStep e = false := by
      rw [Bool.eq_false_iff, ne_eq, Tsu.wantsStep_iff]
      exact h
    rw [Tsu.loopUpdate_of_kept hw, Tsu.pushRing_frame, Tsu.countLock_frame]
    exact ⟨rfl, rfl, rfl, rfl, rfl, rfl⟩

end TimescaleBoundary
end Sys2Proof.Machine
end

section
/-! PROOFS. The passing of oscillator time (01 R1, R4, R5): the increment's range, what ticks add, the roll's second, and
the tick that a timed event waits for. -/
namespace Sys2Proof.Machine

/-! ### The increment -/

/-- The increment in its range over the full range of the total rate. -/
theorem tickIncrement_mem {f : Int} (hl : -200000000 ≤ f) (hh : f ≤ 200000000) :
    34352866420 ≤ tickIncrement f ∧ tickIncrement f ≤ 34366610316 := by
  have hr : -6871948 + 1 ≤ roundDiv (34359738368 * f) 1000000000000 + 1
      ∧ roundDiv (34359738368 * f) 1000000000000 ≤ 6871948 := by
    unfold roundDiv
    split <;> omega
  unfold tickIncrement
  omega

theorem State.tickUnits_mem {s : State} (h : s.tsu.RatesInRange) :
    34352866420 ≤ s.tickUnits ∧ s.tickUnits ≤ 34366610316 := by
  obtain ⟨hl, hh⟩ := clamp_mem (lo := -200000000) (hi := 200000000) (s.tsu.fLoop + 1000 * s.tsu.slew.term) (by decide)
  rw [← h.total] at hl hh
  exact tickIncrement_mem hl hh

/-! ### The timescale value and an advance -/

theorem Ts.units_eq (v : Ts) : v.units = v.ns * 4294967296 + v.frac := rfl

theorem Ts.advance_eq (v : Ts) (n : Nat) : v.advance n =
    ⟨v.sec + BitVec.ofNat 48 ((v.units + n) / (1000000000 * 4294967296)), (v.units + n) / 4294967296 % 1000000000,
      (v.units + n) % 4294967296⟩ := rfl

theorem Ts.units_lt {v : Ts} (h : v.InRange) : v.units < 1000000000 * 4294967296 := by
  have hn : v.ns < 1000000000 := h.1
  have hf : v.frac < 4294967296 := h.2
  rw [Ts.units_eq]
  omega

/-- A value's nanoseconds from its units. -/
theorem Ts.ns_eq {v : Ts} (h : v.InRange) : v.ns = v.units / 4294967296 := by
  have hf : v.frac < 4294967296 := h.2
  rw [Ts.units_eq]
  omega

/-- An advance that stays in the second. -/
theorem Ts.advance_within {v : Ts} {n : Nat} (h : v.units + n < 1000000000 * 4294967296) :
    (v.advance n).sec = v.sec ∧ (v.advance n).units = v.units + n := by
  have hq : (v.units + n) / (1000000000 * 4294967296) = 0 := Nat.div_eq_of_lt h
  refine ⟨?_, ?_⟩
  · rw [Ts.advance_eq, hq]
    exact BitVec.add_zero _
  · rw [Ts.units_eq, Ts.advance_eq]
    dsimp only
    omega

/-- An advance into the next second. -/
theorem Ts.advance_over {v : Ts} {n : Nat} (hl : 1000000000 * 4294967296 ≤ v.units + n)
    (hh : v.units + n < 2 * (1000000000 * 4294967296)) :
    (v.advance n).sec = v.sec + 1 ∧ (v.advance n).units + 1000000000 * 4294967296 = v.units + n := by
  have hq : (v.units + n) / (1000000000 * 4294967296) = 1 := by omega
  refine ⟨?_, ?_⟩
  · rw [Ts.advance_eq, hq]
    rfl
  · rw [Ts.units_eq, Ts.advance_eq]
    dsimp only
    omega

theorem Ts.advance_zero {v : Ts} (h : v.InRange) : v.advance 0 = v := by
  obtain ⟨hs, hu⟩ := Ts.advance_within (v := v) (n := 0) ((Nat.add_zero _).symm ▸ Ts.units_lt h)
  have hi := Ts.advance_inRange v 0
  rw [Nat.add_zero] at hu
  have hn : (v.advance 0).ns = v.ns := by rw [Ts.ns_eq hi, Ts.ns_eq h, hu]
  have hf : (v.advance 0).frac = v.frac := by
    rw [Ts.units_eq, Ts.units_eq, hn] at hu
    omega
  generalize v.advance 0 = w at hs hn hf
  cases w
  cases v
  cases hs
  cases hn
  cases hf
  rfl

/-! ### How many ticks (01 R4) -/

/-- `ticksFor` is the first number of ticks that have brought the units. -/
theorem lt_ticksFor_iff {u inc n : Nat} (h : 0 < inc) : n < ticksFor u inc ↔ n * inc < u := by
  unfold ticksFor
  rw [Nat.lt_div_iff_mul_lt h]
  omega

theorem ticksFor_mul {u inc : Nat} (h : 0 < inc) : u ≤ ticksFor u inc * inc :=
  not_lt.mp ((lt_ticksFor_iff h).not.mp (lt_irrefl _))

theorem ticksFor_pred_mul {u inc : Nat} (h : 0 < inc) (hu : 0 < u) :
    0 < ticksFor u inc ∧ (ticksFor u inc - 1) * inc < u := by
  have hpos : 0 < ticksFor u inc := (lt_ticksFor_iff h).mpr (by simpa using hu)
  exact ⟨hpos, (lt_ticksFor_iff h).mp (Nat.sub_lt hpos one_pos)⟩

/-! ### What ticks do to TSU and the clock -/

section Ticks

variable (s : State)

theorem State.lapse_tsu : s.lapse.tsu = s.tsu := by
  obtain ⟨a, b, rx, n, h, -⟩ := s.lapse_eq
  rw [h]
  rfl

theorem State.lapse_clk : s.lapse.clk = s.clk := by
  obtain ⟨a, b, rx, n, h, -⟩ := s.lapse_eq
  rw [h]
  rfl

/-- Ticks change of TSU the timescale value only. -/
theorem State.runTicks_tsu (m : Nat) :
    (s.runTicks (m + 1)).tsu = { s.tsu with ts := s.tsu.ts.advance ((m + 1) * s.tickUnits) } := by
  rw [State.runTicks_succ, State.lapse_tsu]
  rfl

theorem State.runTicks_clk (m : Nat) :
    (s.runTicks (m + 1)).clk =
      { s.clk with
        elapsed := s.clk.elapsed + (m + 1) * s.tickUnits
        ticks := s.clk.ticks + (m + 1)
        tickFrom := (s.tsu.ts.advance (m * s.tickUnits)).capture
        rolled := none
        taken := [] } := by
  rw [State.runTicks_succ, State.lapse_clk]
  rfl

variable {s}

theorem State.runTicks_ts (h : s.tsu.ts.InRange) (n : Nat) :
    (s.runTicks n).tsu.ts = s.tsu.ts.advance (n * s.tickUnits) := by
  cases n with
  | zero => rw [Nat.zero_mul, Ts.advance_zero h, State.runTicks_zero]
  | succ m => rw [State.runTicks_tsu]

theorem State.ticksToRoll_eq (s : State) :
    s.ticksToRoll = ticksFor (1000000000 * 4294967296 - s.tsu.ts.units) s.tickUnits := rfl

/-- Ticks below the roll: the units they add stay inside the second. -/
theorem State.below_roll (h : 0 < s.tickUnits) {n : Nat} (hn : n < s.ticksToRoll) :
    s.tsu.ts.units + n * s.tickUnits < 1000000000 * 4294967296 := by
  rw [State.ticksToRoll_eq, lt_ticksFor_iff h] at hn
  omega

/-- Ticks below the roll stay in the second and add the increment each. -/
theorem State.runTicks_below_roll (h : 0 < s.tickUnits) (hi : s.tsu.ts.InRange) {n : Nat} (hn : n < s.ticksToRoll) :
    (s.runTicks n).tsu.ts.sec = s.tsu.ts.sec
      ∧ (s.runTicks n).tsu.ts.units = s.tsu.ts.units + n * s.tickUnits := by
  rw [State.runTicks_ts hi]
  exact Ts.advance_within (State.below_roll h hn)

/-- The roll's tick is the first that reaches the next second. -/
theorem State.ticksToRoll_spec (h : 0 < s.tickUnits) (hi : s.tsu.ts.InRange) :
    0 < s.ticksToRoll ∧ s.tsu.ts.units + (s.ticksToRoll - 1) * s.tickUnits < 1000000000 * 4294967296
      ∧ 1000000000 * 4294967296 ≤ s.tsu.ts.units + s.ticksToRoll * s.tickUnits := by
  have hu := Ts.units_lt hi
  obtain ⟨hpos, hpred⟩ := ticksFor_pred_mul (u := 1000000000 * 4294967296 - s.tsu.ts.units) h (by omega)
  have hmul := ticksFor_mul (u := 1000000000 * 4294967296 - s.tsu.ts.units) h
  rw [State.ticksToRoll_eq]
  exact ⟨hpos, by omega, by omega⟩

/-- At the roll the next second has begun, less than one increment ago. -/
theorem State.runTicks_roll (h : 0 < s.tickUnits) (hh : s.tickUnits < 1000000000 * 4294967296) (hi : s.tsu.ts.InRange) :
    (s.runTicks s.ticksToRoll).tsu.ts.sec = s.tsu.ts.sec + 1
      ∧ (s.runTicks s.ticksToRoll).tsu.ts.units < s.tickUnits := by
  obtain ⟨hpos, hpred, hroll⟩ := State.ticksToRoll_spec h hi
  have hstep : s.ticksToRoll * s.tickUnits = (s.ticksToRoll - 1) * s.tickUnits + s.tickUnits := by
    rw [← Nat.succ_mul, Nat.succ_eq_add_one, Nat.sub_add_cancel hpos]
  obtain ⟨hs, hu⟩ := Ts.advance_over (v := s.tsu.ts) hroll (by omega)
  rw [State.runTicks_ts hi]
  exact ⟨hs, by omega⟩

/-- Settles O11: the increment by its rounding, the ticks by the units they add. -/
theorem rollBeginsTheNextSecond : Obligations.RollBeginsTheNextSecond := by
  refine ⟨⟨fun f hl hh => ?_, by decide, by decide⟩, fun s hr hi => ?_⟩
  · obtain ⟨h1, h2⟩ := tickIncrement_mem hl hh
    omega
  · obtain ⟨hlo, hhi⟩ := State.tickUnits_mem hr
    have hpos : 0 < s.tickUnits := by omega
    obtain ⟨hs, hu⟩ := State.runTicks_roll hpos (by omega) hi
    have hin : (s.runTicks s.ticksToRoll).tsu.ts.InRange := by
      rw [State.runTicks_ts hi]
      exact Ts.advance_inRange _ _
    have hns := Ts.ns_eq hin
    exact ⟨fun n hn => State.runTicks_below_roll hpos hi hn, hs, by omega, hin⟩

/-! ### The tick that a timed event waits for (log entry 4) -/

theorem Time.diff_of_sec_eq {a b : Time} (h : a.sec = b.sec) : a.diff b = a.ns - b.ns := by
  have hz : secDiff a.sec b.sec = 0 := by
    rw [secDiff, h, BitVec.sub_self]
    rfl
  rw [Time.diff, hz]
  omega

/-- Ticks that reach an instant of the second, none before the last: the timescale comes to or past it at the last. -/
theorem State.runTicks_first (h : 0 < s.tickUnits) (hi : s.tsu.ts.InRange) {i : Time} (hsec : i.sec = s.tsu.ts.sec)
    {m : Nat} (hm : m + 1 < s.ticksToRoll) (hbefore : s.tsu.ts.units + m * s.tickUnits < i.ns * 4294967296)
    (hafter : i.ns * 4294967296 ≤ s.tsu.ts.units + (m + 1) * s.tickUnits) :
    0 < i.diff (s.runTicks (m + 1)).clk.tickFrom ∧ i.diff (s.runTicks (m + 1)).now ≤ 0 := by
  have from_eq : (s.runTicks (m + 1)).clk.tickFrom = (s.runTicks m).now := by
    rw [State.runTicks_clk]
    exact congrArg Ts.capture (State.runTicks_ts hi m).symm
  have in_range : ∀ n, (s.runTicks n).tsu.ts.InRange := fun n => State.runTicks_ts hi n ▸ Ts.advance_inRange _ _
  have diff_eq : ∀ n, n < s.ticksToRoll →
      i.diff (s.runTicks n).now = i.ns - ((s.tsu.ts.units + n * s.tickUnits) / 4294967296 : Nat) := by
    intro n hn
    obtain ⟨hs, hu⟩ := State.runTicks_below_roll h hi hn
    rw [Time.diff_of_sec_eq (hsec.trans hs.symm), ← hu, ← Ts.ns_eq (in_range n)]
    rfl
  rw [from_eq, diff_eq m (by omega), diff_eq (m + 1) hm]
  omega

/-- `reach` gives the first tick whose advance brings the timescale to or past the instant, the present one or a later one
of this second. -/
theorem State.reach_first (h : 0 < s.tickUnits) (hi : s.tsu.ts.InRange) {i : Time} {t : State} (ht : s.reach i = some t) :
    0 < i.diff t.clk.tickFrom ∧ i.diff t.now ≤ 0 := by
  unfold State.reach at ht
  split at ht
  case isTrue hat =>
    cases ht
    simpa [State.atTick] using hat
  case isFalse =>
    split at ht
    case isFalse => cases ht
    case isTrue hl =>
      obtain ⟨hsec, hlater⟩ := hl
      split at ht
      case isFalse => cases ht
      case isTrue hk =>
        rw [Time.diff_of_sec_eq hsec] at hlater
        have hns : s.now.ns = s.tsu.ts.units / 4294967296 := Ts.ns_eq hi
        obtain ⟨hpos, hpred⟩ := ticksFor_pred_mul (u := i.ns * 4294967296 - s.tsu.ts.units) h (by omega)
        have hmul := ticksFor_mul (u := i.ns * 4294967296 - s.tsu.ts.units) h
        obtain ⟨m, hm⟩ := Nat.exists_eq_add_one.mpr hpos
        rw [hm] at hk hpred hmul ht
        rw [Nat.add_sub_cancel] at hpred
        cases ht
        exact State.runTicks_first h hi hsec hk (by omega) (by omega)

/-- Ticks change nothing of TSU but the value; where no line has anything in assembly, nothing else but the clock. -/
theorem State.runTicks_tsu_only (n : Nat) : (s.runTicks n).tsu = { s.tsu with ts := (s.runTicks n).tsu.ts } := by
  cases n with
  | zero => rfl
  | succ m => rw [State.runTicks_tsu]

theorem State.runTicks_idle (h : s.LinesIdle) (n : Nat) :
    s.runTicks n = (s.setTsu (s.runTicks n).tsu).setClk (s.runTicks n).clk := by
  obtain ⟨v, c, e⟩ := State.runTicks_of_linesIdle s h n
  rw [e]
  rfl

/-! ### Cycle starts (01 R5) -/

/-- The tick at which a cycle start is raised, if one is: the roll's own for cycle 0 of the second it began. -/
def State.cycleTick (s : State) (sec : RowSec) (k : Nat) : Option State :=
  if k = 0 ∧ s.clk.rolled = some sec then some s else s.reach (cycleInstant sec k s.rle.cycle.divisor)

theorem exec_cycleStart (sec : RowSec) (k : Nat) : exec (.cycleStart sec k) s = execCycleStart sec k s := rfl

theorem exec_cycleStart_of_none {sec : RowSec} {k : Nat} (h : s.rle.cycle.divisor ≤ k ∨ s.cycleTick sec k = none) :
    exec (.cycleStart sec k) s = .next s := by
  rw [exec_cycleStart, execCycleStart]
  split
  · rfl
  case isFalse hk =>
    rcases h with h | h
    · simp [h] at hk
    · unfold State.cycleTick at h
      simp only [h]

theorem exec_cycleStart_of_some {sec : RowSec} {k : Nat} {t : State} (hh : s.mlc.held = false)
    (hk : k < s.rle.cycle.divisor) (h : s.cycleTick sec k = some t) :
    exec (.cycleStart sec k) s = if TickEvent.cycle sec k ∈ t.clk.taken then .next s
      else .next ((t.setTsu { t.tsu with lastCycle := some ⟨sec, k, t.tsu.quiet⟩ }).setClk
        { t.clk with taken := .cycle sec k :: t.clk.taken }) := by
  have hg : ¬(s.mlc.held || s.rle.cycle.divisor ≤ k) = true := by simp [hh, hk]
  unfold State.cycleTick at h
  rw [exec_cycleStart, execCycleStart, if_neg hg]
  simp only [h, State.hasTaken, List.contains_iff_mem]
  rfl

/-- Settles O18: `reach` gives the first tick at the instant; a cycle start is raised there unless it has been. -/
theorem cycleStartIsRaisedAtItsInstant : Obligations.CycleStartIsRaisedAtItsInstant := by
  refine ⟨fun s t i hr hi ht => ?_, fun s t sec k hh hk ht => ?_, fun s sec k hh hn => ?_⟩
  · obtain ⟨hlo, -⟩ := State.tickUnits_mem hr
    obtain ⟨hfrom, hnow⟩ := State.reach_first (by omega) hi ht
    obtain ⟨n, rfl⟩ := State.reach_eq s ht
    exact ⟨hfrom, hnow, State.runTicks_tsu_only n, fun hl => State.runTicks_idle hl n⟩
  · have hc : s.cycleTick sec k = some t := by
      rcases ht with ⟨hz, hroll, rfl⟩ | ⟨hz, hreach⟩
      · exact if_pos ⟨hz, hroll⟩
      · exact (if_neg hz).trans hreach
    rw [exec_cycleStart_of_some hh hk hc]
    exact ⟨fun h => if_neg h, fun h => if_pos h⟩
  · refine exec_cycleStart_of_none (hn.imp_right ?_)
    rintro ⟨hz, hreach⟩
    exact (if_neg hz).trans hreach

end Ticks
end Sys2Proof.Machine
end

section
/-! PROOFS. Work over every port, one port at a time; the mode work of 04 R74; and the suppressed roll (01 R4). -/
namespace Sys2Proof.Machine

/-! ### One port's share of a work over every port -/

theorem foldl_ports_keeps {P : State → Prop} {f : Port → State → State} (ps : List Port)
    (h : ∀ q ∈ ps, ∀ s, P s → P (f q s)) {s : State} (hs : P s) : P (ps.foldl (fun s p => f p s) s) := by
  induction ps generalizing s with
  | nil => exact hs
  | cons q ps ih =>
    exact ih (fun q' hq' => h q' (List.mem_cons_of_mem _ hq')) (h q List.mem_cons_self _ hs)

/-- What port `p`'s share makes of what the ports before it keep, the ports after it keep. -/
theorem overPorts_at {P Q : State → Prop} {f : Port → State → State} (p : Port)
    (hbefore : ∀ q, q ≠ p → ∀ s, P s → P (f q s)) (hown : ∀ s, P s → Q (f p s))
    (hafter : ∀ q, q ≠ p → ∀ s, Q s → Q (f q s)) {s : State} (hs : P s) : Q (overPorts f s) := by
  obtain ⟨xs, ys, h⟩ := List.append_of_mem (mem_allPorts p)
  have hd : (xs ++ p :: ys).Nodup := h ▸ (by decide : allPorts.Nodup)
  rw [List.nodup_append, List.nodup_cons] at hd
  obtain ⟨-, ⟨hp, -⟩, hx⟩ := hd
  unfold overPorts
  rw [h, List.foldl_append, List.foldl_cons]
  refine foldl_ports_keeps ys (fun q hq => hafter q fun e => hp (e ▸ hq)) (hown _ ?_)
  exact foldl_ports_keeps xs (fun q hq => hbefore q fun e => hx q hq p List.mem_cons_self e) hs

/-- Two works that agree at each port where `P` holds, and keep `P`, agree. -/
theorem overPorts_congr {P : State → Prop} {f g : Port → State → State} (hk : ∀ p s, P s → P (g p s))
    (h : ∀ p s, P s → f p s = g p s) {s : State} (hs : P s) : overPorts f s = overPorts g s := by
  have key : ∀ (ps : List Port) (t : State), P t →
      ps.foldl (fun s p => f p s) t = ps.foldl (fun s p => g p s) t := by
    intro ps
    induction ps with
    | nil => exact fun _ _ => rfl
    | cons q ps ih =>
      intro t ht
      rw [List.foldl_cons, List.foldl_cons, h q t ht]
      exact ih _ (hk q t ht)
  exact key allPorts s hs

/-! ### The mode work (04 R74) -/

theorem PortRec.modeFirst_eq (r : PortRec) : r.modeFirst = { r with mode := r.frozen.getD r.mode, frozen := none } := by
  unfold PortRec.modeFirst
  cases r with
  | mk state secs mode frozen => cases frozen <;> rfl

theorem PortRec.modeLast_eq (r : PortRec) :
    r.modeLast = { r with frozen := if r.staged = none then r.frozen else r.staged, staged := none } := by
  unfold PortRec.modeLast
  cases r with
  | mk state secs mode frozen staged => cases staged <;> rfl

/-- The model's mode work is that of the statements. -/
theorem modeWork_eq (r : PortRec) (k n : Nat) (b : Bool) : modeWork r k n b = modesMoved r k n b := by
  have hc : (k + 1 = n ∧ (k ≠ 0 ∨ b = false)) ↔ (k + 1 = n ∧ (k = 0 → b = false)) := by
    rw [imp_iff_not_or]
  unfold modeWork modesMoved
  rw [PortRec.modeFirst_eq]
  simp only [PortRec.modeLast_eq, hc]

theorem PortRec.modesMoved_state (r : PortRec) (k n : Nat) (b : Bool) : (modesMoved r k n b).state = r.state := by
  unfold modesMoved
  simp only
  split <;> split <;> rfl

/-! ### The suppressed roll (01 R4, 04 R65, R74) -/

section SuppressedRoll

/-- The mode work of an early cycle 0 that a tick from `n` nanoseconds over the second's end reaches, without the departure. -/
def State.earlyMode (sec : RowSec) (n : Nat) (p : Port) (s : State) : State :=
  if (s.port p).state ≠ .down ∧ 0 < s.comp p ∧ n < 1000000000 - s.comp p then
    (s.setPort p (modesMoved (s.port p) 0 s.rle.cycle.divisor s.rle.staged.isSome)).note (.departure p sec 0)
  else s

@[simp] theorem State.suppressed_setPort (s : State) (p : Port) (r : PortRec) (sec : RowSec) :
    (s.setPort p r).suppressed sec = s.suppressed sec := rfl

@[simp] theorem State.suppressed_note (s : State) (e : TickEvent) (sec : RowSec) :
    (s.note e).suppressed sec = s.suppressed sec := rfl

/-- Where departures of the second are suppressed the early work of the roll is the mode work alone. -/
theorem rleEarly_of_suppressed {s : State} {sec : RowSec} (h : s.suppressed sec = true) (n : Nat) (rec : BitVec 16)
    (p : Port) : rleEarly sec n false rec p s = s.earlyMode sec n p := by
  unfold rleEarly State.earlyMode
  by_cases hc : (s.port p).state = .down ∨ s.comp p = 0 ∨ nsPerSec - s.comp p ≤ n
  · refine (if_pos hc).trans (if_neg ?_).symm
    rintro ⟨hd, h0, hn⟩
    rcases hc with hc | hc | hc
    · exact hd hc
    · exact h0.ne' hc
    · exact not_lt.mpr hc hn
  · refine ((if_neg hc).trans (if_neg Bool.false_ne_true)).trans ?_
    rw [not_or, not_or, Nat.not_le] at hc
    obtain ⟨hd, h0, hn⟩ := hc
    rw [if_pos ⟨hd, Nat.pos_of_ne_zero h0, hn⟩, ← modeWork_eq]
    unfold State.cycleWork
    refine if_neg ?_
    simp [h]

/-- `t` is `s` but for the port records and the events noted at the tick. -/
def State.PortsMoved (s t : State) : Prop :=
  ∃ (ports : Vector PortRec 16) (xs : List TickEvent),
    t = (s.setRle { s.rle with ports := ports }).setClk { s.clk with taken := xs }

theorem State.PortsMoved.earlyMode {s t : State} (h : s.PortsMoved t) (sec : RowSec) (n : Nat) (p : Port) :
    s.PortsMoved (t.earlyMode sec n p) := by
  obtain ⟨ports, xs, rfl⟩ := h
  unfold State.earlyMode
  split
  · exact ⟨_, _, rfl⟩
  · exact ⟨ports, xs, rfl⟩

theorem State.PortsMoved.suppressed {s t : State} (h : s.PortsMoved t) (sec : RowSec) :
    t.suppressed sec = s.suppressed sec := by
  obtain ⟨ports, xs, rfl⟩ := h
  rfl

theorem State.PortsMoved.port_earlyMode {s t : State} (h : s.PortsMoved t) {p : Port} (hp : t.port p = s.port p)
    (sec : RowSec) (n : Nat) :
    (t.earlyMode sec n p).port p =
      if (s.port p).state ≠ .down ∧ 0 < s.comp p ∧ n < 1000000000 - s.comp p then
        modesMoved (s.port p) 0 s.rle.cycle.divisor s.rle.staged.isSome
      else s.port p := by
  have hc : t.comp p = s.comp p ∧ t.rle.cycle = s.rle.cycle ∧ t.rle.staged = s.rle.staged := by
    obtain ⟨ports, xs, rfl⟩ := h
    exact ⟨rfl, rfl, rfl⟩
  obtain ⟨hcomp, hcycle, hstaged⟩ := hc
  unfold State.earlyMode
  rw [hp, hcomp, hcycle, hstaged]
  split
  · exact State.port_setPort_same ..
  · exact hp

theorem State.port_earlyMode_other {s : State} {p q : Port} (h : q ≠ p) (sec : RowSec) (n : Nat) :
    (s.earlyMode sec n q).port p = s.port p := by
  unfold State.earlyMode
  split
  · exact (State.port_setPort ..).trans (if_neg h)
  · rfl

/-- A departure that belongs to the running second is suppressed in a quiet interval. -/
theorem State.suppressed_of_quiet {s : State} (h : s.tsu.quiet = true) : s.suppressed s.tsu.ts.sec = true := by
  have hne : (s.tsu.ts.sec == s.tsu.ts.sec + 1) = false := by
    rw [beq_eq_false_iff_ne]
    bv_omega
  rw [State.suppressed, h, hne]
  rfl

/-- The state after a suppressed roll: early mode work on every port, and the mark cleared. -/
def State.suppressedRoll (s : State) : State :=
  (overPorts (State.earlyMode s.tsu.ts.sec s.clk.tickFrom.ns) s.atRoll).clearMark

theorem State.rollWork_of_suppressed {s : State} (hm : s.tsu.mark = some s.tsu.ts.sec) (hq : s.tsu.quiet = true)
    (d : Bool) (rec : BitVec 16) : s.rollWork d rec = s.suppressedRoll := by
  rw [State.rollWork_of_marked s d rec hm]
  refine congrArg State.clearMark (overPorts_congr (P := s.atRoll.PortsMoved) (fun p t ht => ht.earlyMode _ _ p)
    (fun p t ht => rleEarly_of_suppressed ?_ _ rec p) ⟨s.rle.ports, s.clk.taken, rfl⟩)
  rw [ht.suppressed]
  exact State.suppressed_of_quiet (s := s.atRoll) hq

theorem State.suppressedRoll_moved (s : State) : ∃ t : State, s.atRoll.PortsMoved t ∧ s.suppressedRoll = t.clearMark
    ∧ ∀ p : Port, t.port p =
      if (s.port p).state ≠ .down ∧ 0 < s.comp p ∧ s.clk.tickFrom.ns < 1000000000 - s.comp p then
        modesMoved (s.port p) 0 s.rle.cycle.divisor s.rle.staged.isSome
      else s.port p := by
  have hs : s.atRoll.PortsMoved s.atRoll := ⟨s.rle.ports, s.clk.taken, rfl⟩
  refine ⟨_, overPorts_keeps _ (fun p t ht => ht.earlyMode _ _ p) _ hs, rfl, fun p => ?_⟩
  refine overPorts_at (P := fun t => s.atRoll.PortsMoved t ∧ t.port p = s.port p) (Q := fun t => t.port p = _) p
    (fun q hq t ht => ⟨ht.1.earlyMode _ _ q, (State.port_earlyMode_other hq _ _).trans ht.2⟩)
    (fun t ht => ht.1.port_earlyMode ht.2 _ _)
    (fun q hq t ht => (State.port_earlyMode_other hq _ _).trans ht) ⟨hs, rfl⟩

theorem exec_suppressedRoll {s : State} (h : s.mlc.held = false) : exec .suppressedRoll s = .next (s.roll false 0) :=
  if_neg (by simp [h])

theorem exec_secondBoundary {s : State} (h : s.mlc.held = false) (x : RollInputs) :
    exec (.secondBoundary x) s = .next (s.roll x.drmFirst x.receiving) :=
  if_neg (by simp [h])

theorem State.runTicks_marking (s : State) (n : Nat) :
    (s.runTicks n).tsu.mark = s.tsu.mark ∧ (s.runTicks n).tsu.quiet = s.tsu.quiet := by
  obtain ⟨v, c, a, b, rx, k, e, -⟩ := s.runTicks_eq n
  rw [e]
  exact ⟨rfl, rfl⟩

/-- What a suppressed roll leaves of the state at its tick. -/
theorem State.suppressedRoll_keeps (u : State) :
    let t := u.suppressedRoll
    t.tsu = { u.tsu with mark := none } ∧ t.ref = u.ref ∧ t.eds = u.eds ∧ t.drm = u.drm ∧ t.ecu = u.ecu
      ∧ t.sq = u.sq ∧ t.stl = u.stl ∧ t.ntu = u.ntu ∧ t.mlc = u.mlc ∧ t.pending = u.pending
      ∧ t.clk = { u.clk with rolled := some u.tsu.ts.sec, taken := t.clk.taken }
      ∧ t.rle.cycle = u.rle.cycle ∧ t.rle.staged = u.rle.staged
      ∧ ∀ p : Port, t.port p =
        if (u.port p).state ≠ .down ∧ 0 < u.comp p ∧ u.clk.tickFrom.ns < 1000000000 - u.comp p then
          modesMoved (u.port p) 0 u.rle.cycle.divisor u.rle.staged.isSome
        else u.port p := by
  obtain ⟨t, ⟨ports, xs, rfl⟩, h, hp⟩ := u.suppressedRoll_moved
  rw [h]
  exact ⟨rfl, rfl, rfl, rfl, rfl, rfl, rfl, rfl, rfl, rfl, rfl, rfl, rfl, hp⟩

/-- A roll into the marked second, `u` the state at its tick. -/
theorem State.roll_of_suppressed {s u : State} (hu : s.runTicks s.ticksToRoll = u) (hm : s.tsu.mark = some u.tsu.ts.sec)
    (hq : s.tsu.quiet = true) (d : Bool) (rec : BitVec 16) : s.roll d rec = u.suppressedRoll := by
  have hk := s.runTicks_marking s.ticksToRoll
  rw [hu] at hk
  obtain ⟨hmark, hquiet⟩ := hk
  rw [State.roll, hu]
  exact State.rollWork_of_suppressed (hmark.trans hm) (hquiet.trans hq) d rec

/-- Settles O13: either command finds the marked second, whose work over the ports is the mode work alone. -/
theorem suppressedRollOnlyClearsTheMark : Obligations.SuppressedRollOnlyClearsTheMark := by
  intro s d rec hh hq u hm
  have hroll := State.roll_of_suppressed (s := s) (u := u) rfl hm hq
  refine ⟨u.suppressedRoll, ?_, ?_, u.suppressedRoll_keeps⟩
  · rw [exec_suppressedRoll hh, hroll]
  · rw [exec_secondBoundary hh, hroll]

end SuppressedRoll
end Sys2Proof.Machine
end

section
/-! PROOFS. What the ports' and records' share of a boundary leaves alone: the timescale, REF, the strobe latch, the lines'
records, TSU's markers in the backlog, and, where the transmitter gives nothing out, TSU's and REF's notices; and one port's
share every other port. -/
namespace Sys2Proof.Machine

/-! ### The pending set, place by place (10 R169) -/

theorem Ntu.at_setAt (n : Ntu) (p q : Place) (e : Option Notice) :
    (n.setAt p e).at q = if p.index = q.index then e else n.at q := by
  unfold Ntu.setAt Ntu.at
  by_cases h : p.index = q.index
  · simp [h]
  · have h' : p.index.val ≠ q.index.val := fun k => h (Fin.ext k)
    simp [h, h']

theorem Ntu.at_raise (n : Ntu) (p q : Place) (v : NoticeValue) (sec : RowSec) :
    (n.raise p v sec).at q = if p.index = q.index then some (Notice.merge v sec (n.at p)) else n.at q :=
  Ntu.at_setAt ..

/-- The link's transmitter gives no notice out: it is in SHARED mode or has a frame on hand (09 R159, R161). -/
def Mlc.Waits (m : Mlc) : Prop := m.mode = .shared ∨ m.owner ≠ .free

theorem Mlc.Waits.offers {m : Mlc} (h : m.Waits) : m.offers = false := by
  unfold Mlc.offers
  rcases h with h | h <;> simp [h]

theorem State.raiseNotice_of_waits {s : State} (h : s.mlc.Waits) (p : Place) (v : NoticeValue) :
    s.raiseNotice p v = s.setNtu (s.ntu.raise p v s.now.sec) :=
  State.handOut_of_not_offers _ h.offers

/-- The places of TSU's and REF's notices, the first two classes (10 section 10.1). -/
def Place.OfTime (p : Place) : Prop := p.index.val < 5

/-! ### What boundary work beside TSU and REF leaves alone -/

/-- `t` is `s` after work that is not TSU's, REF's, the strobe latch's or the lines'. -/
structure State.Aside (s t : State) : Prop where
  tsu : t.tsu = s.tsu
  ref : t.ref = s.ref
  stl : t.stl = s.stl
  lines : t.ecu.lines = s.ecu.lines
  clk : ∃ xs, t.clk = { s.clk with taken := xs }
  step : t.sq.backlog.step = s.sq.backlog.step
  tstate : t.sq.backlog.tstate = s.sq.backlog.tstate
  waits : s.mlc.Waits → t.mlc = s.mlc ∧ ∀ p : Place, p.OfTime → t.ntu.at p = s.ntu.at p

namespace State.Aside

variable {s t u : State}

@[refl] theorem refl (s : State) : s.Aside s :=
  ⟨rfl, rfl, rfl, rfl, ⟨s.clk.taken, rfl⟩, rfl, rfl, fun _ => ⟨rfl, fun _ _ => rfl⟩⟩

@[trans] theorem trans (h : s.Aside t) (k : t.Aside u) : s.Aside u where
  tsu := k.tsu.trans h.tsu
  ref := k.ref.trans h.ref
  stl := k.stl.trans h.stl
  lines := k.lines.trans h.lines
  clk := by
    obtain ⟨xs, hx⟩ := h.clk
    obtain ⟨ys, hy⟩ := k.clk
    exact ⟨ys, by rw [hy, hx]⟩
  step := k.step.trans h.step
  tstate := k.tstate.trans h.tstate
  waits w := by
    obtain ⟨hm, hn⟩ := h.waits w
    obtain ⟨km, kn⟩ := k.waits (hm.symm ▸ w)
    exact ⟨km.trans hm, fun p hp => (kn p hp).trans (hn p hp)⟩

theorem overPorts {f : Port → State → State} (h : ∀ (p : Port) (s : State), s.Aside (f p s)) (s : State) :
    s.Aside (overPorts f s) :=
  overPorts_keeps (P := s.Aside) f (fun p _ ht => ht.trans (h p _)) s (refl s)

end State.Aside

/-- The settings of EDS but for its ports' compensations and levels. -/
def Eds.common (e : Eds) : Vector Entry 32 × Vector Entry 32 × Bool × Option RowSec × Nat :=
  (e.active, e.pend, e.armed, e.lastAct, e.compStep)

/-- `t` is `s` after a share of the boundary's work on the ports of `mine`: it leaves alone what `State.Aside` says, the
divisor, the schedules, and every other port. -/
structure State.ShareOf (mine : Port → Prop) (s t : State) : Prop extends s.Aside t where
  cycle : t.rle.cycle = s.rle.cycle
  staged : t.rle.staged = s.rle.staged
  eds : t.eds.common = s.eds.common
  port : ∀ p, ¬mine p → t.port p = s.port p
  rack : ∀ p, ¬mine p → t.rack p = s.rack p
  marks : ∀ p, t.marks p = s.marks p
  comp : ∀ p, ¬mine p → t.comp p = s.comp p
  below : ∀ p : Port, ¬mine p → t.eds.earlyBelow[p] = s.eds.earlyBelow[p]
  noted : ∀ p, ¬mine p → ∀ sec k, TickEvent.departure p sec k ∈ t.clk.taken ↔ TickEvent.departure p sec k ∈ s.clk.taken

namespace State.ShareOf

variable {mine : Port → Prop} {s t u : State}

@[refl] theorem refl (s : State) : s.ShareOf mine s :=
  ⟨.refl s, rfl, rfl, rfl, fun _ _ => rfl, fun _ _ => rfl, fun _ => rfl, fun _ _ => rfl, fun _ _ => rfl,
    fun _ _ _ _ => .rfl⟩

@[trans] theorem trans (h : s.ShareOf mine t) (k : t.ShareOf mine u) : s.ShareOf mine u where
  toAside := h.toAside.trans k.toAside
  cycle := k.cycle.trans h.cycle
  staged := k.staged.trans h.staged
  eds := k.eds.trans h.eds
  port p hp := (k.port p hp).trans (h.port p hp)
  rack p hp := (k.rack p hp).trans (h.rack p hp)
  marks p := (k.marks p).trans (h.marks p)
  comp p hp := (k.comp p hp).trans (h.comp p hp)
  below p hp := (k.below p hp).trans (h.below p hp)
  noted p hp sec n := (k.noted p hp sec n).trans (h.noted p hp sec n)

/-- A share of fewer ports is one of more. -/
theorem mono {mine' : Port → Prop} (h : s.ShareOf mine t) (hm : ∀ p, mine p → mine' p) : s.ShareOf mine' t where
  toAside := h.toAside
  cycle := h.cycle
  staged := h.staged
  eds := h.eds
  port p hp := h.port p (mt (hm p) hp)
  rack p hp := h.rack p (mt (hm p) hp)
  marks := h.marks
  comp p hp := h.comp p (mt (hm p) hp)
  below p hp := h.below p (mt (hm p) hp)
  noted p hp := h.noted p (mt (hm p) hp)

end State.ShareOf

/-- One port's share. -/
abbrev State.PortShare (p : Port) : State → State → Prop := State.ShareOf (· = p)

/-- Work on no port. -/
abbrev State.NoPort : State → State → Prop := State.ShareOf (fun _ => False)

theorem State.NoPort.share {mine : Port → Prop} {s t : State} (h : s.NoPort t) : s.ShareOf mine t :=
  h.mono fun _ => False.elim

/-! ### The shared operations -/

section Operations

variable (s : State)

theorem State.setPort_share (p : Port) (r : PortRec) : s.PortShare p (s.setPort p r) where
  toAside := ⟨rfl, rfl, rfl, rfl, ⟨s.clk.taken, rfl⟩, rfl, rfl, fun _ => ⟨rfl, fun _ _ => rfl⟩⟩
  cycle := rfl
  staged := rfl
  eds := rfl
  port q hq := (s.port_setPort p q r).trans (if_neg (Ne.symm hq))
  rack _ _ := rfl
  marks _ := rfl
  comp _ _ := rfl
  below _ _ := rfl
  noted _ _ _ _ := .rfl

theorem State.setRack_share (p : Port) (r : RackRec) : s.PortShare p (s.setRack p r) where
  toAside := ⟨rfl, rfl, rfl, rfl, ⟨s.clk.taken, rfl⟩, rfl, rfl, fun _ => ⟨rfl, fun _ _ => rfl⟩⟩
  cycle := rfl
  staged := rfl
  eds := rfl
  port _ _ := rfl
  rack q hq := (s.rack_setRack p q r).trans (if_neg (Ne.symm hq))
  marks _ := rfl
  comp _ _ := rfl
  below _ _ := rfl
  noted _ _ _ _ := .rfl

theorem State.note_share (p : Port) (e : TickEvent) (h : ∀ q sec k, e = .departure q sec k → q = p) :
    s.PortShare p (s.note e) where
  toAside := ⟨rfl, rfl, rfl, rfl, ⟨_, rfl⟩, rfl, rfl, fun _ => ⟨rfl, fun _ _ => rfl⟩⟩
  cycle := rfl
  staged := rfl
  eds := rfl
  port _ _ := rfl
  rack _ _ := rfl
  marks _ := rfl
  comp _ _ := rfl
  below _ _ := rfl
  noted q hq sec k := by
    rw [State.note, State.setClk_clk, List.mem_cons, or_iff_right]
    exact fun hk => hq (h q sec k hk.symm)

/-- A marker that is neither STEP nor TSTATE. -/
theorem State.raiseMarker_share {m : Marker} (hs : ∀ k a, m ≠ .step k a) (ht : ∀ st k, m ≠ .tstate st k) (h : Hdr) :
    s.NoPort (s.raiseMarker h m) where
  toAside := by
    refine ⟨rfl, rfl, rfl, rfl, ⟨s.clk.taken, rfl⟩, ?_, ?_, fun _ => ⟨rfl, fun _ _ => rfl⟩⟩
    all_goals
      rw [State.raiseMarker_eq, State.setSq_sq]
      cases m <;> simp only [Backlog.raise]
      case step k a => exact absurd rfl (hs k a)
      case tstate st k => exact absurd rfl (ht st k)
      all_goals split <;> rfl
  cycle := rfl
  staged := rfl
  eds := rfl
  port _ _ := rfl
  rack _ _ := rfl
  marks _ := rfl
  comp _ _ := rfl
  below _ _ := rfl
  noted _ _ _ _ := .rfl

/-- A notice that is neither TSU's nor REF's. -/
theorem State.raiseNotice_share {q : Place} (hq : ¬q.OfTime) (v : NoticeValue) : s.NoPort (s.raiseNotice q v) := by
  have waits : s.mlc.Waits → (s.raiseNotice q v).mlc = s.mlc ∧
      ∀ p : Place, p.OfTime → (s.raiseNotice q v).ntu.at p = s.ntu.at p := by
    intro w
    rw [State.raiseNotice_of_waits w]
    refine ⟨rfl, fun p hp => (Ntu.at_raise ..).trans (if_neg fun k => hq ?_)⟩
    rw [Place.OfTime, k]
    exact hp
  obtain ⟨n, m, h⟩ := s.raiseNotice_eq q v
  rw [h] at waits ⊢
  exact ⟨⟨rfl, rfl, rfl, rfl, ⟨s.clk.taken, rfl⟩, rfl, rfl, waits⟩, rfl, rfl, rfl, fun _ _ => rfl, fun _ _ => rfl,
    fun _ => rfl, fun _ _ => rfl, fun _ _ => rfl, fun _ _ _ _ => .rfl⟩

theorem State.changeRecord_share (p : Port) (r : RackRec) (c : RackCause) : s.PortShare p (s.changeRecord p r c) := by
  unfold State.changeRecord
  refine ((s.setRack_share p r).trans (State.raiseMarker_share _ (by simp) (by simp) _).share).trans
    (State.raiseNotice_share _ ?_ _).share
  simp [Place.OfTime, Place.index]

theorem State.portFaulted_share (p : Port) : s.PortShare p (s.portFaulted p) := by
  unfold State.portFaulted
  refine ((s.setPort_share p _).trans (State.changeRecord_share _ p _ _)).trans (State.raiseNotice_share _ ?_ _).share
  simp [Place.OfTime, Place.index]
  omega

theorem State.missEcho_share (p : Port) : s.PortShare p (s.missEcho p) := by
  unfold State.missEcho
  split
  · exact (s.setPort_share p _).trans (State.portFaulted_share _ p)
  · exact s.setPort_share p _

theorem State.closeForDeparture_share (p : Port) (b : Bool) : s.PortShare p (s.closeForDeparture p b) := by
  rcases s.closeForDeparture_cases p b with ⟨-, h⟩ | ⟨-, -, h⟩ | ⟨-, -, h⟩ <;> rw [h]
  · exact s.missEcho_share p
  · exact (s.missEcho_share p).trans (State.setPort_share _ p _)

theorem State.depart_share (p : Port) (sec : RowSec) (k : Nat) (left : Time) (b : Bool) :
    s.PortShare p (s.depart p sec k left b) := by
  have h := (s.closeForDeparture_share p b).trans
    (State.setPort_share _ p ((s.closeForDeparture p b).departPort p sec k left))
  unfold State.depart State.noteOvertaken
  simp only
  split
  · exact h.trans (State.note_share _ p _ (by simp))
  · exact h

theorem State.noteDeparture_share (p : Port) (sec : RowSec) (k : Nat) : s.PortShare p (s.note (.departure p sec k)) := by
  refine s.note_share p _ fun q _ _ h => ?_
  cases h
  rfl

theorem State.cycleWork_share (p : Port) (sec : RowSec) (k : Nat) (left : Time) (early b : Bool) :
    s.PortShare p (s.cycleWork p sec k left early b) := by
  have h := (s.setPort_share p (modeWork (s.port p) k s.rle.cycle.divisor s.rle.staged.isSome)).trans
    (State.noteDeparture_share _ p sec k)
  unfold State.cycleWork
  simp only
  split
  · exact h.trans (State.depart_share _ p sec k left b)
  · exact h

end Operations

/-! ### The blocks' shares of a boundary -/

section Boundary

variable (s : State)

theorem rleEarly_share (sec : RowSec) (n : Nat) (st : Bool) (rec : BitVec 16) (p : Port) :
    s.PortShare p (rleEarly sec n st rec p s) := by
  unfold rleEarly
  simp only
  split
  · rfl
  · split
    · exact (s.setPort_share p _).trans (State.noteDeparture_share _ p sec 0)
    · exact s.cycleWork_share p sec 0 _ _ _

theorem rleRoll_share (sec : RowSec) (c : Port → Nat) (b : Bool) (rec : BitVec 16) (p : Port) :
    s.PortShare p (rleRoll sec c b rec p s) := by
  unfold rleRoll
  split
  · split
    · exact s.noteDeparture_share p sec 0
    · rfl
  · split
    · exact (s.setPort_share p _).trans (State.noteDeparture_share _ p sec 0)
    · split
      · exact s.noteDeparture_share p sec 0
      · split
        · exact s.cycleWork_share p sec 0 _ _ _
        · rfl

theorem passModes_share (b v : Time) (p : Port) : s.PortShare p (passModes b v p s) := by
  unfold passModes
  split
  · rfl
  · exact s.setPort_share p _

theorem rleSeconds_share (p : Port) : s.PortShare p (rleSeconds p s) := s.setPort_share p _

theorem landAgain_share (sec : RowSec) (p : Port) : s.PortShare p (landAgain sec p s) := by
  unfold landAgain
  split
  case isFalse => rfl
  case isTrue =>
    refine ⟨⟨rfl, rfl, rfl, rfl, ⟨_, rfl⟩, rfl, rfl, fun _ => ⟨rfl, fun _ _ => rfl⟩⟩, rfl, rfl, rfl, fun _ _ => rfl,
      fun _ _ => rfl, fun _ => rfl, fun _ _ => rfl, fun _ _ => rfl, fun q hq sec' k => ?_⟩
    rw [State.setClk_clk, List.mem_filter]
    simp [hq]

/-- Writes to one port's compensation, level and bound. -/
theorem State.setEds_share {e : Eds} (p : Port) (hc : e.common = s.eds.common)
    (hcomp : ∀ q : Port, q ≠ p → e.comp[q] = s.eds.comp[q])
    (hbelow : ∀ q : Port, q ≠ p → e.earlyBelow[q] = s.eds.earlyBelow[q]) : s.PortShare p (s.setEds e) where
  toAside := ⟨rfl, rfl, rfl, rfl, ⟨s.clk.taken, rfl⟩, rfl, rfl, fun _ => ⟨rfl, fun _ _ => rfl⟩⟩
  cycle := rfl
  staged := rfl
  eds := hc
  port _ _ := rfl
  rack _ _ := rfl
  marks _ := rfl
  comp q hq := hcomp q hq
  below q hq := hbelow q hq
  noted _ _ _ _ := .rfl

theorem vector_set_other {α : Type} (v : Vector α 16) {p q : Port} (h : q ≠ p) (x : α) : (v.set p x)[q] = v[q] := by
  have h' : p.val ≠ q.val := fun e => h (Fin.ext e).symm
  simp [h']

theorem edsPortBoundary_share (old : Eds) (k : EdgeTick) (p : Port) : s.PortShare p (edsPortBoundary old k p s) := by
  unfold edsPortBoundary
  split
  · exact s.setEds_share p rfl (fun _ _ => rfl) (fun q hq => vector_set_other _ hq _)
  · simp only
    split
    · exact s.setEds_share p rfl (fun q hq => vector_set_other _ hq _) (fun q hq => vector_set_other _ hq _)
    · exact s.setEds_share p rfl (fun q hq => vector_set_other _ hq _) (fun q hq => vector_set_other _ hq _)

theorem edsTicks_share (old : Eds) (k : EdgeTick) : s.NoPort (edsTicks old k s) := by
  unfold edsTicks
  generalize allEntries = xs
  induction xs generalizing s with
  | nil => rfl
  | cons x xs ih =>
    rw [List.foldl_cons]
    refine State.ShareOf.trans ?_ (ih _)
    simp only
    split
    · exact s.raiseMarker_share (by simp) (by simp) _
    · rfl

theorem drmPort_share (p : Port) : s.PortShare p (drmPort p s) := by
  unfold drmPort
  simp only
  split
  · exact s.setRack_share p _
  · exact s.changeRecord_share p _ _

/-! ### The same without a port named -/

/-- The activation of an armed schedule and the divisor's, and each port's share, in the words of `State.Aside`. -/
theorem State.edsBoundary_aside (sec : RowSec) (n : Nat) (q st : Bool) : s.Aside (s.edsBoundary sec n q st) := by
  have h : s.Aside (s.setEds (s.eds.activate sec)) :=
    ⟨rfl, rfl, rfl, rfl, ⟨s.clk.taken, rfl⟩, rfl, rfl, fun _ => ⟨rfl, fun _ _ => rfl⟩⟩
  exact (h.trans (.overPorts (fun p t => (edsPortBoundary_share t _ _ p).toAside) _)).trans
    (edsTicks_share _ _ _).toAside

theorem State.earlyWork_aside (sec : RowSec) (n : Nat) (rec : BitVec 16) : s.Aside (s.earlyWork sec n rec) := by
  have h : s.Aside (s.setRle s.rle.applyCycle) :=
    ⟨rfl, rfl, rfl, rfl, ⟨s.clk.taken, rfl⟩, rfl, rfl, fun _ => ⟨rfl, fun _ _ => rfl⟩⟩
  exact h.trans (.overPorts (fun p t => (rleEarly_share t _ _ _ _ p).toAside) _)

theorem State.cycleZeroWork_aside (sec : RowSec) (n : Nat) (q st : Bool) (rec : BitVec 16) :
    s.Aside (s.cycleZeroWork sec n q st rec) :=
  ((s.earlyWork_aside sec n rec).trans (State.edsBoundary_aside _ sec n q st)).trans
    (.overPorts (fun p t => (rleRoll_share t _ _ _ _ p).toAside) _)

theorem State.movedOver_aside (sec : RowSec) (b : Time) (st : Bool) : s.Aside (s.movedOver sec b st) := by
  unfold State.movedOver
  split
  · exact .overPorts (fun p t => (passModes_share t _ _ p).toAside) _
  · split
    · exact .overPorts (fun p t => (landAgain_share t _ p).toAside) _
    · rfl

theorem State.portsWork_aside (sec : RowSec) (b : Time) (n : Nat) (q st : Bool) (rec : BitVec 16) :
    s.Aside (s.portsWork sec b n q st rec) := by
  rw [State.portsWork_eq]
  exact ((s.cycleZeroWork_aside sec n q st rec).trans (State.movedOver_aside _ sec b st)).trans
    (.overPorts (fun p t => (rleSeconds_share t p).toAside) _)

theorem State.stepHolds_aside (a b : Bool) : s.Aside (s.stepHolds a b) := by
  unfold State.stepHolds
  split
  · exact .overPorts (fun p t => (t.setRack_share p _).toAside) s
  · rfl

theorem State.takeSpread_aside (sec : RowSec) : s.Aside (s.takeSpread sec) := by
  have h : ∀ x : Drm, s.Aside (s.setDrm x) := fun _ =>
    ⟨rfl, rfl, rfl, rfl, ⟨s.clk.taken, rfl⟩, rfl, rfl, fun _ => ⟨rfl, fun _ _ => rfl⟩⟩
  unfold State.takeSpread
  simp only
  split
  · exact h _
  · refine (h _).trans (State.raiseNotice_share _ ?_ _).toAside
    simp [Place.OfTime, Place.index]

theorem State.drmBoundary_aside (sec : RowSec) : s.Aside (s.drmBoundary sec) := by
  unfold State.drmBoundary
  exact ((State.Aside.overPorts (fun p t => (t.setRack_share p _).toAside) s).trans
    (.overPorts (fun p t => (drmPort_share t p).toAside) _)).trans (State.takeSpread_aside _ sec)

/-- What REF and TSU raise at a boundary, raised into the state that they leave. -/
def State.timeRaised (sec : RowSec) : State := (s.timeWork sec).2.foldl State.raiseOne (s.timeWork sec).1

theorem State.raisedWork_aside (sec : RowSec) (d : Bool) : (s.timeRaised sec).Aside (s.raisedWork sec d) := by
  unfold State.raisedWork State.timeRaised
  generalize (s.timeWork sec).2.foldl State.raiseOne (s.timeWork sec).1 = t
  simp only
  split
  · exact (t.drmBoundary_aside sec).trans (State.stepHolds_aside _ _ _)
  · exact t.stepHolds_aside _ _

/-- After REF's and TSU's work and what it raises, the boundary leaves alone what `State.Aside` says. -/
theorem State.boundaryWork_aside (sec : RowSec) (d : Bool) (rec : BitVec 16) :
    (s.timeRaised sec).Aside (s.boundaryWork sec d rec) := by
  rw [State.boundaryWork_eq]
  have h := s.raisedWork_aside sec d
  generalize s.raisedWork sec d = t at h
  have hp := h.trans (t.portsWork_aside sec s.now s.clk.tickFrom.ns s.tsu.quiet
    ((s.timeWork sec).1.tsu.gen != s.tsu.gen) rec)
  generalize t.portsWork sec s.now s.clk.tickFrom.ns s.tsu.quiet ((s.timeWork sec).1.tsu.gen != s.tsu.gen) rec = v at hp
  simp only
  split
  · exact hp
  · exact hp.trans (v.drmBoundary_aside sec)

/-! ### The roll leaves the pins' records alone -/

theorem State.timeWork_pins (sec : RowSec) : (s.timeWork sec).1.stl = s.stl ∧ (s.timeWork sec).1.ecu = s.ecu := by
  unfold State.timeWork
  simp only
  split <;> exact ⟨rfl, rfl⟩

/-- What boundary work leaves of the pins' records, given what the state it starts from has of them. -/
theorem State.Aside.pins {s t u : State} (h : t.Aside u) (hs : t.stl = s.stl) (he : t.ecu = s.ecu) :
    u.stl = s.stl ∧ u.ecu.lines = s.ecu.lines :=
  ⟨h.stl.trans hs, h.lines.trans (congrArg Ecu.lines he)⟩

theorem State.timeRaised_pins (sec : RowSec) : (s.timeRaised sec).stl = s.stl ∧ (s.timeRaised sec).ecu = s.ecu := by
  have h := s.timeWork_pins sec
  unfold State.timeRaised
  generalize (s.timeWork sec).1 = t at h
  obtain ⟨b, n, m, e⟩ := t.raises_eq (s.timeWork sec).2
  rw [e]
  exact h

theorem State.rollWork_pins (d : Bool) (rec : BitVec 16) :
    (s.rollWork d rec).stl = s.stl ∧ (s.rollWork d rec).ecu.lines = s.ecu.lines := by
  by_cases h : s.tsu.mark = some s.tsu.ts.sec
  · rw [s.rollWork_of_marked d rec h]
    have hc : ∀ t, s.atRoll.Aside t → t.clearMark.stl = s.stl ∧ t.clearMark.ecu.lines = s.ecu.lines :=
      fun t ht => ⟨ht.stl, ht.lines⟩
    exact hc _ (.overPorts (fun p t => (rleEarly_share t _ _ _ _ p).toAside) s.atRoll)
  · rw [s.rollWork_of_unmarked d rec h]
    obtain ⟨hs, he⟩ := s.atRoll.timeRaised_pins s.tsu.ts.sec
    exact (s.atRoll.boundaryWork_aside s.tsu.ts.sec d rec).pins hs he

theorem State.runTicks_pins (n : Nat) : (s.runTicks n).stl = s.stl ∧ (s.runTicks n).ecu.lines = s.ecu.lines := by
  obtain ⟨v, c, a, b, rx, k, e, -⟩ := s.runTicks_eq n
  rw [e]
  exact ⟨rfl, rfl⟩

theorem State.roll_pins (d : Bool) (rec : BitVec 16) :
    (s.roll d rec).stl = s.stl ∧ ∀ l : Line, (s.roll d rec).line l = s.line l := by
  obtain ⟨hs, hl⟩ := (s.runTicks s.ticksToRoll).rollWork_pins d rec
  obtain ⟨ks, kl⟩ := s.runTicks_pins s.ticksToRoll
  refine ⟨hs.trans ks, fun l => ?_⟩
  unfold State.roll State.line
  rw [hl.trans kl]

end Boundary
end Sys2Proof.Machine
end

section
/-! PROOFS. The samples of an oscillator tick: the lines, HSTB, and serial lines that show nothing (06 R108, 08 R142). -/
namespace Sys2Proof.Machine

section Samples

variable (s : State)

/-! ### Serial lines that show nothing -/

theorem State.sampleTod_nothing (i : Input) : s.sampleTod i ⟨none, false⟩ = s := s.setInput_self i

theorem State.sampleLink_nothing : s.sampleLink ⟨none, false⟩ = s := rfl

/-! ### The lines -/

/-- A line whose level has not changed. -/
theorem State.sampleLine_same {l : Line} {b : Bool} (h : (s.line l).sample = b) : s.sampleLine l b = s := if_pos h

theorem State.sampleLine_other {l k : Line} (h : l ≠ k) (b : Bool) : (s.sampleLine l b).line k = s.line k := by
  unfold State.sampleLine
  split
  · rfl
  · exact (State.line_setLine ..).trans (if_neg h)

theorem State.sampleLine_clk (l : Line) (b : Bool) : (s.sampleLine l b).clk = s.clk ∧ (s.sampleLine l b).stl = s.stl := by
  unfold State.sampleLine
  split <;> exact ⟨rfl, rfl⟩

/-- What a line's sample makes does not turn on the events noted at the tick. -/
theorem State.sampleLine_note (l : Line) (b : Bool) (e : TickEvent) :
    (s.note e).sampleLine l b = (s.sampleLine l b).note e := by
  unfold State.sampleLine
  have h : (s.note e).line l = s.line l := rfl
  rw [h]
  split <;> rfl

variable {s} in
theorem foldl_sampleLine_same {f : Line → Bool} (ls : List Line) (h : ∀ l ∈ ls, (s.line l).sample = f l) :
    ls.foldl (fun s l => s.sampleLine l (f l)) s = s := by
  induction ls with
  | nil => rfl
  | cons l ls ih =>
    rw [List.foldl_cons, s.sampleLine_same (h l List.mem_cons_self)]
    exact ih fun k hk => h k (List.mem_cons_of_mem _ hk)

theorem mem_allLines (l : Line) : l ∈ allLines := by
  revert l
  decide

/-- With one line at another level the samples of the lines are that line's. -/
theorem foldl_sampleLine_one {f : Line → Bool} (l : Line) (h : ∀ k : Line, k ≠ l → (s.line k).sample = f k) :
    allLines.foldl (fun s l => s.sampleLine l (f l)) s = s.sampleLine l (f l) := by
  obtain ⟨xs, ys, e⟩ := List.append_of_mem (mem_allLines l)
  have hd : (xs ++ l :: ys).Nodup := e ▸ (by decide : allLines.Nodup)
  rw [List.nodup_append, List.nodup_cons] at hd
  obtain ⟨-, ⟨hl, -⟩, hx⟩ := hd
  have hys : ∀ k ∈ ys, k ≠ l := fun k hk e => hl (e ▸ hk)
  rw [e, List.foldl_append, List.foldl_cons,
    foldl_sampleLine_same xs fun k hk => h k (hx k hk l List.mem_cons_self)]
  refine foldl_sampleLine_same ys fun k hk => ?_
  rw [s.sampleLine_other (hys k hk).symm]
  exact h k (hys k hk)

/-- The pins where the serial lines show nothing: the lines, then HSTB. -/
theorem State.samplePins_of_silent {x : Pins} (hr : x.linkRx = ⟨none, false⟩) (ha : x.todA = ⟨none, false⟩)
    (hb : x.todB = ⟨none, false⟩) : s.samplePins x =
      ((allLines.foldl (fun s l => s.sampleLine l (x.lines.getLsbD l.val)) s).note .pins).sampleHstb x.hstb := by
  have hn : ∀ (ls : List Line) (t : State), ls.foldl (fun s l => s.sampleLine l (x.lines.getLsbD l.val)) (t.note .pins)
      = (ls.foldl (fun s l => s.sampleLine l (x.lines.getLsbD l.val)) t).note .pins := by
    intro ls
    induction ls with
    | nil => exact fun _ => rfl
    | cons l ls ih =>
      intro t
      rw [List.foldl_cons, State.sampleLine_note, ih, List.foldl_cons]
  unfold State.samplePins
  simp only [hr, ha, hb, State.sampleTod_nothing, State.sampleLink_nothing, hn]

/-! ### HSTB (08 R142 to R144) -/

/-- HSTB at the level of its sample before. -/
theorem State.sampleHstb_same {b : Bool} (h : s.stl.hstb = some b) : s.sampleHstb b = s.note .hstb := by
  have hc : (b && s.stl.hstb == some false) = false := by
    rw [h]
    cases b <;> rfl
  have hs : { s.stl with hstb := some b } = s.stl := by rw [← h]
  unfold State.sampleHstb
  rw [hs, hc]
  rfl

/-- HSTB not rising from low: its sample only. -/
theorem State.sampleHstb_level {b : Bool} (h : ¬(s.stl.hstb = some false ∧ b = true)) :
    s.sampleHstb b = (s.setStl { s.stl with hstb := some b }).note .hstb := by
  have hc : (b && s.stl.hstb == some false) = false := by
    rw [Bool.eq_false_iff]
    intro k
    rw [Bool.and_eq_true, beq_iff_eq] at k
    exact h k.symm
  unfold State.sampleHstb
  rw [hc]
  rfl

/-- HSTB rising from low: a strobe. -/
theorem State.sampleHstb_rising (h : s.stl.hstb = some false) :
    s.sampleHstb true = ((s.setStl { s.stl with hstb := some true }).note .hstb).strobe .hstb := by
  unfold State.sampleHstb
  rw [h]
  rfl

theorem State.strobe_of_empty {s : State} {src : StrobeSource} (h : s.stl.latched = none) : s.strobe src =
    (s.setStl { s.stl with latched := some ⟨s.now, s.tsu.gen, s.tsu.state, s.tsu.grade, src⟩ }).raiseNotice
      .strobe (.strobe src s.now) := by
  unfold State.strobe
  rw [h]

theorem State.strobe_of_full {s : State} {src : StrobeSource} {y : Strobe} (h : s.stl.latched = some y) : s.strobe src =
    s.setStl { s.stl with ignored := raiseBy 255 1 s.stl.ignored } := by
  unfold State.strobe
  rw [h]

end Samples

/-! ### The tick -/

section Tick

variable {s u : State} {n : Nat} {x : Pins}

theorem exec_oscillatorTick (hh : s.mlc.held = false) (hn : n + 1 < s.ticksToRoll) :
    exec (.oscillatorTick n x) s = .next ((s.runTicks (n + 1)).samplePins x) :=
  (if_neg (by simp [hh])).trans (if_pos hn)

theorem exec_oscillatorTick_roll (hh : s.mlc.held = false) (hn : s.ticksToRoll ≤ n + 1) :
    exec (.oscillatorTick n x) s = .next ((s.roll false x.receiving).samplePins x) :=
  (if_neg (by simp [hh])).trans (if_neg (not_lt.mpr hn))

/-- Ticks below the roll with nothing in assembly: the value and the clock alone have moved on. -/
theorem State.runTicks_quiet (hi : s.tsu.ts.InRange) (hl : s.LinesIdle) (hn : n + 1 < s.ticksToRoll) :
    ∃ (v : Ts) (c : Clock), s.runTicks (n + 1) = (s.setTsu { s.tsu with ts := v }).setClk c
      ∧ v.sec = s.tsu.ts.sec ∧ v.InRange ∧ v.units = s.tsu.ts.units + (n + 1) * tickIncrement s.tsu.fTotal
      ∧ c.ticks = s.clk.ticks + (n + 1) ∧ c.elapsed = s.clk.elapsed + (n + 1) * tickIncrement s.tsu.fTotal
      ∧ c.rolled = none ∧ c.stepStamp = s.clk.stepStamp ∧ c.taken = [] := by
  have hpos : 0 < s.tickUnits := by
    rw [Nat.pos_iff_ne_zero]
    intro h0
    rw [State.ticksToRoll_eq, h0, ticksFor, Nat.div_zero] at hn
    omega
  obtain ⟨hsec, hunits⟩ := State.runTicks_below_roll hpos hi hn
  have hr : (s.runTicks (n + 1)).tsu.ts.InRange := State.runTicks_ts hi (n + 1) ▸ Ts.advance_inRange _ _
  have hc := s.runTicks_clk n
  obtain ⟨v, c, e⟩ := State.runTicks_of_linesIdle s hl (n + 1)
  rw [e] at hsec hunits hr hc
  rw [State.setClk_clk] at hc
  refine ⟨v, c, e, hsec, hr, hunits, ?_⟩
  rw [hc]
  exact ⟨rfl, rfl, rfl, rfl, rfl⟩

/-- A line's edge at a tick at which nothing has been taken. -/
theorem exec_lineEdge (hh : u.mlc.held = false) (ht : u.clk.taken = []) {l : Line} {b : Bool}
    (hb : (u.line l).sample ≠ b) : exec (.lineEdge l b) u = .next ((u.sampleLine l b).note (.line l)) := by
  have hg : ¬(u.mlc.held || (u.line l).sample == b) = true := by simp [hh, hb]
  have hf : u.freeTick (u.hasTaken .pins || u.hasTaken (.line l)) = some u := by
    simp [State.freeTick, State.hasTaken, ht]
  refine (if_neg hg).trans ?_
  rw [hf]

/-- The pins at a tick at which the serial lines show nothing. -/
structure SilentPins (x : Pins) : Prop where
  link : x.linkRx = ⟨none, false⟩
  a : x.todA = ⟨none, false⟩
  b : x.todB = ⟨none, false⟩

theorem State.samplePins_kept (hx : SilentPins x) (hs : u.stl.hstb = some x.hstb)
    (hl : ∀ l : Line, (u.line l).sample = x.lines.getLsbD l.val) :
    u.samplePins x = u.setClk { u.clk with taken := .hstb :: .pins :: u.clk.taken } := by
  rw [u.samplePins_of_silent hx.link hx.a hx.b, foldl_sampleLine_same _ fun l _ => hl l]
  exact State.sampleHstb_same (u.note .pins) hs

theorem State.samplePins_line (hx : SilentPins x) (hs : u.stl.hstb = some x.hstb) (ht : u.clk.taken = []) {l : Line}
    (hl : ∀ k : Line, k ≠ l → (u.line k).sample = x.lines.getLsbD k.val) :
    u.samplePins x =
      let t := (u.sampleLine l (x.lines.getLsbD l.val)).note (.line l)
      t.setClk { t.clk with taken := [.hstb, .pins] } := by
  rw [u.samplePins_of_silent hx.link hx.a hx.b, foldl_sampleLine_one u l hl]
  obtain ⟨hc, hst⟩ := u.sampleLine_clk l (x.lines.getLsbD l.val)
  rw [← hc] at ht
  generalize u.sampleLine l (x.lines.getLsbD l.val) = w at ht hst
  rw [State.sampleHstb_same (w.note .pins) ((congrArg Stl.hstb hst).trans hs)]
  change w.setClk { w.clk with taken := .hstb :: .pins :: w.clk.taken } = _
  rw [ht]
  rfl

/-- HSTB's sample where no line has another level. -/
theorem State.samplePins_hstb (hx : SilentPins x) (hl : ∀ l : Line, (u.line l).sample = x.lines.getLsbD l.val) :
    u.samplePins x = (u.note .pins).sampleHstb x.hstb := by
  rw [u.samplePins_of_silent hx.link hx.a hx.b, foldl_sampleLine_same _ fun l _ => hl l]

/-- The state of a tick with the samples of the pins noted. -/
def State.sampled (u : State) : State := u.setClk { u.clk with taken := [.hstb, .pins] }

theorem State.sampled_of_free (ht : u.clk.taken = []) :
    u.setClk { u.clk with taken := .hstb :: .pins :: u.clk.taken } = u.sampled := by
  rw [ht]
  rfl

theorem State.note_samples (ht : u.clk.taken = []) (y : Stl) :
    ((u.note .pins).setStl y).note .hstb = u.sampled.setStl y := by
  rw [← State.sampled_of_free ht]
  rfl

/-- HSTB at a tick, by its sample before and the latch. -/
theorem State.samplePins_strobe (hx : SilentPins x) (ht : u.clk.taken = [])
    (hl : ∀ l : Line, (u.line l).sample = x.lines.getLsbD l.val) :
    (u.stl.hstb = some false → x.hstb = true → u.stl.latched = none →
      u.samplePins x = (u.sampled.setStl { u.stl with
        latched := some ⟨u.now, u.tsu.gen, u.tsu.state, u.tsu.grade, .hstb⟩, hstb := some true }).raiseNotice
          .strobe (.strobe .hstb u.now))
    ∧ (∀ y : Strobe, u.stl.hstb = some false → x.hstb = true → u.stl.latched = some y →
      u.samplePins x = u.sampled.setStl { u.stl with
        ignored := if u.stl.ignored + 1 ≤ 255 then u.stl.ignored + 1 else 255, hstb := some true })
    ∧ (¬(u.stl.hstb = some false ∧ x.hstb = true) →
      u.samplePins x = u.sampled.setStl { u.stl with hstb := some x.hstb }) := by
  rw [State.samplePins_hstb hx hl]
  refine ⟨fun h0 h1 he => ?_, fun y h0 h1 he => ?_, fun h => ?_⟩
  · rw [h1, State.sampleHstb_rising (u.note .pins) h0, State.note_samples ht]
    exact State.strobe_of_empty he
  · rw [h1, State.sampleHstb_rising (u.note .pins) h0, State.note_samples ht]
    exact State.strobe_of_full he
  · rw [State.sampleHstb_level (u.note .pins) h, State.note_samples ht]
    rfl

/-- O12's four clauses, `u` being the state that the ticks lead to. -/
theorem tick_cases (hh : s.mlc.held = false) (hi : s.tsu.ts.InRange) (hl : s.LinesIdle) (hx : SilentPins x)
    (hu : s.runTicks (n + 1) = u) :
    (n + 1 < s.ticksToRoll → s.stl.hstb = some x.hstb → (∀ l : Line, (s.line l).sample = x.lines.getLsbD l.val) →
      ∃ (v : Ts) (c : Clock),
        exec (.oscillatorTick n x) s = .next ((s.setTsu { s.tsu with ts := v }).setClk c)
        ∧ v.sec = s.tsu.ts.sec ∧ v.InRange ∧ v.units = s.tsu.ts.units + (n + 1) * tickIncrement s.tsu.fTotal
        ∧ c.ticks = s.clk.ticks + (n + 1) ∧ c.elapsed = s.clk.elapsed + (n + 1) * tickIncrement s.tsu.fTotal
        ∧ c.rolled = none ∧ c.stepStamp = s.clk.stepStamp ∧ c.taken = [.hstb, .pins])
    ∧ (∀ l : Line, n + 1 < s.ticksToRoll → s.stl.hstb = some x.hstb → (s.line l).sample ≠ x.lines.getLsbD l.val →
      (∀ k : Line, k ≠ l → (s.line k).sample = x.lines.getLsbD k.val) →
      ∃ t : State, exec (.lineEdge l (x.lines.getLsbD l.val)) u = .next t
        ∧ exec (.oscillatorTick n x) s = .next (t.setClk { t.clk with taken := [.hstb, .pins] }))
    ∧ (n + 1 < s.ticksToRoll → (∀ l : Line, (s.line l).sample = x.lines.getLsbD l.val) →
      (s.stl.hstb = some false → x.hstb = true → s.stl.latched = none →
        exec (.oscillatorTick n x) s = .next ((u.sampled.setStl { s.stl with
          latched := some ⟨u.now, s.tsu.gen, s.tsu.state, s.tsu.grade, .hstb⟩, hstb := some true }).raiseNotice
            .strobe (.strobe .hstb u.now)))
      ∧ (∀ y : Strobe, s.stl.hstb = some false → x.hstb = true → s.stl.latched = some y →
        exec (.oscillatorTick n x) s = .next (u.sampled.setStl { s.stl with
          ignored := if s.stl.ignored + 1 ≤ 255 then s.stl.ignored + 1 else 255, hstb := some true }))
      ∧ (¬(s.stl.hstb = some false ∧ x.hstb = true) →
        exec (.oscillatorTick n x) s = .next (u.sampled.setStl { s.stl with hstb := some x.hstb }))) := by
  refine ⟨fun hn hs hline => ?_, fun l hn hs hd hline => ?_, fun hn hline => ?_⟩ <;>
    obtain ⟨v, c, e, hsec, hv, hunits, hticks, helapsed, hrolled, hstamp, htaken⟩ := State.runTicks_quiet hi hl hn <;>
    rw [exec_oscillatorTick hh hn, hu] <;> rw [hu] at e
  · rw [State.samplePins_kept (u := u) hx (e ▸ hs) (e ▸ hline), e]
    exact ⟨v, { c with taken := .hstb :: .pins :: c.taken }, rfl, hsec, hv, hunits, hticks, helapsed, hrolled, hstamp,
      by rw [htaken]⟩
  · have ht : u.clk.taken = [] := e ▸ htaken
    rw [State.samplePins_line hx (u := u) (e ▸ hs) ht (by rw [e]; exact hline)]
    exact ⟨_, exec_lineEdge (e ▸ hh) ht (e ▸ hd), rfl⟩
  · have ht : u.clk.taken = [] := e ▸ htaken
    have h := State.samplePins_strobe (u := u) hx ht (e ▸ hline)
    have hst : u.stl = s.stl := e ▸ rfl
    have hg : u.tsu.gen = s.tsu.gen ∧ u.tsu.state = s.tsu.state ∧ u.tsu.grade = s.tsu.grade := by
      rw [e]
      exact ⟨rfl, rfl, rfl⟩
    obtain ⟨hgen, hstate, hgrade⟩ := hg
    rw [hst, hgen, hstate, hgrade] at h
    obtain ⟨hempty, hfull, hlevel⟩ := h
    exact ⟨fun a b d => congrArg _ (hempty a b d), fun y a b d => congrArg _ (hfull y a b d),
      fun a => congrArg _ (hlevel a)⟩

/-- A tick that rolls: the roll's work, then samples in which nothing has changed. -/
theorem tick_at_roll (hh : s.mlc.held = false) (hx : SilentPins x) (hn : s.ticksToRoll ≤ n + 1)
    (hs : s.stl.hstb = some x.hstb) (hl : ∀ l : Line, (s.line l).sample = x.lines.getLsbD l.val) :
    ∃ t : State, exec (.secondBoundary ⟨false, x.receiving⟩) s = .next t
      ∧ exec (.oscillatorTick n x) s = .next (t.setClk { t.clk with taken := .hstb :: .pins :: t.clk.taken }) := by
  obtain ⟨hst, hline⟩ := s.roll_pins false x.receiving
  refine ⟨_, exec_secondBoundary hh _, ?_⟩
  rw [exec_oscillatorTick_roll hh hn]
  refine congrArg _ (State.samplePins_kept hx ?_ fun l => ?_)
  · rw [hst, hs]
  · rw [hline, hl]

/-- Settles O12: ticks below the roll end in `tick_cases`, a tick that rolls in `tick_at_roll`. -/
theorem ticksAdvanceTheTimescaleAndSampleThePins : Obligations.TicksAdvanceTheTimescaleAndSampleThePins := by
  intro s n x hh hi hl hr ha hb u r
  obtain ⟨hquiet, hedge, hstrobe⟩ := tick_cases hh hi hl ⟨hr, ha, hb⟩ (n := n) (u := u) rfl
  exact ⟨hquiet, hedge, hstrobe, tick_at_roll hh ⟨hr, ha, hb⟩⟩

end Tick
end Sys2Proof.Machine
end

section
/-! PROOFS. What a boundary raises, and what that makes of the backlog and the pending set (01 R9, R11; 02 R29, R30; 07 R126,
R127; 10 R169). -/
namespace Sys2Proof.Machine

/-! ### A list of occurrences raised -/

/-- The markers among occurrences. -/
def markersIn (xs : List Raise) : List Marker :=
  xs.filterMap fun x => match x with
    | .marker m => some m
    | .notice _ _ => none

/-- The values of the notices for one place among occurrences. -/
def noticesAt (p : Place) (xs : List Raise) : List NoticeValue :=
  xs.filterMap fun x => match x with
    | .marker _ => none
    | .notice q v => if q.index = p.index then some v else none

theorem markersIn_append (xs ys : List Raise) : markersIn (xs ++ ys) = markersIn xs ++ markersIn ys := List.filterMap_append

theorem noticesAt_append (p : Place) (xs ys : List Raise) : noticesAt p (xs ++ ys) = noticesAt p xs ++ noticesAt p ys :=
  List.filterMap_append

/-- Occurrences change the backlog by their markers alone, each with the present capture, grade and generation. -/
theorem State.raises_backlog (s : State) (xs : List Raise) :
    (xs.foldl State.raiseOne s).sq.backlog = (markersIn xs).foldl (fun b m => b.raise s.hdr m) s.sq.backlog := by
  induction xs generalizing s with
  | nil => rfl
  | cons x xs ih =>
    rw [List.foldl_cons, ih]
    cases x with
    | marker m => rfl
    | notice p v =>
      obtain ⟨n, m, h⟩ := s.raiseNotice_eq p v
      rw [State.raiseOne, h]
      rfl

/-- Where the transmitter gives nothing out, occurrences change an entry of the pending set by the notices for its place. -/
theorem State.raises_at {s : State} (w : s.mlc.Waits) (p : Place) (xs : List Raise) :
    (xs.foldl State.raiseOne s).ntu.at p =
      (noticesAt p xs).foldl (fun o v => some (Notice.merge v s.now.sec o)) (s.ntu.at p) := by
  induction xs generalizing s with
  | nil => rfl
  | cons x xs ih =>
    rw [List.foldl_cons]
    cases x with
    | marker m => exact ih (s := s.raiseMarker s.hdr m) w
    | notice q v =>
      rw [State.raiseOne, State.raiseNotice_of_waits w, ih (s := s.setNtu (s.ntu.raise q v s.now.sec)) w]
      rw [State.setNtu_ntu, Ntu.at_raise]
      by_cases h : q.index = p.index
      · have hat : s.ntu.at q = s.ntu.at p := by simp only [Ntu.at, h]
        simp [noticesAt, h, hat, State.now]
      · simp [noticesAt, h, State.now]

/-! ### One, two, or no notices for a place -/

theorem noticed_zero (v : NoticeValue) (sec : RowSec) (o : Option Notice) : noticed 0 v sec o = o := if_pos rfl

theorem noticed_one (v : NoticeValue) (sec : RowSec) (o : Option Notice) :
    noticed 1 v sec o = some (Notice.merge v sec o) := by
  cases o <;> rfl

theorem noticed_two (v w : NoticeValue) (sec : RowSec) (o : Option Notice) :
    noticed 2 v sec o = some (Notice.merge v sec (some (Notice.merge w sec o))) := by
  cases o with
  | none => rfl
  | some e =>
    have h : (if e.count + 2 ≤ 255 then e.count + 2 else 255) = raiseBy 255 1 (raiseBy 255 1 e.count) := by
      unfold raiseBy
      split_ifs <;> omega
    exact congrArg (fun c => some (Notice.mk v c sec)) h

/-! ### TSU's raises (01 R9, R11, R16) -/

/-- The occurrences at a boundary that are neither a step's nor a change of state's: of the leap and the holdover limit. -/
def Raise.Minor : Raise → Prop
  | .marker (.leap _ _) => True
  | .notice .leap _ => True
  | .notice .holdoverLimit _ => True
  | _ => False

theorem noticesAt_of_minor {xs : List Raise} (h : ∀ x ∈ xs, x.Minor) {p : Place} (h2 : p.index ≠ 2) (h57 : p.index ≠ 57) :
    noticesAt p xs = [] := by
  rw [noticesAt, List.filterMap_eq_nil_iff]
  intro x hx
  have hm := h x hx
  unfold Raise.Minor at hm
  split at hm
  · rfl
  · exact if_neg h57.symm
  · exact if_neg h2.symm
  · exact hm.elim

/-- A marker that is neither STEP nor TSTATE. -/
def Marker.Other : Marker → Prop
  | .step _ _ => False
  | .tstate _ _ => False
  | _ => True

theorem Backlog.raise_other (b : Backlog) (h : Hdr) {m : Marker} (hm : m.Other) :
    (b.raise h m).step = b.step ∧ (b.raise h m).tstate = b.tstate := by
  unfold Backlog.raise
  cases m with
  | step k a => exact hm.elim
  | tstate st k => exact hm.elim
  | restart c st => exact ⟨rfl, rfl⟩
  | leap c u => exact ⟨rfl, rfl⟩
  | gap k => simp only; split <;> exact ⟨rfl, rfl⟩
  | tick k => simp only; split <;> exact ⟨rfl, rfl⟩
  | rack p st k => simp only; split <;> exact ⟨rfl, rfl⟩

theorem Backlog.raises_other (b : Backlog) (h : Hdr) {ms : List Marker} (hm : ∀ m ∈ ms, m.Other) :
    (ms.foldl (fun b m => b.raise h m) b).step = b.step ∧ (ms.foldl (fun b m => b.raise h m) b).tstate = b.tstate := by
  induction ms generalizing b with
  | nil => exact ⟨rfl, rfl⟩
  | cons m ms ih =>
    obtain ⟨hs, ht⟩ := b.raise_other h (hm m List.mem_cons_self)
    obtain ⟨is, it⟩ := ih (b.raise h m) fun k hk => hm k (List.mem_cons_of_mem _ hk)
    exact ⟨is.trans hs, it.trans ht⟩

theorem markersIn_of_minor {xs : List Raise} (h : ∀ x ∈ xs, x.Minor) : ∀ m ∈ markersIn xs, m.Other := by
  intro m hm
  rw [markersIn, List.mem_filterMap] at hm
  obtain ⟨x, hx, e⟩ := hm
  have hx := h x hx
  unfold Raise.Minor at hx
  split at hx
  · cases e
    trivial
  · cases e
  · cases e
  · exact hx.elim

section TsuRaises

variable (t : Tsu)

theorem Tsu.leapRaises_minor (c : LeapCause) : ∀ x ∈ t.leapRaises c, x.Minor := by
  cases c <;> simp [Tsu.leapRaises, Raise.Minor]

theorem Tsu.adoptOffset_minor (m : RefMessage) : ∀ x ∈ (t.adoptOffset m).2, x.Minor := by
  unfold Tsu.adoptOffset
  split
  · exact fun _ h => absurd h List.not_mem_nil
  · dsimp only
    exact Tsu.leapRaises_minor _ _

theorem Tsu.adoptLeap_minor (m : RefMessage) : ∀ x ∈ (t.adoptLeap m).2, x.Minor := by
  unfold Tsu.adoptLeap
  split
  · exact fun _ h => absurd h List.not_mem_nil
  · split
    · exact fun _ h => absurd h List.not_mem_nil
    · dsimp only
      exact Tsu.leapRaises_minor _ _

theorem Tsu.applyLeap_minor (ended : RowSec) : ∀ x ∈ (t.applyLeap ended).2, x.Minor := by
  unfold Tsu.applyLeap
  split
  · exact fun _ h => absurd h List.not_mem_nil
  all_goals
    split
    · dsimp only
      exact Tsu.leapRaises_minor _ _
    · exact fun _ h => absurd h List.not_mem_nil

theorem Tsu.countHoldover_minor : ∀ x ∈ t.countHoldover.2, x.Minor := by
  unfold Tsu.countHoldover
  split
  · simp only
    split <;> simp [Raise.Minor]
  · exact fun _ h => absurd h List.not_mem_nil

variable (rep : Report)

theorem Tsu.adopted_minor : ∀ x ∈ (t.adopted rep).2, x.Minor := by
  unfold Tsu.adopted
  split
  · intro x hx
    rcases List.mem_append.mp hx with hx | hx
    · exact Tsu.adoptOffset_minor _ _ x hx
    · exact Tsu.adoptLeap_minor _ _ x hx
  · exact fun _ h => absurd h List.not_mem_nil

/-- A selection changes the state exactly where it was unreferenced before, or is after. -/
theorem Tsu.takeSelection_state (b : Bool) : (t.takeSelection b).state = t.state ∨
    (t.state.referenced ≠ b ∧ (b = true → (t.takeSelection b).state = .acquiring ∧ (t.takeSelection b).lockRun = 0)) := by
  unfold Tsu.takeSelection
  split
  case h_1 h => exact .inr ⟨by rw [h]; decide, fun _ => ⟨rfl, rfl⟩⟩
  case h_2 h => exact .inr ⟨by rw [h]; decide, fun _ => ⟨rfl, rfl⟩⟩
  case h_3 h => exact .inr ⟨by rw [h]; decide, fun k => by cases k⟩
  case h_4 h => exact .inr ⟨by rw [h]; decide, fun k => by cases k⟩
  all_goals exact .inl rfl

/-- A loop update from a fresh ACQUIRING stays in it. -/
theorem Tsu.loopUpdate_acquiring (e : PhaseErr) (h : t.state = .acquiring) (h0 : t.lockRun = 0) :
    (t.loopUpdate e).1.state = .acquiring := by
  rcases t.loopUpdate_cases e with ⟨-, k⟩ | ⟨-, k⟩ <;> rw [k]
  rw [show ((t.filter e).countLock e).pushRing.state = ((t.filter e).countLock e).state by
    obtain ⟨_, hp, -⟩ := ((t.filter e).countLock e).pushRing_eq
    rw [hp]]
  have hf : (t.filter e).state = .acquiring ∧ (t.filter e).lockRun = 0 := ⟨h, h0⟩
  unfold Tsu.countLock
  rw [hf.1, hf.2]
  simp only
  split <;> rfl

/-- The state changes once at most at a boundary: by the selection or by the loop update. -/
theorem Tsu.updated_state_once (hrep : rep.good.isSome → rep.sel.isSome) :
    (t.selected rep).state = t.state ∨ (t.updated rep).1.state = (t.selected rep).state := by
  rcases Tsu.takeSelection_state { t with quiet := false } rep.sel.isSome with h | ⟨-, h⟩
  · exact .inl h
  · refine .inr ?_
    unfold Tsu.updated
    split
    · rename_i e m hg
      obtain ⟨hst, hrun⟩ := h (hrep (by rw [hg]; rfl))
      split
      · have hs : (t.selected rep).state = .acquiring := hst
        rw [Tsu.loopUpdate_acquiring _ e hs hrun, hs]
      · rfl
    · rfl

/-- What a boundary raises for the timescale state: one change's marker and notice, or nothing. -/
theorem Tsu.changed_once (hrep : rep.good.isSome → rep.sel.isSome) :
    Tsu.changed { t with quiet := false } (t.selected rep) ++ (t.selected rep).changed (t.updated rep).1 =
      if (t.updated rep).1.state = t.state then [] else stateRaises (t.updated rep).1.state := by
  unfold Tsu.changed
  rcases t.updated_state_once rep hrep with h | h
  · rw [h, if_pos rfl, List.nil_append]
    by_cases k : t.state = (t.updated rep).1.state
    · rw [if_pos k, if_pos k.symm]
    · rw [if_neg k, if_neg (Ne.symm k)]
  · rw [h, if_pos rfl, List.append_nil]
    by_cases k : t.state = (t.selected rep).state
    · rw [if_pos k, if_pos k.symm]
    · rw [if_neg k, if_neg (Ne.symm k)]

theorem Tsu.slewed_state : (t.slewed rep).state = (t.updated rep).1.state := by
  obtain ⟨_, _, _, _, e⟩ := t.leapt_eq rep
  have he : (t.leapt rep).state = (t.updated rep).1.state := by rw [e]
  exact he

/-- The parts before the step leave the generation and the step history. -/
theorem Tsu.slewed_history : (t.slewed rep).gen = t.gen ∧ (t.slewed rep).hist = t.hist := by
  have hs : (t.selected rep).gen = t.gen ∧ (t.selected rep).hist = t.hist := by
    unfold Tsu.selected Tsu.takeSelection
    split
    case h_3 => split <;> exact ⟨rfl, rfl⟩
    all_goals exact ⟨rfl, rfl⟩
  have hu : ∀ (u : Tsu) (e : PhaseErr), (u.loopUpdate e).1.gen = u.gen ∧ (u.loopUpdate e).1.hist = u.hist := by
    intro u e
    rcases u.loopUpdate_cases e with ⟨-, k⟩ | ⟨-, k⟩ <;> rw [k]
    · exact ⟨rfl, rfl⟩
    · obtain ⟨_, _, _, _, hc, -⟩ := (u.filter e).countLock_eq e
      obtain ⟨_, hp, -⟩ := ((u.filter e).countLock e).pushRing_eq
      rw [hp, hc]
      exact ⟨rfl, rfl⟩
  have hup : (t.updated rep).1.gen = t.gen ∧ (t.updated rep).1.hist = t.hist := by
    unfold Tsu.updated
    split
    · split
      · rw [(hu _ _).1, (hu _ _).2]
        exact hs
      · exact hs
    · exact hs
  obtain ⟨_, _, _, _, e⟩ := t.leapt_eq rep
  have hl : (t.leapt rep).gen = t.gen ∧ (t.leapt rep).hist = t.hist := by
    rw [e]
    exact hup
  exact hl

/-- TSU after a boundary and what it raises: with a step, or without. -/
theorem Tsu.boundary_cases (hrep : rep.good.isSome → rep.sel.isSome) :
    let u := (t.boundary rep).1
    ∃ minor last : List Raise, (∀ x ∈ minor, x.Minor)
      ∧ (t.boundary rep).2 = (if u.state = t.state then [] else stateRaises u.state) ++ minor ++ last
      ∧ ((last = [] ∧ u.gen = t.gen ∧ u.quiet = false ∧ u.mark = t.mark ∧ u.ts = t.ts ∧ u.hist = t.hist)
        ∨ ∃ a : Int, last = stepRaises a ∧ u.gen = t.gen + 1 ∧ u.quiet = true ∧ u.mark = some t.ts.sec
          ∧ u.staged = none ∧ u.hist = (⟨t.gen + 1, a⟩ :: t.hist).take 4) := by
  have hts := t.slewed_ts rep
  have hst := t.slewed_state rep
  obtain ⟨hmark, hquiet⟩ := t.slewed_mark rep
  obtain ⟨hgen, hhist⟩ := t.slewed_history rep
  have hminor : ∀ x ∈ (t.updated rep).1.countHoldover.2 ++ (t.adopted rep).2
      ++ ((t.adopted rep).1.applyLeap (t.ts.sec - 1)).2, x.Minor := by
    intro x hx
    simp only [List.mem_append] at hx
    rcases hx with (hx | hx) | hx
    · exact Tsu.countHoldover_minor _ x hx
    · exact Tsu.adopted_minor _ _ x hx
    · exact Tsu.applyLeap_minor _ _ x hx
  intro u
  have hu : u = ((t.slewed rep).step (t.updated rep).2).1 := t.boundary_fst rep
  have hus : u.state = (t.updated rep).1.state := by
    rw [hu, ← hst]
    rcases (t.slewed rep).step_cases (t.updated rep).2 with ⟨v, a, e, -⟩ | ⟨-, -, e⟩ <;> rw [e]
    rfl
  refine ⟨_, ((t.slewed rep).step (t.updated rep).2).2, hminor, ?_, ?_⟩
  · rw [t.boundary_snd, t.changed_once rep hrep, hus]
    simp only [List.append_assoc]
  · rw [hu]
    rcases (t.slewed rep).step_cases (t.updated rep).2 with ⟨v, a, e, -⟩ | ⟨-, -, e⟩ <;> rw [e]
    · refine .inr ⟨a, rfl, ?_, rfl, ?_, rfl, ?_⟩
      · exact congrArg (· + 1) hgen
      · exact congrArg (fun x : Ts => some x.sec) hts
      · rw [← hgen, ← hhist]
        rfl
    · exact .inl ⟨rfl, hgen, hquiet, hmark, hts, hhist⟩

end TsuRaises

/-! ### REF's raises (02 R29, R30) -/

section RefRaises

/-- An input's record after the parts that judge it. -/
def InputRec.judged (r : InputRec) (elapsed : Nat) : InputRec := (r.applyStaged.checkAbsent elapsed).judgeSlot

theorem InputRec.applyStaged_state (r : InputRec) : (r.applyStaged.state = r.state ∨ r.applyStaged.state = .absent
    ∨ r.applyStaged.state = .off) ∧ r.applyStaged.cause = r.cause := by
  unfold InputRec.applyStaged
  split
  · exact ⟨.inl rfl, rfl⟩
  · simp only
    split
    · split
      · exact ⟨.inr (.inl rfl), rfl⟩
      · exact ⟨.inl rfl, rfl⟩
    · split
      · exact ⟨.inl rfl, rfl⟩
      · exact ⟨.inr (.inr rfl), rfl⟩

theorem InputRec.checkAbsent_cases (r : InputRec) (elapsed : Nat) : r.checkAbsent elapsed = r ∨
    (r.state.watched = true ∧ (r.checkAbsent elapsed).state = .absent ∧ (r.checkAbsent elapsed).cause = r.cause) := by
  unfold InputRec.checkAbsent
  split
  · exact .inl rfl
  · split
    · rename_i h
      rw [Bool.and_eq_true] at h
      exact .inr ⟨h.1, rfl, rfl⟩
    · exact .inl rfl

theorem InputRec.judgeSlot_cause (r : InputRec) : r.judgeSlot.cause = r.cause := by
  unfold InputRec.judgeSlot
  split <;> (try split) <;> rfl

theorem InputRec.judgeSlot_idle {r : InputRec} (h : r.state = .absent ∨ r.state = .off) : r.judgeSlot = r := by
  unfold InputRec.judgeSlot
  rcases h with h | h <;> rw [h]

theorem InputRec.checkAbsent_idle {r : InputRec} (h : r.state = .absent ∨ r.state = .off) (elapsed : Nat) :
    r.checkAbsent elapsed = r := by
  rcases r.checkAbsent_cases elapsed with k | ⟨k, -⟩
  · exact k
  · rcases h with h | h <;> rw [h] at k <;> cases k

/-- An input's state changes once at most at a boundary. -/
theorem InputRec.judged_once (r : InputRec) (elapsed : Nat) :
    (r.applyStaged.state = r.state ∨ r.judged elapsed = r.applyStaged)
      ∧ ((r.applyStaged.checkAbsent elapsed).state = r.applyStaged.state
        ∨ r.judged elapsed = r.applyStaged.checkAbsent elapsed) := by
  have idle : ∀ {x : InputRec}, x.state = .absent ∨ x.state = .off → (x.checkAbsent elapsed).judgeSlot = x :=
    fun {x} h => by rw [InputRec.checkAbsent_idle h, InputRec.judgeSlot_idle h]
  refine ⟨?_, ?_⟩
  · rcases r.applyStaged_state.1 with h | h
    · exact .inl h
    · exact .inr (idle h)
  · rcases r.applyStaged.checkAbsent_cases elapsed with h | ⟨-, h, -⟩
    · exact .inl (by rw [h])
    · exact .inr (InputRec.judgeSlot_idle (.inl h))

theorem InputRec.judged_cause (r : InputRec) (elapsed : Nat) :
    (r.applyStaged.checkAbsent elapsed).cause = r.cause ∧ (r.judged elapsed).cause = r.cause := by
  have h : (r.applyStaged.checkAbsent elapsed).cause = r.cause := by
    rcases r.applyStaged.checkAbsent_cases elapsed with h | ⟨-, -, h⟩
    · rw [h, r.applyStaged_state.2]
    · rw [h, r.applyStaged_state.2]
  exact ⟨h, (InputRec.judgeSlot_cause _).trans h⟩

@[simp] theorem Ref.input_mapInputs (r : Ref) (f : InputRec → InputRec) (i : Input) :
    (r.mapInputs f).input i = f (r.input i) := by
  cases i <;> rfl

/-- The notices of a list made input by input, one for each input of which `f` gives a value. -/
theorem noticesAt_inputs (f : Input → Option NoticeValue) (i : Input) :
    noticesAt (.ref i) ([Input.a, .b].filterMap fun j => (f j).map (Raise.notice (.ref j))) = (f i).toList := by
  have hb : (Place.ref .b).index ≠ (Place.ref .a).index := by decide
  cases i <;> cases ha : f .a <;> cases hb' : f .b <;> simp [noticesAt, ha, hb', hb, hb.symm]

theorem noticesAt_stateNotices (old new : Ref) (i : Input) : noticesAt (.ref i) (stateNotices old new) =
    if (old.input i).state = (new.input i).state then [] else [new.noticeOf i] := by
  have h := noticesAt_inputs
    (fun j => if (old.input j).state = (new.input j).state then none else some (new.noticeOf j)) i
  have hf : ∀ j, ((if (old.input j).state = (new.input j).state then none else some (new.noticeOf j)).map
      (Raise.notice (.ref j))) =
        if (old.input j).state = (new.input j).state then none else some (.notice (.ref j) (new.noticeOf j)) := by
    intro j
    split <;> rfl
  simp only [hf] at h
  unfold stateNotices
  rw [h]
  split <;> rfl

theorem noticesAt_selectionNotices (old new : Ref) (i : Input) : noticesAt (.ref i) (selectionNotices old new) =
    if (old.sel == some i) = (new.sel == some i) then [] else [new.noticeOf i] := by
  have h := noticesAt_inputs
    (fun j => if (old.sel == some j) = (new.sel == some j) then none else some (new.noticeOf j)) i
  have hf : ∀ j, ((if (old.sel == some j) = (new.sel == some j) then none else some (new.noticeOf j)).map
      (Raise.notice (.ref j))) =
        if (old.sel == some j) = (new.sel == some j) then none else some (.notice (.ref j) (new.noticeOf j)) := by
    intro j
    split <;> rfl
  simp only [hf] at h
  unfold selectionNotices
  rw [h]
  split <;> rfl

variable (r : Ref) (gen : Gen) (elapsed : Nat) (sec : RowSec)

/-- An input after REF's boundary work. -/
theorem Ref.boundary_input (i : Input) :
    (r.boundary gen elapsed sec).1.input i = ((r.input i).judged elapsed).emptySlot := by
  cases i <;> rfl

/-- A usable verdict is one of a selected input. -/
theorem Ref.boundary_good : (r.boundary gen elapsed sec).2.2.good.isSome → (r.boundary gen elapsed sec).2.2.sel.isSome := by
  intro h
  unfold Ref.boundary at h ⊢
  simp only [Report.good] at h ⊢
  generalize Ref.select _ = sel at h ⊢
  cases sel with
  | none => exact h
  | some i => rfl

/-- REF raises notices of its two places only. -/
theorem Ref.boundary_raises : ∀ x ∈ (r.boundary gen elapsed sec).2.1, ∃ (i : Input) (v : NoticeValue), x = .notice (.ref i) v := by
  have hs : ∀ old new : Ref, ∀ x ∈ stateNotices old new, ∃ (i : Input) (v : NoticeValue), x = .notice (.ref i) v := by
    intro old new x hx
    rw [stateNotices, List.mem_filterMap] at hx
    obtain ⟨i, -, e⟩ := hx
    split at e
    · cases e
    · exact ⟨i, _, (Option.some.inj e).symm⟩
  have hl : ∀ old new : Ref, ∀ x ∈ selectionNotices old new, ∃ (i : Input) (v : NoticeValue), x = .notice (.ref i) v := by
    intro old new x hx
    rw [selectionNotices, List.mem_filterMap] at hx
    obtain ⟨i, -, e⟩ := hx
    split at e
    · cases e
    · exact ⟨i, _, (Option.some.inj e).symm⟩
  intro x hx
  unfold Ref.boundary at hx
  simp only [List.mem_append] at hx
  rcases hx with ((hx | hx) | hx) | hx
  · exact hs _ _ x hx
  · exact hs _ _ x hx
  · exact hs _ _ x hx
  · exact hl _ _ x hx

theorem markersIn_of_ref {xs : List Raise} (h : ∀ x ∈ xs, ∃ (i : Input) (v : NoticeValue), x = .notice (.ref i) v) :
    markersIn xs = [] := by
  rw [markersIn, List.filterMap_eq_nil_iff]
  intro x hx
  obtain ⟨i, v, rfl⟩ := h x hx
  rfl

theorem noticesAt_of_ref {xs : List Raise} (h : ∀ x ∈ xs, ∃ (i : Input) (v : NoticeValue), x = .notice (.ref i) v)
    {p : Place} (hp : p.index.val < 3) : noticesAt p xs = [] := by
  rw [noticesAt, List.filterMap_eq_nil_iff]
  intro x hx
  obtain ⟨i, v, rfl⟩ := h x hx
  refine if_neg fun e => ?_
  rw [← e] at hp
  cases i <;> exact absurd hp (by decide)

/-- An input's notices at a boundary: one for a change of its state, then one for a change of its selected status. -/
theorem Ref.boundary_noticesAt (i : Input) :
    let y := (r.boundary gen elapsed sec).1
    noticesAt (.ref i) (r.boundary gen elapsed sec).2.1 =
      (if (y.input i).state = (r.input i).state then []
        else [.ref (y.input i).state (r.sel == some i) (y.input i).cause])
      ++ (if (r.sel == some i) = (y.sel == some i) then []
        else [.ref (y.input i).state (y.sel == some i) (y.input i).cause]) := by
  intro y
  have hi : y.input i = ((r.input i).judged elapsed).emptySlot := r.boundary_input gen elapsed sec i
  have hstate : (y.input i).state = ((r.input i).judged elapsed).state := by
    rw [hi]
    rfl
  have hcause : (y.input i).cause = (r.input i).cause := by
    rw [hi]
    exact ((r.input i).judged_cause elapsed).2
  have hnotice : ∀ z : Ref, (z.input i).state = (y.input i).state → (z.input i).cause = (r.input i).cause →
      z.noticeOf i = .ref (y.input i).state (z.sel == some i) (y.input i).cause := by
    intro z hs hc
    rw [Ref.noticeOf, hs, hc, hcause]
  obtain ⟨hstaged, habsent⟩ := (r.input i).judged_once elapsed
  obtain ⟨hc2, hc3⟩ := (r.input i).judged_cause elapsed
  have hc1 := (r.input i).applyStaged_state.2
  let r1 := r.mapInputs InputRec.applyStaged
  let r2 := r1.mapInputs (·.checkAbsent elapsed)
  let r3 := r2.mapInputs InputRec.judgeSlot
  let r5 : Ref := { r3.applyShared with sel := r3.applyShared.select }
  have h1 : r1.input i = (r.input i).applyStaged := Ref.input_mapInputs ..
  have h2 : r2.input i = (r.input i).applyStaged.checkAbsent elapsed := by rw [Ref.input_mapInputs, h1]
  have h3 : r3.input i = (r.input i).judged elapsed := by
    rw [Ref.input_mapInputs, h2]
    rfl
  have h5 : r5.input i = (r.input i).judged elapsed := by
    rw [← h3]
    cases i <;> rfl
  change noticesAt (.ref i) (stateNotices r r1 ++ stateNotices r1 r2 ++ stateNotices r2 r3
    ++ selectionNotices r3.applyShared r5) = _
  rw [noticesAt_append, noticesAt_append, noticesAt_append, noticesAt_stateNotices, noticesAt_stateNotices,
    noticesAt_stateNotices, noticesAt_selectionNotices, hnotice r5 (by rw [h5, hstate]) (by rw [h5, hc3])]
  refine congrArg (· ++ _) ?_
  rw [h1, h2, h3]
  have last : ∀ z : Ref, z.sel = r.sel → (z.input i).state = (y.input i).state → (z.input i).cause = (r.input i).cause →
      z.noticeOf i = .ref (y.input i).state (r.sel == some i) (y.input i).cause := fun z hz hs hc => by
    rw [hnotice z hs hc, hz]
  rcases hstaged with hk | hk
  · rw [hk, if_pos rfl, List.nil_append]
    rcases habsent with ha | ha
    · rw [ha, hk, if_pos rfl, List.nil_append, last r3 rfl (by rw [h3, hstate]) (by rw [h3, hc3]), hstate]
      exact if_congr eq_comm rfl rfl
    · rw [ha, if_pos rfl, List.append_nil, last r2 rfl (by rw [h2, hstate, ha]) (by rw [h2, hc2]), hstate, ha]
      exact if_congr eq_comm rfl rfl
  · have ha : ((r.input i).applyStaged.checkAbsent elapsed).state = (r.input i).applyStaged.state := by
      rcases habsent with ha | ha
      · exact ha
      · rw [← ha, hk]
    rw [ha, hk, if_pos rfl, List.append_nil, if_pos rfl, List.append_nil, last r1 rfl (by rw [h1, hstate, hk]) (by rw [h1, hc1]),
      hstate, hk]
    exact if_congr eq_comm rfl rfl

end RefRaises
end Sys2Proof.Machine
end

section
/-! PROOFS. A second boundary's timescale and notices (01 R4, R9, R11, R12, R15; 02 R29, R30). -/
namespace Sys2Proof.Machine

/-! ### The state after REF's and TSU's work -/

section TimeWork

variable (s : State)

/-- REF's boundary work in a state. -/
abbrev State.refWork (sec : RowSec) : Ref × List Raise × Report := s.ref.boundary s.tsu.gen s.clk.elapsed sec

/-- TSU's boundary work in a state, on REF's report. -/
abbrev State.tsuWork (sec : RowSec) : Tsu × List Raise := Tsu.boundary { s.tsu with mark := none } (s.refWork sec).2.2

theorem State.timeWork_snd (sec : RowSec) : (s.timeWork sec).2 = (s.refWork sec).2.1 ++ (s.tsuWork sec).2 := rfl

/-- REF's and TSU's work changes their records, and of the clock what a step's landing notes. -/
theorem State.timeWork_fst (sec : RowSec) : ∃ (i : Time) (n : Nat),
    (s.timeWork sec).1 = ((s.setRef (s.refWork sec).1).setTsu (s.tsuWork sec).1).setClk
      { s.clk with tickFrom := i, stepStamp := n } := by
  unfold State.timeWork
  simp only
  split
  · exact ⟨s.clk.tickFrom, s.clk.stepStamp, rfl⟩
  · exact ⟨_, _, rfl⟩

/-- What a boundary raises is raised by a state that has REF's and TSU's new records, and whose other units are as before. -/
structure State.RaisesFrom (sec : RowSec) (w : State) : Prop where
  tsu : w.tsu = (s.tsuWork sec).1
  ref : w.ref = (s.refWork sec).1
  sq : w.sq = s.sq
  ntu : w.ntu = s.ntu
  mlc : w.mlc = s.mlc
  rolled : w.clk.rolled = s.clk.rolled

theorem State.timeWork_raisesFrom (sec : RowSec) : s.RaisesFrom sec (s.timeWork sec).1 := by
  obtain ⟨i, n, e⟩ := s.timeWork_fst sec
  rw [e]
  exact ⟨rfl, rfl, rfl, rfl, rfl, rfl⟩

/-- The records after a boundary, its markers and its notices. -/
structure State.BoundaryLeaves (sec : RowSec) (t : State) : Prop where
  tsu : t.tsu = (s.tsuWork sec).1
  ref : t.ref = (s.refWork sec).1
  rolled : t.clk.rolled = s.clk.rolled
  step : t.sq.backlog.step =
    ((markersIn ((s.refWork sec).2.1 ++ (s.tsuWork sec).2)).foldl (fun b m => b.raise t.hdr m) s.sq.backlog).step
  tstate : t.sq.backlog.tstate =
    ((markersIn ((s.refWork sec).2.1 ++ (s.tsuWork sec).2)).foldl (fun b m => b.raise t.hdr m) s.sq.backlog).tstate
  notices : s.mlc.Waits → ∀ p : Place, p.OfTime → t.ntu.at p =
    (noticesAt p ((s.refWork sec).2.1 ++ (s.tsuWork sec).2)).foldl (fun o v => some (Notice.merge v t.now.sec o)) (s.ntu.at p)

theorem State.raises_mlc {s : State} (w : s.mlc.Waits) (xs : List Raise) : (xs.foldl State.raiseOne s).mlc = s.mlc := by
  induction xs generalizing s with
  | nil => rfl
  | cons x xs ih =>
    rw [List.foldl_cons]
    cases x with
    | marker m => exact ih (s := s.raiseMarker s.hdr m) w
    | notice q v =>
      rw [State.raiseOne, State.raiseNotice_of_waits w]
      exact ih (s := s.setNtu (s.ntu.raise q v s.now.sec)) w

theorem State.hdr_congr {s t : State} (h : t.tsu = s.tsu) : t.hdr = s.hdr ∧ t.now = s.now := by
  unfold State.hdr State.now
  rw [h]
  exact ⟨rfl, rfl⟩

theorem State.boundaryWork_leaves (sec : RowSec) (d : Bool) (rec : BitVec 16) :
    s.BoundaryLeaves sec (s.boundaryWork sec d rec) := by
  have ha := s.boundaryWork_aside sec d rec
  have hw := s.timeWork_raisesFrom sec
  unfold State.timeRaised at ha
  rw [State.timeWork_snd] at ha
  generalize (s.timeWork sec).1 = w at ha hw
  generalize s.boundaryWork sec d rec = t at ha
  have hb := w.raises_backlog ((s.refWork sec).2.1 ++ (s.tsuWork sec).2)
  obtain ⟨b, n, m, e⟩ := w.raises_eq ((s.refWork sec).2.1 ++ (s.tsuWork sec).2)
  have htsu : t.tsu = w.tsu := by rw [ha.tsu, e]; rfl
  obtain ⟨hhdr, hnow⟩ := State.hdr_congr htsu
  refine ⟨htsu.trans hw.tsu, ?_, ?_, ?_, ?_, fun hs p hp => ?_⟩
  · rw [ha.ref, e]
    exact hw.ref
  · obtain ⟨xs, hx⟩ := ha.clk
    rw [hx, e]
    exact hw.rolled
  · rw [ha.step, hb, hhdr, hw.sq]
  · rw [ha.tstate, hb, hhdr, hw.sq]
  · have hws : w.mlc.Waits := hw.mlc ▸ hs
    rw [(ha.waits ((State.raises_mlc hws _).symm ▸ hws)).2 p hp, State.raises_at hws, hnow, hw.ntu]

end TimeWork

/-! ### The backlog after a boundary -/

section Backlogs

variable (b : Backlog) (h : Hdr)

theorem Backlog.raise_step (a : Int) : (b.raise h (.step 1 a)).step = some (match b.step with
    | none => ⟨h, 1, clamp (-2147483647) 2147483647 a⟩
    | some e => ⟨h, if e.count + 1 ≤ 255 then e.count + 1 else 255,
      clamp (-2147483647) 2147483647 (e.amount + clamp (-2147483647) 2147483647 a)⟩)
    ∧ (b.raise h (.step 1 a)).tstate = b.tstate := by
  unfold Backlog.raise
  cases b.step <;> exact ⟨rfl, rfl⟩

theorem Backlog.raise_tstate (st : TsState) : (b.raise h (.tstate st 1)).tstate = some (match b.tstate with
    | none => ⟨h, st, 1⟩
    | some e => ⟨h, st, if e.count + 1 ≤ 4294967295 then e.count + 1 else 4294967295⟩)
    ∧ (b.raise h (.tstate st 1)).step = b.step := by
  unfold Backlog.raise
  cases b.tstate <;> exact ⟨rfl, rfl⟩

/-- The markers of a change of state, of minor occurrences and of a step, raised in this order. -/
theorem Backlog.raise_boundary {same : Prop} [Decidable same] {st : TsState} {minor last : List Raise}
    (hm : ∀ x ∈ minor, x.Minor) (hl : last = [] ∨ ∃ a, last = stepRaises a) :
    let c := (markersIn ((if same then [] else stateRaises st) ++ minor ++ last)).foldl (fun b m => b.raise h m) b
    (last = [] → c.step = b.step)
    ∧ (∀ a, last = stepRaises a → c.step = some (match b.step with
      | none => ⟨h, 1, clamp (-2147483647) 2147483647 a⟩
      | some e => ⟨h, if e.count + 1 ≤ 255 then e.count + 1 else 255,
        clamp (-2147483647) 2147483647 (e.amount + clamp (-2147483647) 2147483647 a)⟩))
    ∧ (same → c.tstate = b.tstate)
    ∧ (¬same → c.tstate = some (match b.tstate with
      | none => ⟨h, st, 1⟩
      | some e => ⟨h, st, if e.count + 1 ≤ 4294967295 then e.count + 1 else 4294967295⟩)) := by
  intro c
  have hc : c = (markersIn last).foldl (fun b m => b.raise h m) ((markersIn minor).foldl (fun b m => b.raise h m)
      ((markersIn (if same then [] else stateRaises st)).foldl (fun b m => b.raise h m) b)) := by
    simp only [c, markersIn_append, List.foldl_append]
  have hfirst : ((markersIn (if same then [] else stateRaises st)).foldl (fun b m => b.raise h m) b).step = b.step := by
    split
    · rfl
    · exact (b.raise_tstate h st).2
  generalize hb : (markersIn (if same then [] else stateRaises st)).foldl (fun b m => b.raise h m) b = b1 at hc hfirst
  obtain ⟨hs, ht⟩ := b1.raises_other h (markersIn_of_minor hm)
  generalize (markersIn minor).foldl (fun b m => b.raise h m) b1 = b2 at hc hs ht
  have htlast : c.tstate = b1.tstate := by
    rw [hc, ← ht]
    rcases hl with rfl | ⟨a, rfl⟩
    · rfl
    · exact (b2.raise_step h a).2
  refine ⟨?_, ?_, fun k => ?_, fun k => ?_⟩
  · rintro rfl
    exact (congrArg Backlog.step hc).trans (hs.trans hfirst)
  · rintro a rfl
    rw [← hfirst, ← hs, hc]
    exact (b2.raise_step h a).1
  · rw [if_pos k] at hb
    rw [htlast, ← hb]
    rfl
  · rw [if_neg k] at hb
    rw [htlast, ← hb]
    exact (b.raise_tstate h st).1

end Backlogs

/-! ### The notices of a boundary, place by place -/

section Notices

variable {same : Prop} [Decidable same] {st : TsState} {refs minor last : List Raise}

theorem noticesAt_step (hr : ∀ x ∈ refs, ∃ (i : Input) (v : NoticeValue), x = .notice (.ref i) v)
    (hm : ∀ x ∈ minor, x.Minor) :
    noticesAt .step (refs ++ ((if same then [] else stateRaises st) ++ minor ++ last)) = noticesAt .step last := by
  have hs : noticesAt .step (if same then [] else stateRaises st) = [] := by
    split <;> rfl
  rw [noticesAt_append, noticesAt_append, noticesAt_append, noticesAt_of_ref hr (by decide),
    noticesAt_of_minor hm (by decide) (by decide), hs]
  rfl

theorem noticesAt_tstate (hr : ∀ x ∈ refs, ∃ (i : Input) (v : NoticeValue), x = .notice (.ref i) v)
    (hm : ∀ x ∈ minor, x.Minor) (hl : last = [] ∨ ∃ a, last = stepRaises a) :
    noticesAt .tstate (refs ++ ((if same then [] else stateRaises st) ++ minor ++ last)) =
      if same then [] else [.tstate st] := by
  have hs : noticesAt .tstate (if same then [] else stateRaises st) = if same then [] else [.tstate st] := by
    split <;> rfl
  have hlast : noticesAt .tstate last = [] := by
    rcases hl with rfl | ⟨a, rfl⟩ <;> rfl
  rw [noticesAt_append, noticesAt_append, noticesAt_append, noticesAt_of_ref hr (by decide),
    noticesAt_of_minor hm (by decide) (by decide), hs, hlast, List.append_nil, List.append_nil]
  rfl

theorem noticesAt_ref (hm : ∀ x ∈ minor, x.Minor) (hl : last = [] ∨ ∃ a, last = stepRaises a) (i : Input) :
    noticesAt (.ref i) (refs ++ ((if same then [] else stateRaises st) ++ minor ++ last)) = noticesAt (.ref i) refs := by
  have hs : noticesAt (.ref i) (if same then [] else stateRaises st) = [] := by
    cases i <;> split <;> rfl
  have hlast : noticesAt (.ref i) last = [] := by
    rcases hl with rfl | ⟨a, rfl⟩ <;> cases i <;> rfl
  have hminor : noticesAt (.ref i) minor = [] := by
    cases i <;> exact noticesAt_of_minor hm (by decide) (by decide)
  rw [noticesAt_append, noticesAt_append, noticesAt_append, hs, hminor, hlast]
  simp

/-- Notices of a state's change and then of a selected status's change, merged in turn. -/
theorem foldl_merge_two {p q : Prop} [Decidable p] [Decidable q] {v w : NoticeValue} (h : q → w = v) (sec : RowSec)
    (o : Option Notice) :
    ((if p then [] else [w]) ++ (if q then [] else [v])).foldl (fun o v => some (Notice.merge v sec o)) o =
      noticed ((if p then 0 else 1) + (if q then 0 else 1)) v sec o := by
  by_cases hp : p <;> by_cases hq : q
  · simp [hp, hq, noticed_zero]
  · simp [hp, hq, noticed_one]
  · simp [hp, hq, noticed_one, h hq]
  · simp [hp, hq, noticed_two v w]

end Notices
/-! ### What a boundary leaves, in the words of the statement -/

section Outcome

variable {s t : State} {sec : RowSec}

/-- The list of a boundary's occurrences, by TSU's cases. -/
theorem State.BoundaryLeaves.cases (h : s.BoundaryLeaves sec t) : ∃ minor last : List Raise, (∀ x ∈ minor, x.Minor)
    ∧ (s.tsuWork sec).2 =
      (if t.tsu.state = s.tsu.state then [] else stateRaises t.tsu.state) ++ minor ++ last
    ∧ ((last = [] ∧ t.tsu.gen = s.tsu.gen ∧ t.tsu.quiet = false ∧ t.tsu.mark = none ∧ t.tsu.ts = s.tsu.ts
        ∧ t.tsu.hist = s.tsu.hist)
      ∨ ∃ a : Int, last = stepRaises a ∧ t.tsu.gen = s.tsu.gen + 1 ∧ t.tsu.quiet = true
        ∧ t.tsu.mark = some s.tsu.ts.sec ∧ t.tsu.staged = none
        ∧ t.tsu.hist = (⟨s.tsu.gen + 1, a⟩ :: s.tsu.hist).take 4) := by
  rw [h.tsu]
  exact Tsu.boundary_cases { s.tsu with mark := none } (s.refWork sec).2.2 (Ref.boundary_good _ _ _ _)

theorem State.BoundaryLeaves.last_cases {last : List Raise} {P : Prop} {Q : Int → Prop}
    (h : (last = [] ∧ P) ∨ ∃ a : Int, last = stepRaises a ∧ Q a) : last = [] ∨ ∃ a, last = stepRaises a := by
  rcases h with ⟨h, -⟩ | ⟨a, h, -⟩
  · exact .inl h
  · exact .inr ⟨a, h⟩

/-- The markers of a boundary are TSU's. -/
theorem State.markersIn_boundary (xs : List Raise) : markersIn ((s.refWork sec).2.1 ++ xs) = markersIn xs := by
  rw [markersIn_append, markersIn_of_ref (Ref.boundary_raises _ _ _ _), List.nil_append]

/-- A boundary that steps, and one that does not: TSU's record, STEP's backlog entry and STEP's notice. -/
theorem State.BoundaryLeaves.stepped (h : s.BoundaryLeaves sec t) :
    (t.tsu.gen = s.tsu.gen ∧ t.tsu.quiet = false ∧ t.tsu.mark = none ∧ t.tsu.ts = s.tsu.ts
      ∧ t.tsu.hist = s.tsu.hist ∧ t.sq.backlog.step = s.sq.backlog.step
      ∧ (s.mlc.Waits → t.ntu.at .step = s.ntu.at .step))
    ∨ (t.tsu.gen = s.tsu.gen + 1 ∧ t.tsu.quiet = true ∧ t.tsu.mark = some s.tsu.ts.sec ∧ t.tsu.staged = none
      ∧ ∃ a : Int, t.tsu.hist = (⟨s.tsu.gen + 1, a⟩ :: s.tsu.hist).take 4
        ∧ t.sq.backlog.step = some (match s.sq.backlog.step with
            | none => ⟨t.hdr, 1, clamp (-2147483647) 2147483647 a⟩
            | some e => ⟨t.hdr, if e.count + 1 ≤ 255 then e.count + 1 else 255,
              clamp (-2147483647) 2147483647 (e.amount + clamp (-2147483647) 2147483647 a)⟩)
        ∧ (s.mlc.Waits →
          t.ntu.at .step = noticed 1 (.step (clamp (-2147483647) 2147483647 a)) t.now.sec (s.ntu.at .step))) := by
  obtain ⟨minor, last, hm, hraises, hlast⟩ := h.cases
  obtain ⟨hnone, hsome, -, -⟩ := s.sq.backlog.raise_boundary t.hdr (same := t.tsu.state = s.tsu.state)
    (st := t.tsu.state) hm (State.BoundaryLeaves.last_cases hlast)
  have hstep := h.step
  have hnotice := fun w => h.notices w .step (show (1 : Nat) < 5 by decide)
  rw [State.markersIn_boundary, hraises] at hstep
  rw [hraises, noticesAt_step (Ref.boundary_raises _ _ _ _) hm] at hnotice
  rcases hlast with ⟨hl, hgen, hquiet, hmark, hts, hhist⟩ | ⟨a, hl, hgen, hquiet, hmark, hstaged, hhist⟩
  · refine .inl ⟨hgen, hquiet, hmark, hts, hhist, hstep.trans (hnone hl), fun w => ?_⟩
    rw [hnotice w, hl]
    rfl
  · refine .inr ⟨hgen, hquiet, hmark, hstaged, a, hhist, hstep.trans (hsome a hl), fun w => ?_⟩
    rw [hnotice w, hl, noticed_one]
    rfl

/-- A boundary's TSTATE marker and notice. -/
theorem State.BoundaryLeaves.tstates (h : s.BoundaryLeaves sec t) :
    (t.tsu.state = s.tsu.state → t.sq.backlog.tstate = s.sq.backlog.tstate)
    ∧ (t.tsu.state ≠ s.tsu.state → t.sq.backlog.tstate = some (match s.sq.backlog.tstate with
      | none => ⟨t.hdr, t.tsu.state, 1⟩
      | some e => ⟨t.hdr, t.tsu.state, if e.count + 1 ≤ 4294967295 then e.count + 1 else 4294967295⟩))
    ∧ (s.mlc.Waits → t.ntu.at .tstate =
      noticed (if t.tsu.state = s.tsu.state then 0 else 1) (.tstate t.tsu.state) t.now.sec (s.ntu.at .tstate)) := by
  obtain ⟨minor, last, hm, hraises, hlast⟩ := h.cases
  have hl := State.BoundaryLeaves.last_cases hlast
  obtain ⟨-, -, hsame, hnew⟩ := s.sq.backlog.raise_boundary t.hdr (same := t.tsu.state = s.tsu.state)
    (st := t.tsu.state) hm hl
  have htstate := h.tstate
  rw [State.markersIn_boundary, hraises] at htstate
  refine ⟨fun k => htstate.trans (hsame k), fun k => htstate.trans (hnew k), fun w => ?_⟩
  rw [h.notices w .tstate (show (0 : Nat) < 5 by decide), hraises, noticesAt_tstate (Ref.boundary_raises _ _ _ _) hm hl]
  split
  · rw [noticed_zero]
    rfl
  · rw [noticed_one]
    rfl

/-- A boundary's REF notices of an input. -/
theorem State.BoundaryLeaves.refs (h : s.BoundaryLeaves sec t) (w : s.mlc.Waits) (i : Input) :
    t.ntu.at (.ref i) = noticed ((if (t.input i).state = (s.input i).state then 0 else 1)
        + (if t.ref.sel = some i ↔ s.ref.sel = some i then 0 else 1))
      (.ref (t.input i).state (t.ref.sel == some i) (t.input i).cause) t.now.sec (s.ntu.at (.ref i)) := by
  obtain ⟨minor, last, hm, hraises, hlast⟩ := h.cases
  have hplace : (Place.ref i).OfTime := by
    unfold Place.OfTime
    cases i <;> decide
  have hsel : ((s.ref.sel == some i) = (t.ref.sel == some i)) ↔ (t.ref.sel = some i ↔ s.ref.sel = some i) := by
    rw [Bool.eq_iff_iff, beq_iff_eq, beq_iff_eq]
    exact iff_comm
  have hn := Ref.boundary_noticesAt s.ref s.tsu.gen s.clk.elapsed sec i
  rw [← h.ref] at hn
  rw [h.notices w _ hplace, hraises, noticesAt_ref hm (State.BoundaryLeaves.last_cases hlast), hn]
  refine (foldl_merge_two (fun k => ?_) _ _).trans ?_
  · rw [k]
  · simp only [hsel]
    rfl

end Outcome

/-! ### The statement -/

/-- What ticks leave of what a boundary turns on. -/
structure State.Ticked (s u : State) : Prop where
  gen : u.tsu.gen = s.tsu.gen
  state : u.tsu.state = s.tsu.state
  hist : u.tsu.hist = s.tsu.hist
  staged : u.tsu.staged = s.tsu.staged
  mark : u.tsu.mark = s.tsu.mark
  sq : u.sq = s.sq
  ntu : u.ntu = s.ntu
  sel : u.ref.sel = s.ref.sel
  input : ∀ i, (u.input i).state = (s.input i).state
  settings : ∀ i, (u.input i).staged = (s.input i).staged
  waits : u.mlc.Waits ↔ s.mlc.Waits

theorem State.runTicks_ticked (s : State) (n : Nat) : s.Ticked (s.runTicks n) := by
  obtain ⟨v, c, a, b, rx, k, e, ha, hb, -⟩ := s.runTicks_eq n
  rw [e]
  refine ⟨rfl, rfl, rfl, rfl, rfl, rfl, rfl, rfl, fun i => ?_, fun i => ?_, .rfl⟩
  · rcases ha with rfl | rfl <;> rcases hb with rfl | rfl <;> cases i <;> rfl
  · rcases ha with rfl | rfl <;> rcases hb with rfl | rfl <;> cases i <;> rfl

/-- A roll into a second that is not marked is a second boundary, `u` the state at its tick. -/
theorem State.roll_of_unmarked {s u : State} (hu : s.runTicks s.ticksToRoll = u) (hm : s.tsu.mark ≠ some u.tsu.ts.sec)
    (d : Bool) (rec : BitVec 16) : s.roll d rec = u.atRoll.boundaryWork u.tsu.ts.sec d rec := by
  have hk := (s.runTicks_ticked s.ticksToRoll).mark
  rw [hu] at hk
  rw [State.roll, hu]
  exact State.rollWork_of_unmarked u d rec (hk ▸ hm)

/-- With both inputs ABSENT and nothing staged for them REF selects none. -/
theorem Ref.boundary_absent (r : Ref) (gen : Gen) (elapsed : Nat) (sec : RowSec)
    (hs : ∀ i, (r.input i).state = .absent) (hn : ∀ i, (r.input i).staged = none) :
    (r.boundary gen elapsed sec).2.2 = ⟨none, none⟩ := by
  have hj : ∀ i, (r.input i).applyStaged = r.input i := fun i => by
    unfold InputRec.applyStaged
    rw [hn i]
  have hk : ∀ i, (((r.input i).applyStaged).checkAbsent elapsed).judgeSlot = r.input i := fun i => by
    rw [hj, InputRec.checkAbsent_idle (.inl (hs i)), InputRec.judgeSlot_idle (.inl (hs i))]
  have hsel : ∀ z : Ref, (∀ i, (z.input i).state = .absent) → z.select = none := by
    intro z hz
    unfold Ref.select
    simp only [hz]
    split <;> simp
  unfold Ref.boundary
  have h0 := hsel (((r.mapInputs InputRec.applyStaged).mapInputs (·.checkAbsent elapsed)).mapInputs
    InputRec.judgeSlot).applyShared fun i => by
      rw [← hs i, ← hk i]
      cases i <;> rfl
  simp only [h0]
  rfl

/-- A loss of the selection keeps a staged SET TIME. -/
theorem Tsu.takeSelection_false_staged (t : Tsu) : (t.takeSelection false).staged = t.staged := by
  cases h : t.state with
  | freerun => rw [(t.takeSelection_of_freerun h).2]
  | acquiring =>
    rw [(t.takeSelection_of_acquiring h).2]
    split <;> rfl
  | locked =>
    rw [(t.takeSelection_of_locked h).2]
    rfl
  | holdover => rw [(t.takeSelection_of_holdover h).2]

theorem Tsu.step_of_staged {t : Tsu} {T : RowSec} (h : t.staged = some T) :
    (t.step none).1 = t.takeStep ⟨T, 0, 0⟩ (secDiff T t.ts.sec * 1000000000 - t.ts.ns) := by
  simp only [Tsu.step, h]
  rfl

/-- Without a selection a staged SET TIME is taken to its row second exactly (01 R15). -/
theorem Tsu.boundary_setTime (t : Tsu) {T : RowSec} (h : t.staged = some T) :
    let u := (t.boundary ⟨none, none⟩).1
    u.ts = ⟨T, 0, 0⟩ ∧ u.staged = none ∧ u.gen = t.gen + 1
      ∧ u.hist = (⟨t.gen + 1, secDiff T t.ts.sec * 1000000000 - t.ts.ns⟩ :: t.hist).take 4 := by
  have hts := t.slewed_ts ⟨none, none⟩
  obtain ⟨hgen, hhist⟩ := t.slewed_history ⟨none, none⟩
  have hstaged : (t.slewed ⟨none, none⟩).staged = some T := by
    obtain ⟨_, _, _, _, e⟩ := t.leapt_eq ⟨none, none⟩
    have hl : (t.leapt ⟨none, none⟩).staged = some T := by
      rw [e]
      exact (Tsu.takeSelection_false_staged _).trans h
    exact hl
  intro u
  have hu : u = (t.slewed ⟨none, none⟩).takeStep ⟨T, 0, 0⟩ (secDiff T t.ts.sec * 1000000000 - t.ts.ns) := by
    rw [← hts, ← Tsu.step_of_staged hstaged]
    exact t.boundary_fst ⟨none, none⟩
  rw [hu]
  refine ⟨rfl, rfl, congrArg (· + 1) hgen, ?_⟩
  rw [← hgen, ← hhist]
  rfl

/-- SECOND_BOUNDARY at a roll into a second that is not marked, `u` the state at its tick. -/
theorem exec_secondBoundary_unmarked {s u : State} (hu : s.runTicks s.ticksToRoll = u) (hh : s.mlc.held = false)
    (hm : s.tsu.mark ≠ some u.tsu.ts.sec) (d : Bool) (rec : BitVec 16) :
    ∃ t, exec (.secondBoundary ⟨d, rec⟩) s = .next t ∧ s.Ticked u ∧ u.atRoll.BoundaryLeaves u.tsu.ts.sec t :=
  ⟨_, (exec_secondBoundary hh _).trans (congrArg _ (State.roll_of_unmarked hu hm d rec)),
    hu ▸ s.runTicks_ticked s.ticksToRoll, State.boundaryWork_leaves ..⟩

/-- O14's account of one boundary, `u` the state at the roll's tick. -/
theorem State.BoundaryLeaves.outcome {s u t : State} (hk : s.Ticked u) (h : u.atRoll.BoundaryLeaves u.tsu.ts.sec t) :
    let h : Hdr := ⟨t.now, t.tsu.grade, t.tsu.gen⟩
    ((t.tsu.gen = s.tsu.gen ∧ t.tsu.quiet = false ∧ t.tsu.mark = none ∧ t.tsu.ts = u.tsu.ts
        ∧ t.tsu.hist = s.tsu.hist ∧ t.sq.backlog.step = s.sq.backlog.step
        ∧ (s.mlc.Waits → t.ntu.at .step = s.ntu.at .step))
      ∨ (t.tsu.gen = s.tsu.gen + 1 ∧ t.tsu.quiet = true ∧ t.tsu.mark = some u.tsu.ts.sec ∧ t.tsu.staged = none
        ∧ ∃ a : Int, t.tsu.hist = (⟨s.tsu.gen + 1, a⟩ :: s.tsu.hist).take 4
          ∧ (let limited := fun (v : Int) => clamp (-2147483647) 2147483647 v
            t.sq.backlog.step = some (match s.sq.backlog.step with
              | none => ⟨h, 1, limited a⟩
              | some e => ⟨h, if e.count + 1 ≤ 255 then e.count + 1 else 255, limited (e.amount + limited a)⟩)
            ∧ (s.mlc.Waits → t.ntu.at .step = noticed 1 (.step (limited a)) t.now.sec (s.ntu.at .step)))))
    ∧ (t.tsu.state = s.tsu.state → t.sq.backlog.tstate = s.sq.backlog.tstate)
    ∧ (t.tsu.state ≠ s.tsu.state → t.sq.backlog.tstate = some (match s.sq.backlog.tstate with
      | none => ⟨h, t.tsu.state, 1⟩
      | some e => ⟨h, t.tsu.state, if e.count + 1 ≤ 4294967295 then e.count + 1 else 4294967295⟩))
    ∧ (s.mlc.Waits → t.ntu.at .tstate =
      noticed (if t.tsu.state = s.tsu.state then 0 else 1) (.tstate t.tsu.state) t.now.sec (s.ntu.at .tstate))
    ∧ (s.mlc.Waits → ∀ i : Input,
      let changes := (if (t.input i).state = (s.input i).state then 0 else 1)
        + (if t.ref.sel = some i ↔ s.ref.sel = some i then 0 else 1)
      t.ntu.at (.ref i) = noticed changes (.ref (t.input i).state (t.ref.sel == some i) (t.input i).cause) t.now.sec
        (s.ntu.at (.ref i))) := by
  have hstepped := h.stepped
  have htstates := h.tstates
  have hrefs := h.refs
  change (_ ∨ _) at hstepped
  generalize hv : u.atRoll = v at hstepped htstates hrefs
  have hk' : s.Ticked v ∧ v.tsu = u.tsu := by
    rw [← hv]
    exact ⟨⟨hk.gen, hk.state, hk.hist, hk.staged, hk.mark, hk.sq, hk.ntu, hk.sel, hk.input, hk.settings, hk.waits⟩, rfl⟩
  obtain ⟨hk', htsu⟩ := hk'
  rw [hk'.waits, hk'.sq, hk'.ntu, hk'.gen, hk'.hist, htsu] at hstepped
  rw [hk'.waits, hk'.sq, hk'.ntu, hk'.state] at htstates
  simp only [hk'.waits, hk'.ntu, hk'.sel, hk'.input] at hrefs
  obtain ⟨hsame, hnew, hnotice⟩ := htstates
  exact ⟨hstepped, hsame, hnew, hnotice, hrefs⟩

/-- The records after a boundary, `u` the state at the roll's tick. -/
theorem State.BoundaryLeaves.records {s u t : State} (hk : s.Ticked u) (h : u.atRoll.BoundaryLeaves u.tsu.ts.sec t) :
    let refs := u.ref.boundary s.tsu.gen u.clk.elapsed u.tsu.ts.sec
    t.clk.rolled = some u.tsu.ts.sec ∧ t.ref = refs.1
      ∧ t.tsu = (Tsu.boundary { u.tsu with mark := none } refs.2.2).1 := by
  rw [← hk.gen]
  exact ⟨h.rolled, h.ref, h.tsu⟩

/-- O14's account of a staged SET TIME. -/
theorem State.BoundaryLeaves.setTime {s u t : State} {T : RowSec} (hk : s.Ticked u)
    (h : u.atRoll.BoundaryLeaves u.tsu.ts.sec t) (hT : s.tsu.staged = some T) (ha : ∀ i, (s.input i).state = .absent)
    (hn : ∀ i, (s.input i).staged = none) :
    t.tsu.ts = ⟨T, 0, 0⟩ ∧ t.tsu.staged = none ∧ t.tsu.gen = s.tsu.gen + 1
      ∧ t.tsu.hist = (⟨s.tsu.gen + 1, secDiff T u.tsu.ts.sec * 1000000000 - u.tsu.ts.ns⟩ :: s.tsu.hist).take 4 := by
  have hrep : (u.atRoll.refWork u.tsu.ts.sec).2.2 = ⟨none, none⟩ :=
    Ref.boundary_absent _ _ _ _ (fun i => (hk.input i).trans (ha i)) (fun i => (hk.settings i).trans (hn i))
  have htsu := h.tsu
  rw [State.tsuWork, hrep] at htsu
  rw [htsu, ← hk.gen, ← hk.hist]
  exact Tsu.boundary_setTime { u.atRoll.tsu with mark := none } (hk.staged.trans hT)

/-- Settles O14: the boundary's occurrences by TSU's and REF's cases; a staged SET TIME where REF selects none. -/
theorem boundaryClosesTheQuietIntervalOrSteps : Obligations.BoundaryClosesTheQuietIntervalOrSteps := by
  refine ⟨fun s d rec hh => ?_, fun s d rec T hh hT ha hb hna hnb => ?_⟩
  · intro u hm refs waits
    obtain ⟨t, he, hk, hl⟩ := exec_secondBoundary_unmarked (u := u) rfl hh hm d rec
    obtain ⟨hrolled, href, htsu⟩ := hl.records hk
    exact ⟨t, he, hrolled, href, htsu, hl.outcome hk⟩
  · intro u hm
    obtain ⟨t, he, hk, hl⟩ := exec_secondBoundary_unmarked (u := u) rfl hh hm d rec
    refine ⟨t, he, hl.setTime hk hT (fun i => ?_) (fun i => ?_)⟩
    · cases i
      · exact ha
      · exact hb
    · cases i
      · exact hna
      · exact hnb

end Sys2Proof.Machine
end

section
/-! PROOFS. One port through a work over every port, and a departure of cycle 0 as the statements give it (04 R61 to R66). -/
namespace Sys2Proof.Machine

/-! ### Port by port -/

/-- The shares of every port but `p`. -/
abbrev State.Others (p : Port) : State → State → Prop := State.ShareOf (· ≠ p)

theorem State.PortShare.others {p q : Port} {s t : State} (h : s.PortShare q t) (hq : q ≠ p) : s.Others p t :=
  State.ShareOf.mono h fun _ hr => hr ▸ hq

/-- What the others' shares leave of port `p`. -/
structure State.SamePort (p : Port) (s t : State) : Prop where
  port : t.port p = s.port p
  rack : t.rack p = s.rack p
  comp : t.comp p = s.comp p
  below : t.eds.earlyBelow[p] = s.eds.earlyBelow[p]
  noted : ∀ sec k, TickEvent.departure p sec k ∈ t.clk.taken ↔ TickEvent.departure p sec k ∈ s.clk.taken

theorem State.Others.samePort {p : Port} {s t : State} (h : s.Others p t) : s.SamePort p t :=
  have hp : ¬p ≠ p := fun k => k rfl
  ⟨h.port p hp, h.rack p hp, h.comp p hp, h.below p hp, h.noted p hp⟩

/-- A work over every port, as port `p` sees it: the others' shares, its own, the others'. -/
theorem overPorts_split {f : Port → State → State} (hf : ∀ (q : Port) (s : State), s.PortShare q (f q s)) (p : Port) (s : State) :
    ∃ t, s.Others p t ∧ (f p t).Others p (overPorts f s) :=
  overPorts_at (P := s.Others p) (Q := fun z => ∃ t, s.Others p t ∧ (f p t).Others p z) p
    (fun q hq t ht => ht.trans ((hf q t).others hq))
    (fun t ht => ⟨t, ht, .refl _⟩)
    (fun q hq z ⟨t, ht, hz⟩ => ⟨t, ht, hz.trans ((hf q z).others hq)⟩) (.refl s)

/-! ### An exchange closed for a departure (04 R66, R69) -/

/-- A missing echo takes the port to FAULTED (04 R69). -/
abbrev PortRec.faults (r : PortRec) : Prop := r.state = .up ∧ r.loss ≤ r.miss.missRun

/-- A port after a missing echo. -/
def PortRec.missed (r : PortRec) : PortRec := if r.faults then r.miss.enter .faulted else r.miss

/-- A departure finds an exchange open whose missing echo takes the port to FAULTED. -/
abbrev PortRec.Losing (r : PortRec) : Prop := r.exch ≠ none ∧ r.faults

section Closing

variable (s : State) (p : Port)

theorem State.setPort_setPort (x y : PortRec) : (s.setPort p x).setPort p y = s.setPort p y := by
  have h : (s.rle.ports.set p x).set p y = s.rle.ports.set p y := Vector.set_set ..
  unfold State.setPort
  simp only [State.setRle_rle, h, State.setRle_setRle]

theorem State.raiseNotice_fields (q : Place) (v : NoticeValue) :
    (s.raiseNotice q v).rle = s.rle ∧ (s.raiseNotice q v).drm = s.drm ∧ (s.raiseNotice q v).eds = s.eds := by
  obtain ⟨n, m, e⟩ := s.raiseNotice_eq q v
  rw [e]
  exact ⟨rfl, rfl, rfl⟩

theorem State.changeRecord_fields (r : RackRec) (c : RackCause) : (s.changeRecord p r c).rle = s.rle
    ∧ (s.changeRecord p r c).drm = (s.setRack p r).drm ∧ (s.changeRecord p r c).eds = s.eds := by
  obtain ⟨b, n, m, e⟩ := s.changeRecord_eq p r c
  rw [e]
  exact ⟨rfl, rfl, rfl⟩

theorem State.port_of_rle {s t : State} (h : t.rle = s.rle) (p : Port) : t.port p = s.port p := by
  rw [State.port, h]
  rfl

theorem State.rack_of_drm {s t : State} (h : t.drm = s.drm) (p : Port) : t.rack p = s.rack p := by
  rw [State.rack, h]
  rfl

theorem State.comp_of_eds {s t : State} (h : t.eds = s.eds) (p : Port) : t.comp p = s.comp p := by
  rw [State.comp, h]
  rfl

theorem State.portFaulted_fields : (s.portFaulted p).port p = (s.port p).enter .faulted
    ∧ (s.portFaulted p).rack p = { s.rack p with state := .lost } ∧ (s.portFaulted p).eds = s.eds := by
  unfold State.portFaulted
  obtain ⟨hrle, hdrm, heds⟩ := State.raiseNotice_fields
    ((s.setPort p ((s.port p).enter .faulted)).changeRecord p { s.rack p with state := .lost } .loss) (.port p)
      (.port .faulted .loss)
  obtain ⟨krle, kdrm, keds⟩ := State.changeRecord_fields (s.setPort p ((s.port p).enter .faulted)) p
    { s.rack p with state := .lost } .loss
  refine ⟨?_, ?_, heds.trans keds⟩
  · rw [State.port_of_rle (hrle.trans krle), State.port_setPort_same]
  · rw [State.rack_of_drm (hdrm.trans kdrm), State.rack_setRack_same]

/-- What a missing echo leaves of the port it is missed on, and of EDS. -/
theorem State.missEcho_fields : (s.missEcho p).port p = (s.port p).missed
    ∧ (s.missEcho p).rack p = (if (s.port p).faults then { s.rack p with state := .lost } else s.rack p)
    ∧ (s.missEcho p).eds = s.eds := by
  unfold State.missEcho PortRec.missed
  by_cases h : (s.port p).faults
  · rw [if_pos h, if_pos h, if_pos h]
    obtain ⟨hport, hrack, heds⟩ := (s.setPort p (s.port p).miss).portFaulted_fields p
    exact ⟨hport.trans (by rw [State.port_setPort_same]), hrack, heds⟩
  · rw [if_neg h, if_neg h, if_neg h]
    exact ⟨s.port_setPort_same .., rfl, rfl⟩

/-- A port whose open exchange is closed for a departure (04 R66). -/
def PortRec.closed (r : PortRec) (receiving : Bool) : PortRec :=
  if r.exch = none then r
  else if (receiving && r.canReceive) = true then
    { r.missed with ctr := { r.missed.ctr with framing := bump r.missed.ctr.framing } }
  else r.missed

theorem State.closeForDeparture_fields (b : Bool) : (s.closeForDeparture p b).port p = (s.port p).closed b
    ∧ (s.closeForDeparture p b).rack p = (if (s.port p).Losing then { s.rack p with state := .lost } else s.rack p)
    ∧ (s.closeForDeparture p b).eds = s.eds := by
  obtain ⟨hport, hrack, heds⟩ := s.missEcho_fields p
  unfold PortRec.closed
  rcases s.closeForDeparture_cases p b with ⟨h, e⟩ | ⟨h, k, e⟩ | ⟨h, k, e⟩ <;> rw [e]
  · rw [if_pos h, if_neg fun l => l.1 h]
    exact ⟨rfl, rfl, rfl⟩
  · rw [if_neg h, if_neg (by rw [k]; exact Bool.false_ne_true), hrack]
    exact ⟨hport, if_congr (by simp [h]) rfl rfl, heds⟩
  · rw [if_neg h, if_pos k, State.port_setPort_same, State.rack_setPort, hrack, hport]
    exact ⟨rfl, if_congr (by simp [h]) rfl rfl, heds⟩

theorem PortRec.closed_state (r : PortRec) (b : Bool) (h : r.state ≠ .down) : (r.closed b).state ≠ .down := by
  have hm : r.missed.state ≠ .down := by
    unfold PortRec.missed
    split
    · exact fun k => by cases k
    · exact h
  unfold PortRec.closed
  split
  · exact h
  · split <;> exact hm

/-! ### The statements' departure is the model's -/

theorem State.portFaulted_setPort (r : PortRec) : (s.setPort p r).portFaulted p =
    ((s.setPort p (r.enter .faulted)).changeRecord p { s.rack p with state := .lost } .loss).raiseNotice
      (.port p) (.port .faulted .loss) := by
  unfold State.portFaulted
  rw [State.port_setPort_same, State.setPort_setPort, State.rack_setPort]

/-- The statements' account of a missing echo. -/
theorem echoMissed_eq : echoMissed s p = s.missEcho p := by
  unfold echoMissed State.missEcho
  by_cases h : (s.port p).faults
  · refine (if_pos h).trans (Eq.trans ?_ (if_pos h).symm)
    rw [State.portFaulted_setPort]
    rfl
  · exact (if_neg h).trans (if_neg h).symm

/-- The statements' account of an exchange closed for a departure. -/
theorem overtakenClosed_eq (b : Bool) (h : (s.port p).state ≠ .down) :
    overtakenClosed s p b = s.closeForDeparture p b := by
  have hc : (b && (s.port p).canReceive) = true ↔ b = true ∧ ((s.port p).rx = .looking ∨ (s.port p).rx = .receiving) := by
    simp [PortRec.canReceive, h]
  unfold overtakenClosed
  rcases s.closeForDeparture_cases p b with ⟨he, e⟩ | ⟨he, k, e⟩ | ⟨he, k, e⟩ <;> rw [e]
  · exact if_pos he
  · rw [if_neg he, if_neg (hc.not.mp (by rw [k]; exact Bool.false_ne_true)), echoMissed_eq]
  · rw [if_neg he, if_pos (hc.mp k), echoMissed_eq]

/-- O as a TIME frame carries it: where the record's state has it valid. -/
def State.sentOffset : Option Int := if (s.rack p).state.offsetValid then some (s.rack p).offset else none

theorem RackState.offsetValid_iff (x : RackState) : x.offsetValid = true ↔ x = .settled ∨ x = .watch ∨ x = .drifting := by
  cases x <;> decide

/-- The statements' account of a departure. -/
theorem departureMade_eq (sec : RowSec) (k : Nat) (left : Time) : departureMade s p sec k left = s.departPort p sec k left := by
  unfold departureMade State.departPort State.timeFrame State.logEntry
  simp only [RackState.offsetValid_iff]

/-! ### A departure depends on little -/

/-- Two states that a departure on port `p` does not tell apart, but for the rack record's O. -/
structure State.Alike (p : Port) (s t : State) : Prop where
  port : t.port p = s.port p
  tsu : t.tsu = s.tsu
  marks : t.marks p = s.marks p
  comp : t.comp p = s.comp p
  cycle : t.rle.cycle = s.rle.cycle
  elapsed : t.clk.elapsed = s.clk.elapsed

variable {s p} in
theorem State.Alike.departPort {t : State} (h : s.Alike p t) (ho : t.sentOffset p = s.sentOffset p) (sec : RowSec) (k : Nat)
    (left : Time) : t.departPort p sec k left = s.departPort p sec k left := by
  have hf : t.timeFrame p sec k = s.timeFrame p sec k := by
    unfold State.sentOffset at ho
    unfold State.timeFrame
    rw [h.port, h.tsu, h.marks, h.comp, h.cycle, ho]
  unfold State.departPort State.logEntry
  rw [hf, h.port, h.tsu, h.comp, h.cycle, h.elapsed]

variable {s p} in
theorem State.Alike.closeForDeparture {t : State} (h : s.Alike p t) (b : Bool) :
    (s.closeForDeparture p b).Alike p (t.closeForDeparture p b) := by
  have hs := s.closeForDeparture_share p b
  have ht := t.closeForDeparture_share p b
  obtain ⟨sport, -, seds⟩ := s.closeForDeparture_fields p b
  obtain ⟨tport, -, teds⟩ := t.closeForDeparture_fields p b
  obtain ⟨xs, hx⟩ := hs.clk
  obtain ⟨ys, hy⟩ := ht.clk
  exact
    { port := by rw [sport, tport, h.port]
      tsu := by rw [hs.tsu, ht.tsu, h.tsu]
      marks := by rw [hs.marks, ht.marks, h.marks]
      comp := by rw [State.comp_of_eds seds, State.comp_of_eds teds, h.comp]
      cycle := by rw [hs.cycle, ht.cycle, h.cycle]
      elapsed := by rw [hx, hy]; exact h.elapsed }

theorem State.closeForDeparture_sentOffset (b : Bool) : (s.closeForDeparture p b).sentOffset p =
    if (s.port p).Losing then none else s.sentOffset p := by
  unfold State.sentOffset
  rw [(s.closeForDeparture_fields p b).2.1]
  split
  · rfl
  · rfl

/-! ### Cycle 0's work on a port -/

/-- The mode work leaves whether a departure loses the port. -/
theorem PortRec.losing_modesMoved (r : PortRec) (k n : Nat) (b : Bool) : (modesMoved r k n b).Losing ↔ r.Losing := by
  unfold modesMoved
  simp only
  split <;> split <;> exact .rfl

/-- The port that cycle 0's work leaves: the mode work, then the departure unless it is suppressed. -/
def State.cycleZeroPort (sec : RowSec) (left : Time) (suppressed b : Bool) : PortRec :=
  let w := s.setPort p (modesMoved (s.port p) 0 s.rle.cycle.divisor false)
  if suppressed then w.port p else (w.closeForDeparture p b).departPort p sec 0 left

theorem cycleZero_port (sec : RowSec) (left : Time) (suppressed b : Bool) (h : (s.port p).state ≠ .down) :
    (cycleZero s p sec left suppressed b).port p = s.cycleZeroPort p sec left suppressed b := by
  unfold cycleZero State.cycleZeroPort
  simp only
  split
  · rfl
  · rw [State.port_setPort_same, departureMade_eq, overtakenClosed_eq]
    rw [State.port_setPort_same, PortRec.modesMoved_state]
    exact h

variable {s p} in
/-- States alike leave the port alike, where they send the same O or the port is lost. -/
theorem State.Alike.cycleZeroPort {t : State} (h : s.Alike p t)
    (ho : ¬(s.port p).Losing → t.sentOffset p = s.sentOffset p) (sec : RowSec) (left : Time) (suppressed b : Bool) :
    t.cycleZeroPort p sec left suppressed b = s.cycleZeroPort p sec left suppressed b := by
  unfold State.cycleZeroPort
  simp only
  rw [h.port, h.cycle]
  generalize hr : modesMoved (s.port p) 0 s.rle.cycle.divisor false = r
  have hlose : r.Losing ↔ (s.port p).Losing := by
    rw [← hr]
    exact PortRec.losing_modesMoved ..
  have ha : (s.setPort p r).Alike p (t.setPort p r) :=
    ⟨by rw [State.port_setPort_same, State.port_setPort_same], h.tsu, h.marks, h.comp, h.cycle, h.elapsed⟩
  split
  · exact ha.port
  · refine (ha.closeForDeparture b).departPort ?_ sec 0 left
    rw [State.closeForDeparture_sentOffset, State.closeForDeparture_sentOffset, State.port_setPort_same,
      State.port_setPort_same]
    split
    · rfl
    · rename_i hl
      exact ho (hlose.not.mp hl)

theorem State.depart_fields (sec : RowSec) (k : Nat) (left : Time) (b : Bool) :
    (s.depart p sec k left b).port p = (s.closeForDeparture p b).departPort p sec k left
    ∧ (s.depart p sec k left b).rack p = (s.closeForDeparture p b).rack p
    ∧ (s.depart p sec k left b).eds = (s.closeForDeparture p b).eds := by
  unfold State.depart State.noteOvertaken
  simp only
  split
  · exact ⟨State.port_setPort_same .., rfl, rfl⟩
  · exact ⟨State.port_setPort_same .., rfl, rfl⟩

@[simp] theorem State.raiseNotice_clk (q : Place) (v : NoticeValue) : (s.raiseNotice q v).clk = s.clk := by
  obtain ⟨n, m, e⟩ := s.raiseNotice_eq q v
  rw [e]
  rfl

@[simp] theorem State.changeRecord_clk (r : RackRec) (c : RackCause) : (s.changeRecord p r c).clk = s.clk := by
  obtain ⟨b, n, m, e⟩ := s.changeRecord_eq p r c
  rw [e]
  rfl

theorem State.missEcho_clk : (s.missEcho p).clk = s.clk := by
  unfold State.missEcho State.portFaulted
  split
  · rw [State.raiseNotice_clk, State.changeRecord_clk]
    rfl
  · rfl

theorem State.closeForDeparture_clk (b : Bool) : (s.closeForDeparture p b).clk = s.clk := by
  rcases s.closeForDeparture_cases p b with ⟨-, e⟩ | ⟨-, -, e⟩ | ⟨-, -, e⟩ <;> rw [e]
  · exact s.missEcho_clk p
  · exact s.missEcho_clk p

theorem State.depart_taken (sec : RowSec) (k : Nat) (left : Time) (b : Bool) {e : TickEvent} (h : e ∈ s.clk.taken) :
    e ∈ (s.depart p sec k left b).clk.taken := by
  have hc : (s.closeForDeparture p b).clk.taken = s.clk.taken := by
    rw [State.closeForDeparture_clk]
  unfold State.depart State.noteOvertaken
  simp only
  split
  · exact List.mem_cons_of_mem _ (hc ▸ h)
  · exact hc ▸ h

/-- Cycle 0's work as the model does it, with no SET CYCLE staged. -/
theorem State.cycleWork_fields (sec : RowSec) (left : Time) (early b : Bool) (hst : s.rle.staged = none) :
    (s.cycleWork p sec 0 left early b).port p = s.cycleZeroPort p sec left (s.suppressed sec) b
    ∧ ((s.cycleWork p sec 0 left early b).rack p = s.rack p ∨ (s.port p).Losing
      ∧ (s.cycleWork p sec 0 left early b).rack p = { s.rack p with state := .lost })
    ∧ (s.cycleWork p sec 0 left early b).eds = s.eds
    ∧ TickEvent.departure p sec 0 ∈ (s.cycleWork p sec 0 left early b).clk.taken := by
  have hmode : modeWork (s.port p) 0 s.rle.cycle.divisor s.rle.staged.isSome =
      modesMoved (s.port p) 0 s.rle.cycle.divisor false := by
    rw [modeWork_eq, hst]
    rfl
  unfold State.cycleWork State.cycleZeroPort
  rw [hmode]
  generalize hw : s.setPort p (modesMoved (s.port p) 0 s.rle.cycle.divisor false) = w
  have hport : w.port p = modesMoved (s.port p) 0 s.rle.cycle.divisor false := by
    rw [← hw, State.port_setPort_same]
  have hstaged : (w.note (.departure p sec 0)).rle.staged = none := by
    rw [← hw]
    exact hst
  have hsup : (w.note (.departure p sec 0)).suppressed sec = s.suppressed sec := by
    rw [← hw]
    rfl
  have hrack : w.rack p = s.rack p ∧ w.eds = s.eds := by
    rw [← hw]
    exact ⟨rfl, rfl⟩
  have hdue : ((w.note (.departure p sec 0)).port p).due 0 = true := by simp [PortRec.due]
  have hin : TickEvent.departure p sec 0 ∈ (w.note (.departure p sec 0)).clk.taken := List.mem_cons_self
  simp only [hdue, hsup, hstaged, Option.isSome_none, Bool.and_false, Bool.not_false, Bool.and_true, Bool.true_and]
  cases hs : s.suppressed sec with
  | true => exact ⟨rfl, .inl hrack.1, hrack.2, hin⟩
  | false =>
    obtain ⟨dport, drack, deds⟩ := (w.note (.departure p sec 0)).depart_fields p sec 0 left b
    obtain ⟨-, crack, ceds⟩ := (w.note (.departure p sec 0)).closeForDeparture_fields p b
    have ha : w.Alike p (w.note (.departure p sec 0)) := ⟨rfl, rfl, rfl, rfl, rfl, rfl⟩
    refine ⟨dport.trans ((ha.closeForDeparture b).departPort ?_ sec 0 left), ?_, ?_, ?_⟩
    · rw [State.closeForDeparture_sentOffset, State.closeForDeparture_sentOffset]
      rfl
    · have hl : ((w.note (.departure p sec 0)).port p).Losing ↔ (s.port p).Losing := by
        change (w.port p).Losing ↔ _
        rw [hport, PortRec.losing_modesMoved]
      by_cases k : (s.port p).Losing
      · refine .inr ⟨k, (drack.trans (crack.trans (if_pos (hl.mpr k)))).trans ?_⟩
        rw [← hrack.1]
        rfl
      · exact .inl ((drack.trans (crack.trans (if_neg (hl.not.mpr k)))).trans hrack.1)
    · exact (deds.trans ceds).trans hrack.2
    · exact State.depart_taken _ p sec 0 left b hin

theorem State.cycleZeroPort_state (sec : RowSec) (left : Time) (suppressed b : Bool) (h : (s.port p).state ≠ .down) :
    (s.cycleZeroPort p sec left suppressed b).state ≠ .down := by
  unfold State.cycleZeroPort
  simp only
  split
  · rw [State.port_setPort_same, PortRec.modesMoved_state]
    exact h
  · change ((State.closeForDeparture _ p b).port p).state ≠ .down
    rw [(State.closeForDeparture_fields _ p b).1]
    refine PortRec.closed_state _ b ?_
    rw [State.port_setPort_same, PortRec.modesMoved_state]
    exact h

end Closing
end Sys2Proof.Machine
end

section
/-! PROOFS. The mode work that a forward step passes over (04 R65, R74): the model's four seconds are the statement's many. -/
namespace Sys2Proof.Machine

/-! ### Row seconds counted from one second -/

theorem secDiff_add (b : RowSec) {x y : Int} (hl : -140737488355328 ≤ x - y) (hh : x - y < 140737488355328) :
    secDiff (b + BitVec.ofInt 48 x) (b + BitVec.ofInt 48 y) = x - y := by
  rw [secDiff, add_sub_add_left_eq_sub, BitVec.toInt_sub, BitVec.toInt_ofInt, BitVec.toInt_ofInt, Int.bmod_sub_bmod,
    Int.sub_bmod_bmod]
  exact Int.bmod_eq_of_le (by omega) (by omega)

theorem rowSec_sub_one (b : RowSec) (x : Int) : b + BitVec.ofInt 48 x - 1 = b + BitVec.ofInt 48 (x - 1) := by
  rw [add_sub_assoc]
  congr 1
  apply BitVec.eq_of_toInt_eq
  rw [BitVec.toInt_sub, BitVec.toInt_ofInt, BitVec.toInt_ofInt, Int.bmod_sub_bmod]
  rfl

/-! ### One second's mode work -/

theorem departureInstant_eq (sec : RowSec) (k n c : Nat) :
    (departureInstant sec k n c).1 = compensatedInstant sec k n c := by
  unfold departureInstant compensatedInstant
  split <;> rfl

theorem passes_iff (b v t : Time) : passes b v t = true ↔ 0 < t.diff b ∧ t.diff v ≤ 0 := by
  simp [passes]

/-- One second of the statement's `modesPassed`. -/
def modesPassedIn (b v : Time) (n c : Nat) (sec : RowSec) (r : PortRec) : PortRec :=
  let passed := fun (k : Nat) =>
    0 < (compensatedInstant sec k n c).diff b ∧ (compensatedInstant sec k n c).diff v ≤ 0
  let x := if passed 0 then modesMoved r 0 n false else r
  if 1 < n ∧ passed (n - 1) then modesMoved x (n - 1) n false else x

theorem modesPassed_eq (b v : Time) (n c : Nat) (r : PortRec) : modesPassed b v n c r =
    (List.range ((v.sec - b.sec).toNat + 2)).foldl
      (fun r i => modesPassedIn b v n c (b.sec + BitVec.ofNat 48 i) r) r := rfl

/-- The mode work at a cycle 0 that is the last cycle too, and at each where they are two. -/
theorem modesMoved_one (r : PortRec) : modesMoved r 0 1 false = r.modeFirst.modeLast := by
  rw [PortRec.modeFirst_eq, PortRec.modeLast_eq]
  rfl

theorem modesMoved_first (r : PortRec) {n : Nat} (h : 1 < n) : modesMoved r 0 n false = r.modeFirst := by
  rw [PortRec.modeFirst_eq]
  exact if_neg fun k => by omega

theorem modesMoved_last (r : PortRec) {n : Nat} (h : 1 < n) : modesMoved r (n - 1) n false = r.modeLast := by
  rw [PortRec.modeLast_eq]
  have h0 : n - 1 ≠ 0 := by omega
  have h1 : n - 1 + 1 = n := by omega
  simp [modesMoved, h0, h1]

theorem passSecond_eq (b v : Time) {n : Nat} (c : Nat) (h : 1 ≤ n) (r : PortRec) (sec : RowSec) :
    passSecond b v n c r sec = modesPassedIn b v n c sec r := by
  unfold passSecond modesPassedIn
  simp only [departureInstant_eq, passes_iff]
  rcases Nat.eq_or_lt_of_le h with h1 | h1
  · subst h1
    rw [if_neg (show ¬(1 < 1 ∧ _) from fun k => absurd k.1 (lt_irrefl 1)), modesMoved_one]
    split <;> rfl
  · rw [modesMoved_first r h1, modesMoved_last _ h1]
    exact if_congr (by simp [h1]) rfl rfl

/-! ### Which instants a step passes -/

section Passing

variable {b v : Time} {n c d : Nat}

/-- A compensated instant's place: in its second, or for an early cycle 0 in the second before. -/
theorem compensatedInstant_place (s : RowSec) (i : Int) {k : Nat} (hk : k * (1000000000 / n) < 1000000000) :
    ∃ (x : Int) (ns : Nat), compensatedInstant (s + BitVec.ofInt 48 i) k n c = ⟨s + BitVec.ofInt 48 x, ns⟩
      ∧ ns < 1000000000 ∧ i - 1 ≤ x ∧ x ≤ i ∧ (k = 0 → x = i → ns = 0) := by
  unfold compensatedInstant
  split
  · rename_i h
    exact ⟨i - 1, 1000000000 - c, by rw [rowSec_sub_one], by omega, by omega, by omega, fun _ _ => by omega⟩
  · refine ⟨i, k * (1000000000 / n) - c, rfl, by omega, by omega, by omega, ?_⟩
    rintro rfl -
    omega

/-- The last cycle's place in its second. -/
theorem lastCycle_lt (h : 1 ≤ n) : (n - 1) * (1000000000 / n) < 1000000000 := by
  have hq : n * (1000000000 / n) ≤ 1000000000 := Nat.mul_div_le _ _
  obtain ⟨m, rfl⟩ := Nat.exists_eq_add_of_le' h
  rw [Nat.add_mul, Nat.one_mul] at hq
  rw [Nat.add_sub_cancel]
  rcases Nat.eq_zero_or_pos (1000000000 / (m + 1)) with h0 | h0
  · rw [h0]
    omega
  · omega

/-- The differences of an instant to the two ends of a step over `d` seconds. -/
theorem diff_of_place (hv : v.sec = b.sec + BitVec.ofInt 48 d) (hd : d < 140737488355328) {x : Int} (hl : -1 ≤ x)
    (hh : x ≤ 140737488355327) (ns : Nat) :
    (Time.mk (b.sec + BitVec.ofInt 48 x) ns).diff b = x * 1000000000 + (ns - b.ns)
      ∧ (Time.mk (b.sec + BitVec.ofInt 48 x) ns).diff v = (x - d) * 1000000000 + (ns - v.ns) := by
  have hb : b.sec = b.sec + BitVec.ofInt 48 0 := by simp
  have h0 : secDiff (b.sec + BitVec.ofInt 48 x) b.sec = x := by
    conv_lhs => rw [hb]
    have := secDiff_add b.sec (x := x) (y := 0) (by omega) (by omega)
    simpa using this
  have h1 : secDiff (b.sec + BitVec.ofInt 48 x) v.sec = x - d := by
    rw [hv]
    exact secDiff_add _ (by omega) (by omega)
  unfold Time.diff
  simp only [h0, h1]
  exact ⟨rfl, rfl⟩

/-- An instant of a second past the step's end is not passed. -/
theorem not_passed (hv : v.sec = b.sec + BitVec.ofInt 48 d) (hd : d < 140737488355328) (hvn : v.ns < 1000000000) {i k : Nat}
    (hi : d + 2 ≤ i) (hi' : i ≤ 4) (hk : k * (1000000000 / n) < 1000000000) :
    ¬((compensatedInstant (b.sec + BitVec.ofNat 48 i) k n c).diff v ≤ 0) := by
  obtain ⟨x, ns, e, hns, hl, hh, -⟩ := compensatedInstant_place (n := n) (c := c) b.sec i hk
  have he : compensatedInstant (b.sec + BitVec.ofNat 48 i) k n c = _ := e
  rw [he, (diff_of_place hv hd (by omega) (by omega) ns).2]
  omega

/-- In a step over three seconds or more the third second's instants are passed, and the fourth's cycle 0. -/
theorem passed (hv : v.sec = b.sec + BitVec.ofInt 48 d) (hd : d < 140737488355328) (hbn : b.ns < 1000000000)
    (h3 : 3 ≤ d) {i k : Nat} (hi : i = 2 ∨ (i = 3 ∧ k = 0)) (hk : k * (1000000000 / n) < 1000000000) :
    0 < (compensatedInstant (b.sec + BitVec.ofNat 48 i) k n c).diff b
      ∧ (compensatedInstant (b.sec + BitVec.ofNat 48 i) k n c).diff v ≤ 0 := by
  obtain ⟨x, ns, e, hns, hl, hh, h0⟩ := compensatedInstant_place (n := n) (c := c) b.sec i hk
  have he : compensatedInstant (b.sec + BitVec.ofNat 48 i) k n c = _ := e
  obtain ⟨hb, hd'⟩ := diff_of_place hv hd (x := x) (by omega) (by omega) ns
  rw [he, hb, hd']
  rcases hi with hi | ⟨hi, hk0⟩
  · omega
  · have := h0 hk0
    omega

end Passing

/-! ### Seconds with nothing left to do -/

theorem modesPassedIn_of_not_passed {b v : Time} {n c : Nat} {sec : RowSec} (r : PortRec)
    (h : ∀ k, k = 0 ∨ k = n - 1 → ¬((compensatedInstant sec k n c).diff v ≤ 0)) : modesPassedIn b v n c sec r = r := by
  unfold modesPassedIn
  simp only
  rw [if_neg fun k => h _ (.inr rfl) k.2.2, if_neg fun k => h _ (.inl rfl) k.2]

/-- A port with no frozen and no staged mode. -/
def PortRec.ModesDone (r : PortRec) : Prop := r.frozen = none ∧ r.staged = none

theorem modesMoved_done {r : PortRec} (h : r.ModesDone) (k n : Nat) : modesMoved r k n false = r := by
  obtain ⟨hf, hs⟩ := h
  unfold modesMoved
  obtain ⟨st, secs, mode, frozen, staged⟩ := r
  cases hf
  cases hs
  simp

theorem modesPassedIn_done {r : PortRec} (h : r.ModesDone) (b v : Time) (n c : Nat) (sec : RowSec) :
    modesPassedIn b v n c sec r = r := by
  unfold modesPassedIn
  simp only [modesMoved_done h, ite_self]

/-- A second all of whose instants are passed leaves no staged mode. -/
theorem modesPassedIn_staged {b v : Time} {n c : Nat} {sec : RowSec} (hn : 1 ≤ n) (r : PortRec)
    (h : ∀ k, k = 0 ∨ k = n - 1 →
      0 < (compensatedInstant sec k n c).diff b ∧ (compensatedInstant sec k n c).diff v ≤ 0) :
    (modesPassedIn b v n c sec r).staged = none := by
  unfold modesPassedIn
  simp only
  rcases Nat.eq_or_lt_of_le hn with h1 | h1
  · subst h1
    rw [if_neg (show ¬(1 < 1 ∧ _) from fun k => absurd k.1 (lt_irrefl 1)), if_pos (h 0 (.inl rfl)), modesMoved_one,
      PortRec.modeLast_eq]
  · rw [if_pos ⟨h1, h _ (.inr rfl)⟩, modesMoved_last _ h1, PortRec.modeLast_eq]

/-- One whose cycle 0 is passed leaves no frozen mode either. -/
theorem modesPassedIn_frozen {b v : Time} {n c : Nat} {sec : RowSec} (hn : 1 ≤ n) {r : PortRec} (hr : r.staged = none)
    (h : 0 < (compensatedInstant sec 0 n c).diff b ∧ (compensatedInstant sec 0 n c).diff v ≤ 0) :
    (modesPassedIn b v n c sec r).ModesDone := by
  have hfirst : (modesMoved r 0 n false).ModesDone := by
    rcases Nat.eq_or_lt_of_le hn with h1 | h1
    · subst h1
      rw [modesMoved_one, PortRec.modeLast_eq, PortRec.modeFirst_eq]
      exact ⟨if_pos hr, rfl⟩
    · rw [modesMoved_first _ h1, PortRec.modeFirst_eq]
      exact ⟨rfl, hr⟩
  unfold modesPassedIn
  simp only
  rw [if_pos h]
  split
  · rw [modesMoved_done hfirst]
    exact hfirst
  · exact hfirst

/-! ### Four seconds do -/

/-- The statement's seconds up to the `m`-th. -/
def modesPassedUpTo (b v : Time) (n c : Nat) (r : PortRec) (m : Nat) : PortRec :=
  (List.range m).foldl (fun r i => modesPassedIn b v n c (b.sec + BitVec.ofNat 48 i) r) r

theorem modesPassedUpTo_succ (b v : Time) (n c : Nat) (r : PortRec) (m : Nat) : modesPassedUpTo b v n c r (m + 1) =
    modesPassedIn b v n c (b.sec + BitVec.ofNat 48 m) (modesPassedUpTo b v n c r m) := by
  unfold modesPassedUpTo
  rw [List.range_succ, List.foldl_append]
  rfl

theorem modesPassedUpTo_const {b v : Time} {n c : Nat} {r : PortRec} {l : Nat} (m : Nat) (hlm : l ≤ m)
    (h : ∀ i x, l ≤ i → i < m → x = modesPassedUpTo b v n c r l →
      modesPassedIn b v n c (b.sec + BitVec.ofNat 48 i) x = x) :
    modesPassedUpTo b v n c r m = modesPassedUpTo b v n c r l := by
  induction m, hlm using Nat.le_induction with
  | base => rfl
  | succ m hlm ih =>
    have hm := ih fun i x hl hi hx => h i x hl (by omega) hx
    rw [modesPassedUpTo_succ, h m _ hlm (by omega) hm, hm]

/-- The mode work of a forward step is done in its first four seconds. -/
theorem modesPassed_four {b v : Time} {n : Nat} (c : Nat) (hn : 1 ≤ n) (hbn : b.ns < 1000000000) (hvn : v.ns < 1000000000)
    (hf : 0 < v.diff b) (r : PortRec) : modesPassed b v n c r = modesPassedUpTo b v n c r 4 := by
  have hpos : 0 ≤ (v.sec - b.sec).toInt := by
    unfold Time.diff secDiff at hf
    simp only [nsPerSec] at hf
    omega
  obtain ⟨d, hd⟩ : ∃ d, d = (v.sec - b.sec).toNat := ⟨_, rfl⟩
  have hlt : d < 140737488355328 := by
    rw [BitVec.toInt_eq_toNat_cond] at hpos
    split at hpos <;> omega
  have hv : v.sec = b.sec + BitVec.ofInt 48 d := by
    have hof : BitVec.ofInt 48 (d : Int) = v.sec - b.sec := by
      rw [hd]
      exact BitVec.ofNat_toNat ..
    rw [hof, add_sub_cancel]
  have hzero : 0 * (1000000000 / n) < 1000000000 := by omega
  have hlast : ∀ k, k = 0 ∨ k = n - 1 → k * (1000000000 / n) < 1000000000 := by
    rintro k (rfl | rfl)
    · exact hzero
    · exact lastCycle_lt hn
  rw [modesPassed_eq, ← hd]
  change modesPassedUpTo b v n c r (d + 2) = _
  by_cases h3 : 3 ≤ d
  · refine modesPassedUpTo_const (d + 2) (by omega) fun i x _ _ hx => ?_
    have hthird : (modesPassedUpTo b v n c r 3).staged = none := by
      rw [modesPassedUpTo_succ]
      exact modesPassedIn_staged hn _ fun k hk => passed hv hlt hbn h3 (.inl rfl) (hlast k hk)
    have hfourth : (modesPassedUpTo b v n c r 4).ModesDone := by
      rw [modesPassedUpTo_succ]
      exact modesPassedIn_frozen hn hthird (passed hv hlt hbn h3 (.inr ⟨rfl, rfl⟩) hzero)
    exact modesPassedIn_done (hx ▸ hfourth) ..
  · exact (modesPassedUpTo_const 4 (by omega) fun i x hl hi _ =>
      modesPassedIn_of_not_passed _ fun k hk => not_passed hv hlt hvn hl (by omega) (hlast k hk)).symm

/-- The model's pass over a port's modes is the statement's. -/
theorem passSecond_four {b v : Time} {n : Nat} (c : Nat) (hn : 1 ≤ n) (hbn : b.ns < 1000000000) (hvn : v.ns < 1000000000)
    (hf : 0 < v.diff b) (r : PortRec) :
    [b.sec, b.sec + 1, b.sec + 2, b.sec + 3].foldl (passSecond b v n c) r = modesPassed b v n c r := by
  have h0 : b.sec + BitVec.ofNat 48 0 = b.sec := by simp
  rw [modesPassed_four c hn hbn hvn hf, modesPassedUpTo_succ, modesPassedUpTo_succ, modesPassedUpTo_succ,
    modesPassedUpTo_succ, h0]
  simp only [List.foldl_cons, List.foldl_nil, passSecond_eq b v c hn]
  rfl

end Sys2Proof.Machine
end

section
/-! PROOFS. What DRM's share of a boundary and the raising of occurrences leave of the ports and of EDS, and what the whole
boundary leaves of the schedules and the divisor (03 R46, 04 R77, 05 R92, R100). -/
namespace Sys2Proof.Machine

/-- `t` is `s` but for the rack records, of which each D and its count are kept, and for what is raised. -/
structure State.RacksOnly (s t : State) : Prop where
  tsu : t.tsu = s.tsu
  rle : t.rle = s.rle
  eds : t.eds = s.eds
  ecu : t.ecu = s.ecu
  clk : t.clk = s.clk
  delay : ∀ p, (t.rack p).delay = (s.rack p).delay ∧ (t.rack p).delayCount = (s.rack p).delayCount

namespace State.RacksOnly

variable {s t u : State}

@[refl] theorem refl (s : State) : s.RacksOnly s := ⟨rfl, rfl, rfl, rfl, rfl, fun _ => ⟨rfl, rfl⟩⟩

@[trans] theorem trans (h : s.RacksOnly t) (k : t.RacksOnly u) : s.RacksOnly u :=
  ⟨k.tsu.trans h.tsu, k.rle.trans h.rle, k.eds.trans h.eds, k.ecu.trans h.ecu, k.clk.trans h.clk,
    fun p => ⟨(k.delay p).1.trans (h.delay p).1, (k.delay p).2.trans (h.delay p).2⟩⟩

theorem overPorts {f : Port → State → State} (h : ∀ (p : Port) (s : State), s.RacksOnly (f p s)) (s : State) :
    s.RacksOnly (overPorts f s) :=
  overPorts_keeps (P := s.RacksOnly) f (fun p _ ht => ht.trans (h p _)) s (refl s)

end State.RacksOnly

section Racks

variable (s : State)

theorem State.setRack_racksOnly (p : Port) {r : RackRec} (h : r.delay = (s.rack p).delay ∧ r.delayCount = (s.rack p).delayCount) :
    s.RacksOnly (s.setRack p r) := by
  refine ⟨rfl, rfl, rfl, rfl, rfl, fun q => ?_⟩
  rw [State.rack_setRack]
  split
  · rename_i e
    exact e ▸ h
  · exact ⟨rfl, rfl⟩

theorem State.raises_racksOnly (xs : List Raise) : s.RacksOnly (xs.foldl State.raiseOne s) := by
  obtain ⟨b, n, m, e⟩ := s.raises_eq xs
  rw [e]
  exact ⟨rfl, rfl, rfl, rfl, rfl, fun _ => ⟨rfl, rfl⟩⟩

theorem State.raiseNotice_racksOnly (p : Place) (v : NoticeValue) : s.RacksOnly (s.raiseNotice p v) := by
  obtain ⟨n, m, e⟩ := s.raiseNotice_eq p v
  rw [e]
  exact ⟨rfl, rfl, rfl, rfl, rfl, fun _ => ⟨rfl, rfl⟩⟩

theorem State.changeRecord_racksOnly (p : Port) {r : RackRec}
    (h : r.delay = (s.rack p).delay ∧ r.delayCount = (s.rack p).delayCount) (c : RackCause) :
    s.RacksOnly (s.changeRecord p r c) := by
  refine (s.setRack_racksOnly p h).trans ?_
  obtain ⟨b, n, m, e⟩ := s.changeRecord_eq p r c
  rw [e]
  exact ⟨rfl, rfl, rfl, rfl, rfl, fun _ => ⟨rfl, rfl⟩⟩

theorem RackRec.eachSecond_delay (r : RackRec) (cfg : DriftCfg) (st : PortState) :
    (r.eachSecond cfg st).delay = r.delay ∧ (r.eachSecond cfg st).delayCount = r.delayCount := by
  have he : ∀ x : RackRec, (x.evaluate cfg).delay = x.delay ∧ (x.evaluate cfg).delayCount = x.delayCount := by
    intro x
    unfold RackRec.evaluate
    simp only
    split <;> exact ⟨rfl, rfl⟩
  unfold RackRec.eachSecond
  split
  · simp only
    split
    · exact he _
    · exact ⟨rfl, rfl⟩
  · exact ⟨rfl, rfl⟩

theorem drmPort_racksOnly (p : Port) : s.RacksOnly (drmPort p s) := by
  have h := (s.rack p).eachSecond_delay s.drm.cfg (s.port p).state
  unfold drmPort
  simp only
  split
  · exact s.setRack_racksOnly p h
  · exact s.changeRecord_racksOnly p h _

theorem State.drmBoundary_racksOnly (sec : RowSec) : s.RacksOnly (s.drmBoundary sec) := by
  have hlow : ∀ (p : Port) (t : State), t.RacksOnly (t.setRack p (t.rack p).lowerHold) := by
    intro p t
    refine t.setRack_racksOnly p ?_
    unfold RackRec.lowerHold
    split <;> exact ⟨rfl, rfl⟩
  have hset : ∀ (t : State) (sp : Option RowSpread) (n : Nat) (b : Bool),
      t.RacksOnly (t.setDrm { t.drm with spread := sp, counted := n, high := b }) := fun t _ _ _ =>
    ⟨rfl, rfl, rfl, rfl, rfl, fun _ => ⟨rfl, rfl⟩⟩
  have hspread : ∀ t : State, t.RacksOnly (t.takeSpread sec) := by
    intro t
    unfold State.takeSpread
    simp only
    split
    · exact hset ..
    · exact (hset ..).trans (State.raiseNotice_racksOnly _ _ _)
  unfold State.drmBoundary
  exact ((State.RacksOnly.overPorts hlow s).trans (.overPorts (fun p t => drmPort_racksOnly t p) _)).trans (hspread _)

/-- What a step's hold leaves of a record: O, its state, and D. -/
theorem State.stepHolds_rack (a b : Bool) (p : Port) : ((s.stepHolds a b).rack p).state = (s.rack p).state
    ∧ ((s.stepHolds a b).rack p).offset = (s.rack p).offset := by
  have hold : ∀ r : RackRec, (r.hold b).state = r.state ∧ (r.hold b).offset = r.offset := by
    intro r
    unfold RackRec.hold
    split <;> exact ⟨rfl, rfl⟩
  unfold State.stepHolds
  split
  · refine overPorts_keeps (P := fun t => (t.rack p).state = (s.rack p).state ∧ (t.rack p).offset = (s.rack p).offset) _
      (fun q t ht => ?_) s ⟨rfl, rfl⟩
    rw [State.rack_setRack]
    split
    · rename_i e
      subst e
      exact ⟨(hold _).1.trans ht.1, (hold _).2.trans ht.2⟩
    · exact ht
  · exact ⟨rfl, rfl⟩

theorem State.stepHolds_racksOnly (a b : Bool) : s.RacksOnly (s.stepHolds a b) := by
  unfold State.stepHolds
  split
  · refine State.RacksOnly.overPorts (fun p t => t.setRack_racksOnly p ?_) s
    unfold RackRec.hold
    split <;> exact ⟨rfl, rfl⟩
  · rfl

theorem State.raisedWork_racksOnly (sec : RowSec) (d : Bool) : (s.timeWork sec).1.RacksOnly (s.raisedWork sec d) := by
  unfold State.raisedWork
  have h := (s.timeWork sec).1.raises_racksOnly (s.timeWork sec).2
  generalize (s.timeWork sec).2.foldl State.raiseOne (s.timeWork sec).1 = t at h
  simp only
  split
  · exact (h.trans (t.drmBoundary_racksOnly sec)).trans (State.stepHolds_racksOnly _ _ _)
  · exact h.trans (t.stepHolds_racksOnly _ _)

/-- REF's and TSU's work leaves the ports, EDS, the records and ECU. -/
theorem State.timeWork_units (sec : RowSec) : (s.timeWork sec).1.rle = s.rle ∧ (s.timeWork sec).1.eds = s.eds
    ∧ (s.timeWork sec).1.drm = s.drm ∧ (s.timeWork sec).1.ecu = s.ecu := by
  unfold State.timeWork
  simp only
  split <;> exact ⟨rfl, rfl, rfl, rfl⟩

/-- With DRM's work after the step a record still has its state and O at the ports' work. -/
theorem State.raisedWork_rack (sec : RowSec) (p : Port) : ((s.raisedWork sec false).rack p).state = (s.rack p).state
    ∧ ((s.raisedWork sec false).rack p).offset = (s.rack p).offset := by
  have h : ((s.timeWork sec).2.foldl State.raiseOne (s.timeWork sec).1).rack p = s.rack p := by
    obtain ⟨-, -, hdrm, -⟩ := s.timeWork_units sec
    generalize (s.timeWork sec).1 = w at hdrm
    obtain ⟨b, k, m, e⟩ := w.raises_eq (s.timeWork sec).2
    rw [e]
    exact State.rack_of_drm hdrm p
  unfold State.raisedWork
  generalize (s.timeWork sec).2.foldl State.raiseOne (s.timeWork sec).1 = t at h
  generalize ((s.timeWork sec).1.tsu.gen != s.tsu.gen) = stepped
  rw [← h]
  simp only [Bool.false_eq_true, if_false]
  exact t.stepHolds_rack stepped true p

/-! ### The schedules and the divisor -/

/-- Each port's share, taken together, is a share. -/
theorem overPorts_share {f : Port → State → State} (h : ∀ (p : Port) (s : State), s.PortShare p (f p s)) (s : State) :
    s.ShareOf (fun _ => True) (overPorts f s) :=
  overPorts_keeps (P := s.ShareOf (fun _ => True)) f (fun p t ht => ht.trans ((h p t).mono fun _ _ => trivial)) s
    (.refl s)

theorem State.movedOver_share (sec : RowSec) (b : Time) (st : Bool) : s.ShareOf (fun _ => True) (s.movedOver sec b st) := by
  unfold State.movedOver
  split
  · exact overPorts_share (fun p t => passModes_share t _ _ p) _
  · split
    · exact overPorts_share (fun p t => landAgain_share t _ p) _
    · rfl

theorem Rle.applyCycle_eq (r : Rle) : r.applyCycle.cycle = r.staged.getD r.cycle ∧ r.applyCycle.staged = none
    ∧ r.applyCycle.ports = r.ports := by
  unfold Rle.applyCycle
  cases h : r.staged with
  | none => exact ⟨rfl, h, rfl⟩
  | some c => exact ⟨rfl, rfl, rfl⟩

/-- The schedules and the divisor after the ports' work of a boundary. -/
theorem State.portsWork_common (sec : RowSec) (b : Time) (n : Nat) (q st : Bool) (rec : BitVec 16) :
    (s.portsWork sec b n q st rec).rle.cycle = s.rle.staged.getD s.rle.cycle
    ∧ (s.portsWork sec b n q st rec).rle.staged = none
    ∧ (s.portsWork sec b n q st rec).eds.common = (s.eds.activate sec).common := by
  obtain ⟨hcycle, hstaged, -⟩ := s.rle.applyCycle_eq
  have hE := overPorts_share (fun p t => rleEarly_share t sec n s.rle.staged.isSome rec p) (s.setRle s.rle.applyCycle)
  change State.ShareOf _ _ (s.earlyWork sec n rec) at hE
  have hroll := fun t => overPorts_share
    (fun p t => rleRoll_share t sec (s.earlyWork sec n rec).comp s.rle.staged.isSome rec p) t
  have hzero : s.cycleZeroWork sec n q st rec = overPorts
    (rleRoll sec (s.earlyWork sec n rec).comp s.rle.staged.isSome rec) ((s.earlyWork sec n rec).edsBoundary sec n q st) := rfl
  generalize s.earlyWork sec n rec = E at hE hroll hzero
  have hB : (E.setEds (E.eds.activate sec)).ShareOf (fun _ => True) (E.edsBoundary sec n q st) :=
    (overPorts_share (fun p t => edsPortBoundary_share t _ _ p) _).trans (edsTicks_share _ _ _).share
  generalize E.edsBoundary sec n q st = B at hB hzero
  have hC := hB.trans (hroll B)
  rw [← hzero] at hC
  rw [State.portsWork_eq]
  generalize s.cycleZeroWork sec n q st rec = C at hC
  have hF := (hC.trans (C.movedOver_share sec b st)).trans (overPorts_share (fun p t => rleSeconds_share t p) _)
  have hact : (E.eds.activate sec).common = (s.eds.activate sec).common := by
    have hc : E.eds.common = s.eds.common := hE.eds
    unfold Eds.common at hc
    simp only [Prod.mk.injEq] at hc
    obtain ⟨h1, h2, h3, h4, h5⟩ := hc
    unfold Eds.activate
    rw [h3]
    split <;> simp [Eds.common, h1, h2, h3, h4, h5]
  exact ⟨(hF.cycle.trans hE.cycle).trans hcycle, (hF.staged.trans hE.staged).trans hstaged, hF.eds.trans hact⟩

end Racks
end Sys2Proof.Machine
end

section
/-! PROOFS. One port through the ports' work of a boundary (03 R53; 04 R61, R65, R66, R73, R74). -/
namespace Sys2Proof.Machine

/-! ### What no share of the ports' work changes -/

/-- What every share leaves of what one port's work reads. -/
structure State.Kept (p : Port) (s t : State) : Prop where
  tsu : t.tsu = s.tsu
  marks : t.marks p = s.marks p
  cycle : t.rle.cycle = s.rle.cycle
  staged : t.rle.staged = s.rle.staged
  elapsed : t.clk.elapsed = s.clk.elapsed
  compStep : t.eds.compStep = s.eds.compStep

/-- Nothing that one port's work reads is changed. -/
structure State.Untouched (p : Port) (s t : State) : Prop extends State.SamePort p s t, State.Kept p s t

section Relations

variable {p : Port} {s t u : State}

theorem State.Kept.trans (h : s.Kept p t) (k : t.Kept p u) : s.Kept p u :=
  ⟨k.tsu.trans h.tsu, k.marks.trans h.marks, k.cycle.trans h.cycle, k.staged.trans h.staged, k.elapsed.trans h.elapsed,
    k.compStep.trans h.compStep⟩

theorem State.ShareOf.kept {mine : Port → Prop} (h : s.ShareOf mine t) : s.Kept p t where
  tsu := h.tsu
  marks := h.marks p
  cycle := h.cycle
  staged := h.staged
  elapsed := by
    obtain ⟨xs, e⟩ := h.clk
    rw [e]
  compStep := congrArg (fun x : Vector Entry 32 × Vector Entry 32 × Bool × Option RowSec × Nat => x.2.2.2.2) h.eds

theorem State.Others.untouched (h : s.Others p t) : s.Untouched p t := ⟨h.samePort, State.ShareOf.kept h⟩

theorem State.Untouched.refl (s : State) : s.Untouched p s :=
  ⟨⟨rfl, rfl, rfl, rfl, fun _ _ => .rfl⟩, ⟨rfl, rfl, rfl, rfl, rfl, rfl⟩⟩

theorem State.Untouched.trans (h : s.Untouched p t) (k : t.Untouched p u) : s.Untouched p u :=
  ⟨⟨k.port.trans h.port, k.rack.trans h.rack, k.comp.trans h.comp, k.below.trans h.below,
    fun sec n => (k.noted sec n).trans (h.noted sec n)⟩, h.toKept.trans k.toKept⟩

/-- A work over every port, as port `p` sees it. -/
theorem overPorts_untouched {f : Port → State → State} (hf : ∀ (q : Port) (s : State), s.PortShare q (f q s)) (p : Port)
    (s : State) : ∃ t, s.Untouched p t ∧ (f p t).Untouched p (overPorts f s) := by
  obtain ⟨t, ht, k⟩ := overPorts_split hf p s
  exact ⟨t, State.Others.untouched ht, State.Others.untouched k⟩

theorem State.activate_untouched (s : State) (p : Port) (sec : RowSec) :
    s.Untouched p (s.setEds (s.eds.activate sec)) := by
  have h : (s.eds.activate sec).comp = s.eds.comp ∧ (s.eds.activate sec).earlyBelow = s.eds.earlyBelow
      ∧ (s.eds.activate sec).compStep = s.eds.compStep := by
    unfold Eds.activate
    split <;> exact ⟨rfl, rfl, rfl⟩
  obtain ⟨hcomp, hbelow, hstep⟩ := h
  refine ⟨⟨rfl, rfl, ?_, ?_, fun _ _ => .rfl⟩, ⟨rfl, rfl, rfl, rfl, rfl, hstep⟩⟩
  · rw [State.comp, State.setEds_eds, hcomp]
    rfl
  · rw [State.setEds_eds, hbelow]

end Relations

/-! ### The path -/

/-- What a step from `b` does to the instants of one port that it moves over. -/
def State.movedOnPort (sec : RowSec) (b : Time) (stepped : Bool) (p : Port) (s : State) : State :=
  if stepped && 0 < s.now.diff b then passModes b s.now p s
  else if stepped && s.now.diff b < 0 then landAgain sec p s
  else s

theorem State.now_of_tsu {s t : State} (h : t.tsu = s.tsu) : t.now = s.now := congrArg (fun x : Tsu => x.ts.capture) h

theorem State.movedOver_untouched (s : State) (p : Port) (sec : RowSec) (b : Time) (st : Bool) :
    ∃ t, s.Untouched p t ∧ (t.movedOnPort sec b st p).Untouched p (s.movedOver sec b st) := by
  unfold State.movedOver State.movedOnPort
  by_cases hf : (st && decide (0 < s.now.diff b)) = true
  · obtain ⟨t, ht, k⟩ := overPorts_untouched (fun q t => passModes_share t b s.now q) p s
    refine ⟨t, ht, ?_⟩
    rw [State.now_of_tsu ht.tsu, if_pos hf, if_pos hf]
    exact k
  · by_cases hb : (st && decide (s.now.diff b < 0)) = true
    · obtain ⟨t, ht, k⟩ := overPorts_untouched (fun q t => landAgain_share t sec q) p s
      refine ⟨t, ht, ?_⟩
      rw [State.now_of_tsu ht.tsu, if_neg hf, if_neg hf, if_pos hb, if_pos hb]
      exact k
    · refine ⟨s, .refl s, ?_⟩
      rw [if_neg hf, if_neg hf, if_neg hb, if_neg hb]
      exact .refl s

/-- The ports' work of a boundary as one port sees it: its early cycle 0, the move of its compensation, its cycle 0, what a
step moves over, its seconds. -/
theorem State.portsWork_path (s : State) (p : Port) (sec : RowSec) (b : Time) (n : Nat) (q st : Bool) (rec : BitVec 16) :
    ∃ (a b1 c d e : State) (old : Eds) (k : EdgeTick) (cOld : Port → Nat),
      (s.setRle s.rle.applyCycle).Untouched p a
      ∧ (rleEarly sec n s.rle.staged.isSome rec p a).Untouched p b1
      ∧ old.comp[p] = b1.comp p ∧ cOld p = b1.comp p
      ∧ (edsPortBoundary old k p b1).Untouched p c
      ∧ (rleRoll sec cOld s.rle.staged.isSome rec p c).Untouched p d
      ∧ (d.movedOnPort sec b st p).Untouched p e
      ∧ (rleSeconds p e).Untouched p (s.portsWork sec b n q st rec) := by
  have hzero : s.cycleZeroWork sec n q st rec = overPorts (rleRoll sec (s.earlyWork sec n rec).comp s.rle.staged.isSome rec)
    ((s.earlyWork sec n rec).edsBoundary sec n q st) := rfl
  obtain ⟨a, ha, hE⟩ := overPorts_untouched
    (fun q t => rleEarly_share t sec n s.rle.staged.isSome rec q) p (s.setRle s.rle.applyCycle)
  change (rleEarly sec n s.rle.staged.isSome rec p a).Untouched p (s.earlyWork sec n rec) at hE
  rw [State.portsWork_eq]
  generalize s.earlyWork sec n rec = E at hE hzero
  have hact := E.activate_untouched p sec
  obtain ⟨b1, hb1, hB⟩ := overPorts_untouched (f := edsPortBoundary E.eds ⟨sec, n, q, st, E.eds.armed⟩)
    (fun r t => edsPortBoundary_share t _ _ r) p (E.setEds (E.eds.activate sec))
  have hT := hB.trans (u := E.edsBoundary sec n q st) (State.Others.untouched (edsTicks_share _ _ _).share)
  have hb := hact.trans hb1
  have hcE : E.eds.comp[p] = b1.comp p := hb.comp.symm
  generalize E.edsBoundary sec n q st = B at hT hzero
  obtain ⟨c, hc, hC⟩ := overPorts_untouched (f := rleRoll sec E.comp s.rle.staged.isSome rec)
    (fun r t => rleRoll_share t _ _ _ _ r) p B
  rw [← hzero] at hC
  generalize s.cycleZeroWork sec n q st rec = C at hC
  obtain ⟨d, hd, hD⟩ := C.movedOver_untouched p sec b st
  obtain ⟨e, he, hF⟩ := overPorts_untouched (f := rleSeconds) (fun r t => rleSeconds_share t r) p (C.movedOver sec b st)
  exact ⟨a, b1, c, d, e, E.eds, ⟨sec, n, q, st, E.eds.armed⟩, E.comp, ha, hE.trans hb, hcE, hcE, hT.trans hc,
    hC.trans hd, hD.trans he, hF⟩

/-! ### One port's own shares -/

section Own

variable (s : State) (p : Port)

theorem rleEarly_down (sec : RowSec) (n : Nat) (b : Bool) (rec : BitVec 16) (h : (s.port p).state = .down) :
    rleEarly sec n b rec p s = s := if_pos (.inl h)

/-- A port's early cycle 0 at the boundary tick. -/
theorem rleEarly_fields {sec : RowSec} {n : Nat} {applied st : Bool} {rec : BitVec 16} (h : (s.port p).state ≠ .down)
    (hs : s.rle.staged = none) (hq : s.suppressed sec = st) :
    let t := rleEarly sec n applied rec p s
    let early := 0 < s.comp p ∧ n + s.comp p < 1000000000
    t.port p = (if ¬early then s.port p else if applied = true then (s.port p).modeFirst
      else s.cycleZeroPort p sec ⟨sec - 1, 1000000000 - s.comp p⟩ st (rec.getLsbD p))
    ∧ (t.rack p = s.rack p ∨ (early ∧ applied = false ∧ (s.port p).Losing
      ∧ t.rack p = { s.rack p with state := .lost }))
    ∧ t.eds = s.eds := by
  intro t early
  by_cases he : early
  · have hc : ¬((s.port p).state = .down ∨ s.comp p = 0 ∨ nsPerSec - s.comp p ≤ n) := by
      obtain ⟨h0, hn⟩ := he
      rintro (k | k | k)
      · exact h k
      · omega
      · have k' : 1000000000 - s.comp p ≤ n := k
        omega
    rw [if_neg (not_not.mpr he)]
    cases applied with
    | true =>
      have ht : t = (s.setPort p (s.port p).modeFirst).note (.departure p sec 0) := if_neg hc
      rw [ht, if_pos rfl]
      exact ⟨State.port_setPort_same .., .inl rfl, rfl⟩
    | false =>
      have ht : t = s.cycleWork p sec 0 ⟨sec - 1, nsPerSec - s.comp p⟩ true (rec.getLsbD p) := if_neg hc
      obtain ⟨hport, hrack, heds, -⟩ := s.cycleWork_fields p sec ⟨sec - 1, nsPerSec - s.comp p⟩ true (rec.getLsbD p) hs
      rw [ht, if_neg Bool.false_ne_true, hport, hq]
      exact ⟨rfl, hrack.imp_right fun ⟨hl, k⟩ => ⟨he, rfl, hl, k⟩, heds⟩
  · have hc : (s.port p).state = .down ∨ s.comp p = 0 ∨ nsPerSec - s.comp p ≤ n := by
      rcases Nat.eq_zero_or_pos (s.comp p) with h0 | h0
      · exact .inr (.inl h0)
      · refine .inr (.inr ?_)
        change 1000000000 - s.comp p ≤ n
        by_contra k
        exact he ⟨h0, by omega⟩
    have ht : t = s := if_pos hc
    rw [ht, if_pos he]
    exact ⟨rfl, .inl rfl, rfl⟩

/-- A port's cycle 0 at the boundary tick, under the new compensation. -/
theorem rleRoll_fields {sec : RowSec} {cOld : Port → Nat} {applied st : Bool} {rec : BitVec 16}
    (h : (s.port p).state ≠ .down) (hs : s.rle.staged = none) (hq : s.suppressed sec = st) (hq' : s.tsu.quiet = st) :
    let t := rleRoll sec cOld applied rec p s
    let made := cOld p = 0 ∧ (0 < s.comp p ∨ st = true)
    t.port p = (if applied = true then
        let r := if cOld p = 0 then (s.port p).modeFirst else s.port p
        if s.rle.cycle.divisor = 1 then r.modeLast else r
      else if made then s.cycleZeroPort p sec s.now st (rec.getLsbD p) else s.port p)
    ∧ (t.rack p = s.rack p ∨ (made ∧ applied = false ∧ (s.port p).Losing
      ∧ t.rack p = { s.rack p with state := .lost }))
    ∧ t.eds = s.eds := by
  intro t made
  cases applied with
  | true =>
    have ht : t = (s.setPort p (if s.rle.cycle.divisor = 1 then (if cOld p = 0 then (s.port p).modeFirst else s.port p).modeLast
        else if cOld p = 0 then (s.port p).modeFirst else s.port p)).note (.departure p sec 0) := if_neg h
    rw [ht, if_pos rfl]
    exact ⟨State.port_setPort_same .., .inl rfl, rfl⟩
  | false =>
    rw [if_neg Bool.false_ne_true]
    have ht : t = if 0 < cOld p then s.note (.departure p sec 0)
        else if (decide (0 < s.comp p) || s.tsu.quiet) = true then s.cycleWork p sec 0 s.now false (rec.getLsbD p) else s :=
      if_neg h
    rcases Nat.eq_zero_or_pos (cOld p) with h0 | h0
    · rw [if_neg (by omega), hq'] at ht
      by_cases hm : 0 < s.comp p ∨ st = true
      · obtain ⟨hport, hrack, heds, -⟩ := s.cycleWork_fields p sec s.now false (rec.getLsbD p) hs
        rw [if_pos (by simpa using hm)] at ht
        rw [ht, if_pos (show made from ⟨h0, hm⟩), hport, hq]
        exact ⟨rfl, hrack.imp_right fun ⟨hl, k⟩ => ⟨⟨h0, hm⟩, rfl, hl, k⟩, heds⟩
      · rw [if_neg (by simpa using hm)] at ht
        rw [ht, if_neg fun k : made => hm k.2]
        exact ⟨rfl, .inl rfl, rfl⟩
    · rw [if_pos h0] at ht
      rw [ht, if_neg fun k : made => by omega]
      exact ⟨rfl, .inl rfl, rfl⟩

/-- With a SET CYCLE that comes into force cycle 0 is noted as taken. -/
theorem rleRoll_applied (sec : RowSec) (cOld : Port → Nat) (rec : BitVec 16) :
    TickEvent.departure p sec 0 ∈ (rleRoll sec cOld true rec p s).clk.taken := by
  unfold rleRoll
  split
  · exact List.mem_cons_self
  · exact List.mem_cons_self

theorem rleRoll_down {sec : RowSec} {cOld : Port → Nat} {applied : Bool} {rec : BitVec 16} (h : (s.port p).state = .down) :
    let t := rleRoll sec cOld applied rec p s
    t.port p = s.port p ∧ t.eds = s.eds := by
  intro t
  have ht : t = if applied = true then s.note (.departure p sec 0) else s := if_pos h
  rw [ht]
  split <;> exact ⟨rfl, rfl⟩

theorem moveToward_eq (step c target : Nat) : moveToward step c target =
    if c ≤ target then min (c + step) target else max (c - step) target := by
  unfold moveToward
  split <;> omega

/-- The compensation's target (03 R53). -/
theorem compTarget_ns (r : RackRec) (c : Nat) : (compTarget r c).ns =
    if r.delayCount = 8 then (clamp 0 20000 r.delay).toNat else c := by
  unfold compTarget RackRec.delayValid
  by_cases h : r.delayCount = 8 <;> simp [h]

/-- The move of a port's compensation, and the bound of what was early under the old one. -/
theorem edsPortBoundary_fields (old : Eds) (k : EdgeTick) :
    let t := edsPortBoundary old k p s
    t.port p = s.port p ∧ t.rack p = s.rack p ∧ t.clk = s.clk
    ∧ ((s.port p).state = .down → t.comp p = s.comp p ∧ t.eds.earlyBelow[p] = 0)
    ∧ ((s.port p).state ≠ .down → t.comp p = s.movedComp p ∧ t.eds.earlyBelow[p] = old.comp[p]) := by
  intro t
  by_cases h : (s.port p).state = .down
  · have ht : t = s.setEds { s.eds with earlyBelow := s.eds.earlyBelow.set p 0 } := if_pos h
    rw [ht]
    exact ⟨rfl, rfl, rfl, fun _ => ⟨rfl, by simp⟩, fun k => absurd h k⟩
  · have ht : ∃ level, t = s.setEds
        { s.eds with comp := s.eds.comp.set p (s.movedComp p), earlyBelow := s.eds.earlyBelow.set p old.comp[p], level := level } := by
      simp only [t]
      unfold edsPortBoundary
      rw [if_neg h]
      split
      · exact ⟨s.eds.level, rfl⟩
      · exact ⟨_, rfl⟩
    obtain ⟨level, ht⟩ := ht
    rw [ht]
    exact ⟨rfl, rfl, rfl, fun k => absurd k h, fun _ => ⟨by simp [State.comp], by simp⟩⟩

/-- What a step moves over on a port. -/
theorem State.movedOnPort_fields {sec : RowSec} {b : Time} {st : Bool} (h : (s.port p).state ≠ .down)
    (hn : 1 ≤ s.rle.cycle.divisor) (hb : b.ns < 1000000000) (hv : s.now.ns < 1000000000) :
    let t := s.movedOnPort sec b st p
    t.port p = (if st = true ∧ 0 < s.now.diff b then modesPassed b s.now s.rle.cycle.divisor (s.comp p) (s.port p)
      else s.port p)
    ∧ t.rack p = s.rack p ∧ t.eds = s.eds := by
  intro t
  by_cases hf : st = true ∧ 0 < s.now.diff b
  · have ht : t = s.setPort p ([b.sec, b.sec + 1, b.sec + 2, b.sec + 3].foldl
        (passSecond b s.now s.rle.cycle.divisor (s.comp p)) (s.port p)) :=
      (if_pos (by simpa using hf)).trans (if_neg h)
    rw [ht, if_pos hf, State.port_setPort_same, passSecond_four _ hn hb hv hf.2]
    exact ⟨rfl, rfl, rfl⟩
  · rw [if_neg hf]
    have ht : t = if (st && decide (s.now.diff b < 0)) = true then landAgain sec p s else s :=
      if_neg (by simpa using hf)
    rw [ht]
    split
    · obtain ⟨xs, e⟩ := landAgain_eq s sec p
      rw [e]
      exact ⟨rfl, rfl, rfl⟩
    · exact ⟨rfl, rfl, rfl⟩

theorem State.movedOnPort_down {sec : RowSec} {b : Time} {st : Bool} (h : (s.port p).state = .down) :
    (s.movedOnPort sec b st p).port p = s.port p ∧ (s.movedOnPort sec b st p).eds = s.eds := by
  unfold State.movedOnPort
  split
  · rw [show passModes b s.now p s = s from if_pos h]
    exact ⟨rfl, rfl⟩
  · split
    · obtain ⟨xs, e⟩ := landAgain_eq s sec p
      rw [e]
      exact ⟨rfl, rfl⟩
    · exact ⟨rfl, rfl⟩

end Own
end Sys2Proof.Machine
end

section
/-! PROOFS. What a second boundary leaves of each port (03 R46, R53; 04 R61, R65, R66, R73, R74, R77). -/
namespace Sys2Proof.Machine

/-- A port with its seconds in state risen by one (04 R73). -/
def PortRec.risen (r : PortRec) : PortRec := { r with secs := if r.secs + 1 ≤ 4294967295 then r.secs + 1 else 4294967295 }

theorem rleSeconds_eq (s : State) (p : Port) : rleSeconds p s = s.setPort p (s.port p).risen := rfl

theorem State.sentOffset_of_rack {s t : State} {p : Port} (h : t.rack p = s.rack p) : t.sentOffset p = s.sentOffset p := by
  unfold State.sentOffset
  rw [h]

theorem State.suppressed_of_tsu {s t : State} (h : t.tsu = s.tsu) (sec : RowSec) : t.suppressed sec = s.suppressed sec := by
  unfold State.suppressed
  rw [h]

section PortsWork

variable (s : State) (p : Port) (sec : RowSec) (b : Time) (n : Nat) (q st : Bool) (rec : BitVec 16)

/-- The port's records along its path through the ports' work, `a` before its early cycle 0, `b1` before the move of its
compensation, `c` before its cycle 0, `d` before what a step moves over, `e` before its seconds rise. -/
structure PortPath (F a b1 c d e : State) (old : Eds) (k : EdgeTick) (cOld : Port → Nat) : Prop where
  start : (s.setRle s.rle.applyCycle).Untouched p a
  early : (rleEarly sec n s.rle.staged.isSome rec p a).Untouched p b1
  oldComp : old.comp[p] = b1.comp p
  cOldComp : cOld p = b1.comp p
  moved : (edsPortBoundary old k p b1).Untouched p c
  roll : (rleRoll sec cOld s.rle.staged.isSome rec p c).Untouched p d
  step : (d.movedOnPort sec b st p).Untouched p e
  finish : (rleSeconds p e).Untouched p F

theorem State.portsWork_portPath : ∃ a b1 c d e old k cOld,
    PortPath s p sec b n st rec (s.portsWork sec b n q st rec) a b1 c d e old k cOld := by
  obtain ⟨a, b1, c, d, e, old, k, cOld, h1, h2, h3, h4, h5, h6, h7, h8⟩ := s.portsWork_path p sec b n q st rec
  exact ⟨a, b1, c, d, e, old, k, cOld, h1, h2, h3, h4, h5, h6, h7, h8⟩

namespace PortPath

variable {s p sec b n st rec} {F a b1 c d e : State} {old : Eds} {k : EdgeTick} {cOld : Port → Nat}
theorem staged_none {t : State} (ht : (s.setRle s.rle.applyCycle).Kept p t) : t.rle.staged = none :=
  ht.staged.trans s.rle.applyCycle_eq.2.1

theorem cycle_eq {t : State} (ht : (s.setRle s.rle.applyCycle).Kept p t) : t.rle.cycle = s.rle.staged.getD s.rle.cycle :=
  ht.cycle.trans s.rle.applyCycle_eq.1

variable (h : PortPath s p sec b n st rec F a b1 c d e old k cOld)
include h

/-- What every share keeps, along the path. -/
theorem kept : (s.setRle s.rle.applyCycle).Kept p a ∧ (s.setRle s.rle.applyCycle).Kept p b1
    ∧ (s.setRle s.rle.applyCycle).Kept p c ∧ (s.setRle s.rle.applyCycle).Kept p d
    ∧ (s.setRle s.rle.applyCycle).Kept p e := by
  have ha := h.start.toKept
  have hb := (ha.trans (State.ShareOf.kept (rleEarly_share a sec n s.rle.staged.isSome rec p))).trans h.early.toKept
  have hc := (hb.trans (State.ShareOf.kept (edsPortBoundary_share b1 old k p))).trans h.moved.toKept
  have hd := (hc.trans (State.ShareOf.kept (rleRoll_share c sec cOld s.rle.staged.isSome rec p))).trans h.roll.toKept
  have hm : d.PortShare p (d.movedOnPort sec b st p) := by
    unfold State.movedOnPort
    split
    · exact passModes_share d _ _ p
    · split
      · exact landAgain_share d _ p
      · exact .refl d
  exact ⟨ha, hb, hc, hd, (hd.trans (State.ShareOf.kept hm)).trans h.step.toKept⟩

theorem start_fields : a.port p = s.port p ∧ a.rack p = s.rack p ∧ a.comp p = s.comp p := by
  obtain ⟨-, -, hports⟩ := s.rle.applyCycle_eq
  refine ⟨h.start.port.trans ?_, h.start.rack, h.start.comp⟩
  rw [State.port, State.setRle_rle, hports]
  rfl

/-- A DOWN port's seconds rise, and its bound is 0; nothing else changes. -/
theorem down (hd : (s.port p).state = .down) :
    F.port p = (s.port p).risen ∧ F.comp p = s.comp p ∧ F.eds.earlyBelow[p] = 0 := by
  obtain ⟨aport, -, acomp⟩ := h.start_fields
  have had : (a.port p).state = .down := aport ▸ hd
  have hb := h.early
  rw [rleEarly_down a p _ _ _ _ had] at hb
  have hbd : (b1.port p).state = .down := hb.port ▸ had
  obtain ⟨mport, -, -, mdown, -⟩ := edsPortBoundary_fields b1 p old k
  obtain ⟨mcomp, mbelow⟩ := mdown hbd
  have hcd : (c.port p).state = .down := by rw [h.moved.port, mport]; exact hbd
  obtain ⟨rport, reds⟩ := rleRoll_down c p (sec := sec) (cOld := cOld) (applied := s.rle.staged.isSome) (rec := rec) hcd
  have hdd : (d.port p).state = .down := by rw [h.roll.port, rport]; exact hcd
  obtain ⟨sport, seds⟩ := State.movedOnPort_down d p (sec := sec) (b := b) (st := st) hdd
  have hport : e.port p = s.port p := by
    rw [h.step.port, sport, h.roll.port, rport, h.moved.port, mport, hb.port, aport]
  refine ⟨?_, ?_, ?_⟩
  · rw [h.finish.port, rleSeconds_eq, State.port_setPort_same, hport]
  · rw [h.finish.comp]
    change e.comp p = _
    rw [h.step.comp, State.comp_of_eds seds, h.roll.comp, State.comp_of_eds reds, h.moved.comp, mcomp, hb.comp, acomp]
  · rw [h.finish.below]
    change e.eds.earlyBelow[p] = _
    rw [h.step.below, seds, h.roll.below, reds, h.moved.below, mbelow]

/-! A port that is not DOWN, along the path. -/

theorem early_fields (hd : (s.port p).state ≠ .down) (hq : s.suppressed sec = st) :
    let early := 0 < s.comp p ∧ n + s.comp p < 1000000000
    b1.port p = (if ¬early then s.port p else if s.rle.staged.isSome = true then (s.port p).modeFirst
      else a.cycleZeroPort p sec ⟨sec - 1, 1000000000 - s.comp p⟩ st (rec.getLsbD p))
    ∧ (b1.rack p = s.rack p ∨ (early ∧ s.rle.staged.isSome = false ∧ (s.port p).Losing
      ∧ b1.rack p = { s.rack p with state := .lost }))
    ∧ b1.comp p = s.comp p := by
  intro early
  obtain ⟨aport, arack, acomp⟩ := h.start_fields
  obtain ⟨ha, -⟩ := h.kept
  have hs : a.suppressed sec = st := (State.suppressed_of_tsu (ha.tsu : a.tsu = s.tsu) sec).trans hq
  obtain ⟨eport, erack, eeds⟩ := rleEarly_fields a p (n := n) (applied := s.rle.staged.isSome) (rec := rec)
    (aport ▸ hd) (staged_none ha) hs
  rw [aport, acomp] at eport
  rw [aport, acomp, arack] at erack
  exact ⟨h.early.port.trans eport, by rwa [h.early.rack], h.early.comp.trans ((State.comp_of_eds eeds p).trans acomp)⟩

theorem early_state (hd : (s.port p).state ≠ .down) (hq : s.suppressed sec = st) : (b1.port p).state ≠ .down := by
  obtain ⟨hport, -⟩ := h.early_fields hd hq
  rw [hport]
  split
  · exact hd
  · split
    · rw [PortRec.modeFirst_eq]
      exact hd
    · exact State.cycleZeroPort_state a p _ _ _ _ (h.start_fields.1 ▸ hd)

theorem moved_fields (hd : (s.port p).state ≠ .down) (hq : s.suppressed sec = st) :
    c.port p = b1.port p ∧ c.rack p = b1.rack p
    ∧ c.comp p = moveToward s.eds.compStep (s.comp p) (compTarget (s.rack p) (s.port p).initComp).ns
    ∧ c.eds.earlyBelow[p] = s.comp p := by
  obtain ⟨-, brack, bcomp⟩ := h.early_fields hd hq
  have hb := h.early_state hd hq
  obtain ⟨-, kb, -⟩ := h.kept
  obtain ⟨mport, mrack, -, -, mup⟩ := edsPortBoundary_fields b1 p old k
  obtain ⟨mcomp, mbelow⟩ := mup hb
  have hinit : (b1.port p).initComp = (s.port p).initComp := by
    rw [h.early.port, ← State.settings_initComp, rleEarly_settings, State.settings_initComp, h.start_fields.1]
  have htarget : compTarget (b1.rack p) (s.port p).initComp = compTarget (s.rack p) (s.port p).initComp := by
    rcases brack with e | ⟨-, -, -, e⟩ <;> rw [e]
    rfl
  refine ⟨h.moved.port.trans mport, h.moved.rack.trans mrack, ?_, ?_⟩
  · rw [h.moved.comp, mcomp, State.movedComp, if_neg hb, hinit, htarget, bcomp]
    exact congrArg (moveToward · _ _) kb.compStep
  · rw [h.moved.below, mbelow, h.oldComp, bcomp]

theorem roll_fields (hd : (s.port p).state ≠ .down) (hq : s.suppressed sec = st) (hq' : s.tsu.quiet = st) :
    let made := s.comp p = 0 ∧ (0 < c.comp p ∨ st = true)
    d.port p = (if s.rle.staged.isSome = true then
        let r := if s.comp p = 0 then (b1.port p).modeFirst else b1.port p
        if (s.rle.staged.getD s.rle.cycle).divisor = 1 then r.modeLast else r
      else if made then c.cycleZeroPort p sec s.now st (rec.getLsbD p) else b1.port p)
    ∧ (d.rack p = b1.rack p ∨ (made ∧ s.rle.staged.isSome = false ∧ (b1.port p).Losing))
    ∧ d.comp p = c.comp p ∧ d.eds.earlyBelow[p] = s.comp p := by
  intro made
  obtain ⟨-, -, bcomp⟩ := h.early_fields hd hq
  obtain ⟨cport, crack, -, cbelow⟩ := h.moved_fields hd hq
  obtain ⟨-, -, kc, -⟩ := h.kept
  have htsu : c.tsu = s.tsu := kc.tsu
  obtain ⟨rport, rrack, reds⟩ := rleRoll_fields c p (cOld := cOld) (applied := s.rle.staged.isSome) (rec := rec)
    (cport ▸ h.early_state hd hq) (staged_none kc) ((State.suppressed_of_tsu htsu sec).trans hq)
    ((congrArg Tsu.quiet htsu).trans hq')
  rw [h.cOldComp, bcomp, cport, cycle_eq kc, State.now_of_tsu htsu] at rport
  rw [h.cOldComp, bcomp, cport, crack] at rrack
  refine ⟨h.roll.port.trans rport, ?_, h.roll.comp.trans (State.comp_of_eds reds p), ?_⟩
  · rw [h.roll.rack]
    exact rrack.imp_right fun ⟨hm, ha, hl, _⟩ => ⟨hm, ha, hl⟩
  · rw [h.roll.below, reds, cbelow]

theorem roll_state (hd : (s.port p).state ≠ .down) (hq : s.suppressed sec = st) (hq' : s.tsu.quiet = st) :
    (d.port p).state ≠ .down := by
  have hb := h.early_state hd hq
  obtain ⟨hport, -⟩ := h.roll_fields hd hq hq'
  rw [hport]
  split
  · simp only [PortRec.modeFirst_eq, PortRec.modeLast_eq]
    split <;> split <;> exact hb
  · split
    · exact State.cycleZeroPort_state c p _ _ _ _ ((h.moved_fields hd hq).1 ▸ hb)
    · exact hb

theorem end_fields (hd : (s.port p).state ≠ .down) (hq : s.suppressed sec = st) (hq' : s.tsu.quiet = st)
    (hn : 1 ≤ (s.rle.staged.getD s.rle.cycle).divisor) (hb : b.ns < 1000000000) (hv : s.now.ns < 1000000000) :
    F.port p = (if st = true ∧ 0 < s.now.diff b then
        modesPassed b s.now (s.rle.staged.getD s.rle.cycle).divisor (c.comp p) (d.port p)
      else d.port p).risen
    ∧ F.rack p = d.rack p ∧ F.comp p = c.comp p ∧ F.eds.earlyBelow[p] = s.comp p := by
  obtain ⟨-, -, dcomp, dbelow⟩ := h.roll_fields hd hq hq'
  obtain ⟨-, -, -, kd, -⟩ := h.kept
  have hnow : d.now = s.now := State.now_of_tsu (kd.tsu : d.tsu = s.tsu)
  have hcycle := cycle_eq kd
  obtain ⟨sport, srack, seds⟩ := State.movedOnPort_fields d p (sec := sec) (st := st) (h.roll_state hd hq hq')
    (hcycle ▸ hn) hb (hnow ▸ hv)
  rw [hnow, hcycle, dcomp] at sport
  refine ⟨?_, ?_, ?_, ?_⟩
  · rw [h.finish.port, rleSeconds_eq, State.port_setPort_same, h.step.port, sport]
  · rw [h.finish.rack]
    exact h.step.rack.trans srack
  · rw [h.finish.comp]
    exact h.step.comp.trans ((State.comp_of_eds seds p).trans dcomp)
  · rw [h.finish.below]
    change e.eds.earlyBelow[p] = _
    rw [h.step.below, seds, dbelow]

end PortPath
end PortsWork
end Sys2Proof.Machine
end

section
/-! PROOFS. A second boundary's staged work, compensations and departures (03 R46, R53; 04 R61, R65, R66, R73, R74, R77). -/
namespace Sys2Proof.Machine

/-! ### What a step notes of cycle 0 -/

section Landing

variable (s : State) (p : Port) (sec : RowSec) (b : Time) (st : Bool)

theorem State.movedOnPort_comp : (s.movedOnPort sec b st p).comp p = s.comp p := by
  unfold State.movedOnPort
  split
  · unfold passModes
    split <;> rfl
  · split
    · obtain ⟨xs, e⟩ := landAgain_eq s sec p
      rw [e]
      rfl
    · rfl

variable {s p sec b st}

theorem State.movedOnPort_noted (h : TickEvent.departure p sec 0 ∈ s.clk.taken)
    (hl : ¬(st = true ∧ s.now.diff b < 0 ∧ (departureInstant sec 0 s.rle.cycle.divisor (s.comp p)).1 = s.now)) :
    TickEvent.departure p sec 0 ∈ (s.movedOnPort sec b st p).clk.taken := by
  unfold State.movedOnPort
  split
  · unfold passModes
    split <;> exact h
  · split
    · rename_i hb
      have hb' : st = true ∧ s.now.diff b < 0 := by simpa using hb
      rw [landAgain, if_neg fun k => hl ⟨hb'.1, hb'.2, k⟩]
      exact h
    · exact h

theorem State.movedOnPort_landed (hst : st = true) (hb : s.now.diff b < 0)
    (hl : (departureInstant sec 0 s.rle.cycle.divisor (s.comp p)).1 = s.now) :
    TickEvent.departure p sec 0 ∉ (s.movedOnPort sec b st p).clk.taken := by
  have hf : ¬(st && decide (0 < s.now.diff b)) = true := by
    simp only [hst, Bool.true_and, decide_eq_true_eq]
    omega
  rw [State.movedOnPort, if_neg hf, if_pos (by simpa [hst] using hb), landAgain, if_pos hl]
  simp

end Landing

/-! ### The state in which the statement writes cycle 0's work -/

/-- `v` shows port `p` as it was in `s`, under the divisor that comes into force and the compensation of `f`, with O as it
was in `s` or the record of `f`. -/
structure State.ViewOf (s f : State) (p : Port) (v : State) : Prop where
  port : v.port p = s.port p
  tsu : v.tsu = s.tsu
  marks : v.marks p = s.marks p
  cycle : v.rle.cycle = s.rle.staged.getD s.rle.cycle
  elapsed : v.clk.elapsed = s.clk.elapsed
  comp : v.comp p = f.comp p
  offset : v.sentOffset p = s.sentOffset p ∨ v.rack p = f.rack p

/-- The port after its early cycle 0, as the statement has it. -/
def State.earlyPort (s v : State) (p : Port) (sec : RowSec) (n : Nat) (st b : Bool) : PortRec :=
  if ¬(0 < s.comp p ∧ n + s.comp p < 1000000000) then s.port p
  else if s.rle.staged.isSome = true then (s.port p).modeFirst
  else (v.setEds s.eds).cycleZeroPort p sec ⟨sec - 1, 1000000000 - s.comp p⟩ st b

/-- The port after its cycle 0 at the boundary tick, as the statement has it. -/
def State.rolledPort (s v : State) (p : Port) (sec : RowSec) (early : PortRec) (st b : Bool) : PortRec :=
  if s.rle.staged.isSome = true then
    let r := if s.comp p = 0 then early.modeFirst else early
    if v.rle.cycle.divisor = 1 then r.modeLast else r
  else if s.comp p = 0 ∧ (0 < v.comp p ∨ st = true) then (v.setPort p early).cycleZeroPort p sec s.now st b
  else early

namespace PortPath

variable {s : State} {p : Port} {sec : RowSec} {b : Time} {n : Nat} {st : Bool} {rec : BitVec 16}
variable {F a b1 c d e v : State} {old : Eds} {k : EdgeTick} {cOld : Port → Nat}
variable (h : PortPath s p sec b n st rec F a b1 c d e old k cOld)
include h

theorem early_port (hd : (s.port p).state ≠ .down) (hq : s.suppressed sec = st) (hq' : s.tsu.quiet = st)
    (hF : F.rack p = d.rack p) (hv : s.ViewOf F p v) : b1.port p = s.earlyPort v p sec n st (rec.getLsbD p) := by
  obtain ⟨aport, arack, acomp⟩ := h.start_fields
  obtain ⟨ka, -⟩ := h.kept
  obtain ⟨bport, brack, -⟩ := h.early_fields hd hq
  obtain ⟨-, drack, -⟩ := h.roll_fields hd hq hq'
  have hlike : a.Alike p (v.setEds s.eds) :=
    { port := hv.port.trans aport.symm
      tsu := hv.tsu.trans ka.tsu.symm
      marks := hv.marks.trans ka.marks.symm
      comp := acomp.symm
      cycle := hv.cycle.trans (cycle_eq ka).symm
      elapsed := hv.elapsed.trans ka.elapsed.symm }
  rw [bport]
  unfold State.earlyPort
  refine ite_congr rfl (fun _ => rfl) fun he => ite_congr rfl (fun _ => rfl) fun _ => ?_
  refine (hlike.cycleZeroPort (fun hl => ?_) sec _ st _).symm
  have hoa : a.sentOffset p = s.sentOffset p := State.sentOffset_of_rack arack
  rw [hoa]
  refine hv.offset.elim id fun hr => State.sentOffset_of_rack ?_
  have hb : b1.rack p = s.rack p := brack.elim id fun ⟨_, _, hl', _⟩ => absurd (aport ▸ hl') hl
  have hr' : d.rack p = b1.rack p := drack.elim id fun ⟨⟨h0, _⟩, _⟩ => absurd h0 (not_not.mp he).1.ne'
  exact hr.trans (hF.trans (hr'.trans hb))

theorem rolled_port (hd : (s.port p).state ≠ .down) (hq : s.suppressed sec = st) (hq' : s.tsu.quiet = st)
    (hF : F.rack p = d.rack p) (hcF : F.comp p = c.comp p) (hv : s.ViewOf F p v) :
    d.port p = s.rolledPort v p sec (b1.port p) st (rec.getLsbD p) := by
  obtain ⟨-, -, kc, -⟩ := h.kept
  obtain ⟨-, brack, -⟩ := h.early_fields hd hq
  obtain ⟨cport, crack, -⟩ := h.moved_fields hd hq
  obtain ⟨dport, drack, -⟩ := h.roll_fields hd hq hq'
  have hcomp : v.comp p = c.comp p := hv.comp.trans hcF
  have hlike : c.Alike p (v.setPort p (b1.port p)) :=
    { port := (State.port_setPort_same ..).trans cport.symm
      tsu := hv.tsu.trans kc.tsu.symm
      marks := hv.marks.trans kc.marks.symm
      comp := hcomp
      cycle := hv.cycle.trans (cycle_eq kc).symm
      elapsed := hv.elapsed.trans kc.elapsed.symm }
  rw [dport]
  unfold State.rolledPort
  rw [hv.cycle, hcomp]
  refine ite_congr rfl (fun _ => rfl) fun _ => ite_congr rfl (fun hm => ?_) fun _ => rfl
  refine (hlike.cycleZeroPort (fun hl => ?_) sec s.now st _).symm
  have hb : b1.rack p = s.rack p := brack.elim id fun ⟨⟨h0, _⟩, _⟩ => absurd hm.1 h0.ne'
  have hoc : c.sentOffset p = s.sentOffset p := State.sentOffset_of_rack (crack.trans hb)
  rw [hoc]
  refine Or.elim hv.offset id fun hr => State.sentOffset_of_rack ?_
  have hr' : d.rack p = b1.rack p := drack.elim id fun ⟨_, _, hl'⟩ => absurd (cport ▸ hl') hl
  exact hr.trans (hF.trans (hr'.trans hb))

/-- A port that is not DOWN: its compensation moves, and its cycle 0 and what a step passes are worked. -/
theorem up (hd : (s.port p).state ≠ .down) (hq : s.suppressed sec = st) (hq' : s.tsu.quiet = st)
    (hn : 1 ≤ (s.rle.staged.getD s.rle.cycle).divisor) (hb : b.ns < 1000000000) (hs : s.now.ns < 1000000000) :
    F.comp p = moveToward s.eds.compStep (s.comp p) (compTarget (s.rack p) (s.port p).initComp).ns
    ∧ F.eds.earlyBelow[p] = s.comp p
    ∧ (s.ViewOf F p v →
      let rolled := s.rolledPort v p sec (s.earlyPort v p sec n st (rec.getLsbD p)) st (rec.getLsbD p)
      F.port p = (if st = true ∧ 0 < s.now.diff b then
          modesPassed b s.now (s.rle.staged.getD s.rle.cycle).divisor (F.comp p) rolled
        else rolled).risen) := by
  obtain ⟨fport, frack, fcomp, fbelow⟩ := h.end_fields hd hq hq' hn hb hs
  obtain ⟨-, -, ccomp, -⟩ := h.moved_fields hd hq
  refine ⟨fcomp.trans ccomp, fbelow, fun hv => ?_⟩
  rw [fport, h.rolled_port hd hq hq' frack fcomp hv, h.early_port hd hq hq' frack hv, fcomp]

/-! What is noted of cycle 0 at the boundary tick. -/

theorem comp_eq : F.comp p = d.comp p :=
  h.finish.comp.trans (h.step.comp.trans (d.movedOnPort_comp p sec b st))

theorem now_eq : d.now = s.now := by
  obtain ⟨-, -, -, kd, -⟩ := h.kept
  exact State.now_of_tsu kd.tsu

theorem noted_iff : TickEvent.departure p sec 0 ∈ F.clk.taken ↔
    TickEvent.departure p sec 0 ∈ (d.movedOnPort sec b st p).clk.taken :=
  (h.finish.noted sec 0).trans (h.step.noted sec 0)

theorem instant_eq : departureInstant sec 0 d.rle.cycle.divisor (d.comp p) =
    departureInstant sec 0 (s.rle.staged.getD s.rle.cycle).divisor (F.comp p) := by
  obtain ⟨-, -, -, kd, -⟩ := h.kept
  rw [cycle_eq kd, h.comp_eq]

/-- With a SET CYCLE that comes into force cycle 0 is noted as taken, but where a step lands on its instant again. -/
theorem noted (hs : s.rle.staged ≠ none) (hl : ¬(st = true ∧ s.now.diff b < 0
      ∧ (departureInstant sec 0 (s.rle.staged.getD s.rle.cycle).divisor (F.comp p)).1 = s.now)) :
    TickEvent.departure p sec 0 ∈ F.clk.taken := by
  have hr := h.roll
  rw [Option.isSome_iff_ne_none.mpr hs] at hr
  rw [h.noted_iff]
  refine d.movedOnPort_noted ((hr.noted sec 0).mpr (rleRoll_applied c p sec cOld rec)) ?_
  rwa [h.instant_eq, h.now_eq]

/-- A backward step onto the instant of cycle 0 leaves it to be taken. -/
theorem landed (hst : st = true) (hb : s.now.diff b < 0)
    (hl : (departureInstant sec 0 (s.rle.staged.getD s.rle.cycle).divisor (F.comp p)).1 = s.now) :
    TickEvent.departure p sec 0 ∉ F.clk.taken := by
  rw [h.noted_iff]
  refine d.movedOnPort_landed hst ?_ ?_
  · rwa [h.now_eq]
  · rwa [h.instant_eq, h.now_eq]

end PortPath
end Sys2Proof.Machine
end

section
/-! PROOFS. The boundary that SECOND_BOUNDARY makes, from the ticks up to the roll to DRM's last work (03 R46, R53; 04 R61,
R65, R66, R73, R74, R77). -/
namespace Sys2Proof.Machine

/-! ### The work before the ports' -/

section Raised

variable (s : State) (sec : RowSec)

theorem State.timeWork_tsu : (s.timeWork sec).1.tsu = (s.tsuWork sec).1 := (s.timeWork_raisesFrom sec).tsu

/-- What a step's landing notes of the clock. -/
theorem State.timeWork_tickFrom (h : (s.tsuWork sec).1.gen ≠ s.tsu.gen) :
    (s.timeWork sec).1.clk.tickFrom = landedFrom s.now (s.tsuWork sec).1.ts.capture := by
  unfold State.timeWork
  exact congrArg (fun x : State => x.clk.tickFrom) (if_neg h)

end Raised

/-- What ticks leave of the ports' units. -/
theorem State.runTicks_units (s : State) (n : Nat) : (s.runTicks n).rle = s.rle ∧ (s.runTicks n).eds = s.eds
    ∧ (s.runTicks n).drm = s.drm := by
  obtain ⟨v, c, a, b, rx, k, e, -⟩ := s.runTicks_eq n
  rw [e]
  exact ⟨rfl, rfl, rfl⟩

/-- A step opens the quiet interval with its second marked, and without one it is closed. -/
theorem State.BoundaryLeaves.quiet_eq {s t : State} (h : s.BoundaryLeaves s.tsu.ts.sec t) :
    t.tsu.quiet = (t.tsu.gen != s.tsu.gen) ∧ t.suppressed s.tsu.ts.sec = (t.tsu.gen != s.tsu.gen) := by
  unfold State.suppressed
  rcases h.stepped with ⟨hgen, hquiet, -⟩ | ⟨hgen, hquiet, hmark, -⟩
  · rw [hgen, hquiet]
    simp
  · have hne : s.tsu.gen + 1 ≠ s.tsu.gen := by
      unfold Gen at *
      bv_omega
    rw [hgen, hquiet, hmark, bne_iff_ne.mpr hne]
    simp

/-- The state `r` before the ports' work of a boundary of `s`, `st` where a step is taken. -/
structure State.RaisedFor (s : State) (d st : Bool) (r : State) : Prop where
  rle : r.rle = s.rle
  eds : r.eds = s.eds
  delay : ∀ p, (r.rack p).delay = (s.rack p).delay ∧ (r.rack p).delayCount = (s.rack p).delayCount
  offset : d = false → ∀ p, r.sentOffset p = s.sentOffset p
  suppressed : r.suppressed s.tsu.ts.sec = st
  quiet : r.tsu.quiet = st
  stepped : st = (r.tsu.gen != s.tsu.gen)
  landed : st = true → r.now.diff s.now < 0 → r.clk.tickFrom = r.now.plus (-1)
  inRange : s.tsu.ts.InRange → r.tsu.ts.InRange

theorem State.sentOffset_congr {s t : State} {p : Port} (h : (t.rack p).state = (s.rack p).state
    ∧ (t.rack p).offset = (s.rack p).offset) : t.sentOffset p = s.sentOffset p := by
  unfold State.sentOffset
  rw [h.1, h.2]

theorem State.raisedWork_raisedFor (s : State) (d : Bool) :
    s.RaisedFor d ((s.timeWork s.tsu.ts.sec).1.tsu.gen != s.tsu.gen) (s.raisedWork s.tsu.ts.sec d) := by
  have hraised := s.raisedWork_racksOnly s.tsu.ts.sec d
  have hrack := s.raisedWork_rack s.tsu.ts.sec
  have hleaves := s.boundaryWork_leaves s.tsu.ts.sec false 0
  obtain ⟨wrle, weds, wdrm, -⟩ := s.timeWork_units s.tsu.ts.sec
  have hfrom := s.timeWork_tickFrom s.tsu.ts.sec
  have hrange : s.tsu.ts.InRange → (s.tsuWork s.tsu.ts.sec).1.ts.InRange := fun hi =>
    Tsu.boundary_ts_inRange (t := { s.tsu with mark := none }) hi _
  obtain ⟨hquiet, hsup⟩ := hleaves.quiet_eq
  have hb := hleaves.tsu.trans (s.timeWork_tsu s.tsu.ts.sec).symm
  rw [hb] at hquiet
  rw [State.suppressed_of_tsu hb, hb] at hsup
  rw [← State.timeWork_tsu] at hfrom hrange
  have hd : d = false → ∀ p, ((s.raisedWork s.tsu.ts.sec d).rack p).state = (s.rack p).state
      ∧ ((s.raisedWork s.tsu.ts.sec d).rack p).offset = (s.rack p).offset := by
    rintro rfl
    exact hrack
  generalize s.raisedWork s.tsu.ts.sec d = r at hraised hd ⊢
  generalize (s.timeWork s.tsu.ts.sec).1 = w at *
  have hnow := State.now_of_tsu hraised.tsu
  exact
    { rle := hraised.rle.trans wrle
      eds := hraised.eds.trans weds
      delay := fun p => State.rack_of_drm wdrm p ▸ hraised.delay p
      offset := fun k p => State.sentOffset_congr (hd k p)
      suppressed := (State.suppressed_of_tsu hraised.tsu _).trans hsup
      quiet := (congrArg Tsu.quiet hraised.tsu).trans hquiet
      stepped := by rw [hraised.tsu]
      landed := by
        intro hst hback
        rw [hnow] at hback ⊢
        rw [hraised.clk, hfrom (bne_iff_ne.mp hst)]
        exact if_pos hback
      inRange := hraised.tsu ▸ hrange }

/-- A second boundary from `s`, rolled at `u`: `r` before the ports' work, `f` after it, `t` after DRM's, `st` where a step
is taken. -/
structure State.Boundary (s u : State) (d st : Bool) (rec : BitVec 16) (r f t : State) : Prop where
  rle : u.rle = s.rle
  eds : u.eds = s.eds
  drm : u.drm = s.drm
  gen : u.tsu.gen = s.tsu.gen
  inRange : u.tsu.ts.InRange
  raised : u.RaisedFor d st r
  ports : f = r.portsWork u.tsu.ts.sec u.now u.clk.tickFrom.ns u.tsu.quiet st rec
  last : f.RacksOnly t
  drmFirst : d = true → t = f

theorem State.boundaryWork_boundary {s u : State} (hu : s.runTicks s.ticksToRoll = u) (hi : s.tsu.ts.InRange) (d : Bool)
    (rec : BitVec 16) : ∃ st r f, s.Boundary u d st rec r f (u.atRoll.boundaryWork u.tsu.ts.sec d rec) := by
  obtain ⟨hrle, heds, hdrm⟩ := hu ▸ s.runTicks_units s.ticksToRoll
  have hgen := (hu ▸ s.runTicks_ticked s.ticksToRoll : s.Ticked u).gen
  have hin : u.tsu.ts.InRange := by
    rw [← hu, State.runTicks_ts hi]
    exact Ts.advance_inRange _ _
  have hr := u.atRoll.raisedWork_raisedFor d
  have hb := u.atRoll.boundaryWork_eq u.tsu.ts.sec d rec
  change State.RaisedFor _ _ ((u.atRoll.timeWork u.tsu.ts.sec).1.tsu.gen != u.atRoll.tsu.gen)
    (u.atRoll.raisedWork u.tsu.ts.sec d) at hr
  generalize ((u.atRoll.timeWork u.tsu.ts.sec).1.tsu.gen != u.atRoll.tsu.gen) = st at hr hb
  generalize u.atRoll.raisedWork u.tsu.ts.sec d = r at hr hb
  obtain ⟨f, hf⟩ : ∃ f, f = r.portsWork u.tsu.ts.sec u.now u.clk.tickFrom.ns u.tsu.quiet st rec := ⟨_, rfl⟩
  have hlast : u.atRoll.boundaryWork u.tsu.ts.sec d rec = if d then f else f.drmBoundary u.tsu.ts.sec := by
    rw [hf]
    exact hb
  rw [hlast]
  refine ⟨st, r, f, hrle, heds, hdrm, hgen, hin,
    ⟨hr.rle, hr.eds, hr.delay, hr.offset, hr.suppressed, hr.quiet, hr.stepped, hr.landed, hr.inRange⟩, hf, ?_, ?_⟩
  · split
    · rfl
    · exact f.drmBoundary_racksOnly _
  · exact fun hd => if_pos hd

end Sys2Proof.Machine
end

section
/-! PROOFS. A second boundary, port by port, in the words of the statement (03 R46, R53; 04 R61, R65, R66, R73, R74, R77). -/
namespace Sys2Proof.Machine

theorem Rle.DivisorsPermitted.next {x : Rle} (h : x.DivisorsPermitted) : 1 ≤ (x.staged.getD x.cycle).divisor := by
  have hpos : ∀ n : Nat, n ∈ [1, 2, 4, 8, 16, 32, 64] → 1 ≤ n := by decide
  refine hpos _ ?_
  cases hs : x.staged with
  | none => exact h.inForce
  | some c => exact h.staged c hs

/-- One nanosecond before a time is before it. -/
theorem Time.before_diff (t : Time) (h : t.ns < 1000000000) : t.diff (t.plus (-1)) = 1 := by
  rcases Nat.eq_zero_or_pos t.ns with h0 | h0
  · have hp : t.plus (-1) = ⟨t.sec + BitVec.ofInt 48 (-1), 999999999⟩ := by
      rw [Time.plus, h0]
      rfl
    have hsec : t.sec - (t.sec + BitVec.ofInt 48 (-1)) = 1 := by bv_omega
    have hone : secDiff t.sec (t.sec + BitVec.ofInt 48 (-1)) = 1 := by
      rw [secDiff, hsec]
      decide
    rw [hp, Time.diff, hone, h0]
    simp [nsPerSec]
  · have hq : ((t.ns : Int) + -1) / 1000000000 = 0 := by omega
    have hp : t.plus (-1) = ⟨t.sec, t.ns - 1⟩ := by
      simp only [Time.plus, nsPerSec, Nat.cast_ofNat, hq]
      simp
      omega
    rw [hp]
    refine (Time.diff_of_sec_eq (a := t) (b := ⟨t.sec, t.ns - 1⟩) rfl).trans ?_
    change (t.ns : Int) - (t.ns - 1 : Nat) = 1
    omega

namespace State.Boundary

variable {s u r f t : State} {d st : Bool} {rec : BitVec 16}

section
variable (h : s.Boundary u d st rec r f t)
include h

theorem tsu_eq : t.tsu = r.tsu := by
  have hf := (r.portsWork_aside u.tsu.ts.sec u.now u.clk.tickFrom.ns u.tsu.quiet st rec).tsu
  rw [← h.ports] at hf
  exact h.last.tsu.trans hf

theorem now_eq : t.now = r.now := State.now_of_tsu h.tsu_eq

theorem stepped_eq : decide (t.tsu.gen ≠ s.tsu.gen) = st := by
  rw [h.raised.stepped, h.tsu_eq, ← h.gen, Bool.eq_iff_iff, bne_iff_ne, decide_eq_true_iff]

theorem rle_eq : r.rle = s.rle := h.raised.rle.trans h.rle

theorem eds_eq : r.eds = s.eds := h.raised.eds.trans h.eds

/-- Staged work comes into force (03 R46, 04 R77). -/
theorem common : t.rle.cycle = s.rle.staged.getD s.rle.cycle ∧ t.rle.staged = none
    ∧ t.eds.common = (s.eds.activate u.tsu.ts.sec).common := by
  have hc := r.portsWork_common u.tsu.ts.sec u.now u.clk.tickFrom.ns u.tsu.quiet st rec
  rw [← h.ports, h.rle_eq, h.eds_eq] at hc
  rw [h.last.rle, h.last.eds]
  exact hc

theorem clk_eq : ∃ xs, t.clk = { r.clk with taken := xs } := by
  have hf := (r.portsWork_aside u.tsu.ts.sec u.now u.clk.tickFrom.ns u.tsu.quiet st rec).clk
  rw [← h.ports] at hf
  rw [h.last.clk]
  exact hf

/-- At a backward step the latest tick has brought the timescale to the landing's value. -/
theorem reach_now (hst : st = true) (hb : t.now.diff u.now < 0) : t.reach t.now = some t := by
  have hns : t.now.ns < 1000000000 := by
    rw [h.now_eq]
    exact (h.raised.inRange h.inRange).1
  have hfrom : t.clk.tickFrom = t.now.plus (-1) := by
    obtain ⟨xs, e⟩ := h.clk_eq
    rw [h.now_eq] at hb ⊢
    rw [e]
    exact h.raised.landed hst hb
  have hat : t.atTick t.now = true := by
    unfold State.atTick
    rw [hfrom]
    have h1 : t.now.diff (t.now.plus (-1)) = 1 := Time.before_diff _ hns
    have h0 : t.now.diff t.now = 0 := by
      rw [Time.diff_of_sec_eq rfl, sub_self]
    simp [h1, h0]
  exact if_pos hat

/-- A port's path through the ports' work of a boundary. -/
theorem path (p : Port) : ∃ a b1 c d' e old k cOld,
    PortPath r p u.tsu.ts.sec u.now u.clk.tickFrom.ns st rec f a b1 c d' e old k cOld := by
  rw [h.ports]
  exact r.portsWork_portPath p u.tsu.ts.sec u.now u.clk.tickFrom.ns u.tsu.quiet st rec

theorem comp_eq (p : Port) : t.comp p = f.comp p := State.comp_of_eds h.last.eds p

theorem cycle_eq : t.rle.cycle = r.rle.staged.getD r.rle.cycle := h.rle_eq ▸ h.common.1

theorem instant_eq (p : Port) : compensatedInstant u.tsu.ts.sec 0 t.rle.cycle.divisor (t.comp p) =
    (departureInstant u.tsu.ts.sec 0 (r.rle.staged.getD r.rle.cycle).divisor (f.comp p)).1 := by
  rw [departureInstant_eq, h.cycle_eq, h.comp_eq]

/-- A backward step onto the instant of cycle 0 leaves it to be taken at this tick. -/
theorem landed_again (p : Port) (hst : st = true) (hb : t.now.diff u.now < 0)
    (hl : compensatedInstant u.tsu.ts.sec 0 t.rle.cycle.divisor (t.comp p) = t.now) :
    t.reach t.now = some t ∧ TickEvent.departure p u.tsu.ts.sec 0 ∉ t.clk.taken := by
  refine ⟨h.reach_now hst hb, ?_⟩
  obtain ⟨a, b1, c, d', e, old, k, cOld, hp⟩ := h.path p
  rw [h.last.clk]
  rw [h.instant_eq, h.now_eq] at hl
  exact hp.landed hst (h.now_eq ▸ hb) hl

/-- A SET CYCLE that comes into force leaves cycle 0 noted as taken. -/
theorem noted (p : Port) (hs : s.rle.staged ≠ none) (hl : ¬(st = true ∧ t.now.diff u.now < 0
      ∧ compensatedInstant u.tsu.ts.sec 0 t.rle.cycle.divisor (t.comp p) = t.now)) :
    TickEvent.departure p u.tsu.ts.sec 0 ∈ t.clk.taken := by
  obtain ⟨a, b1, c, d', e, old, k, cOld, hp⟩ := h.path p
  rw [h.instant_eq, h.now_eq] at hl
  rw [h.last.clk]
  exact hp.noted (h.rle_eq ▸ hs) hl

theorem port_start (p : Port) : r.port p = s.port p ∧ r.comp p = s.comp p :=
  ⟨State.port_of_rle h.rle_eq p, State.comp_of_eds h.eds_eq p⟩

/-- A DOWN port keeps all but its seconds, and its compensation. -/
theorem down (p : Port) (hd : (s.port p).state = .down) :
    t.port p = (s.port p).risen ∧ t.comp p = s.comp p ∧ t.eds.earlyBelow[p] = 0 := by
  obtain ⟨a, b1, c, d', e, old, k, cOld, hp⟩ := h.path p
  obtain ⟨hport, hcomp⟩ := h.port_start p
  obtain ⟨fport, fcomp, fbelow⟩ := hp.down (hport ▸ hd)
  rw [State.port_of_rle h.last.rle, h.comp_eq, h.last.eds, fport, fcomp, hport, hcomp]
  exact ⟨rfl, rfl, fbelow⟩

/-- The statement's view of a port's work. -/
def view (s t : State) (d : Bool) (p : Port) : State :=
  (t.setPort p (s.port p)).setRack p (if d then t.rack p else s.rack p)

theorem view_viewOf (p : Port) : r.ViewOf f p (view s t d p) := by
  obtain ⟨a, b1, c, d', e, old, k, cOld, hp⟩ := h.path p
  obtain ⟨-, -, -, -, ke⟩ := hp.kept
  have kf := (ke.trans (State.ShareOf.kept (rleSeconds_share e p))).trans hp.finish.toKept
  have hecu := h.last.ecu
  exact
    { port := (State.port_setPort_same ..).trans (h.port_start p).1.symm
      tsu := h.tsu_eq
      marks := by
        refine Eq.trans ?_ kf.marks
        exact congrArg (fun x : Ecu => x.marks[p]) hecu
      cycle := h.cycle_eq
      elapsed := by
        obtain ⟨xs, e⟩ := h.clk_eq
        change t.clk.elapsed = _
        rw [e]
      comp := h.comp_eq p
      offset := by
        cases hd : d with
        | true =>
          refine .inr ((State.rack_setRack_same ..).trans ?_)
          rw [h.drmFirst hd]
          rfl
        | false =>
          refine .inl (Eq.trans ?_ (h.raised.offset hd p).symm)
          refine State.sentOffset_of_rack ((State.rack_setRack_same ..).trans ?_)
          exact (State.rack_of_drm h.drm p).symm }

/-- A port that is not DOWN. -/
theorem up (p : Port) (hperm : s.rle.DivisorsPermitted) (hd : (s.port p).state ≠ .down) :
    t.comp p = moveToward s.eds.compStep (s.comp p) (compTarget (s.rack p) (s.port p).initComp).ns
    ∧ t.eds.earlyBelow[p] = s.comp p
    ∧ let rolled := r.rolledPort (view s t d p) p u.tsu.ts.sec (r.earlyPort (view s t d p) p u.tsu.ts.sec
        u.clk.tickFrom.ns st (rec.getLsbD p)) st (rec.getLsbD p)
      t.port p = (if st = true ∧ 0 < t.now.diff u.now then
          modesPassed u.now t.now t.rle.cycle.divisor (t.comp p) rolled
        else rolled).risen := by
  obtain ⟨a, b1, c, d', e, old, k, cOld, hp⟩ := h.path p
  obtain ⟨hport, hcomp⟩ := h.port_start p
  obtain ⟨hdelay, hcount⟩ := h.raised.delay p
  have htarget : compTarget (r.rack p) (s.port p).initComp = compTarget (s.rack p) (s.port p).initComp := by
    rw [← State.rack_of_drm h.drm p]
    unfold compTarget RackRec.delayValid
    rw [hdelay, hcount]
  obtain ⟨fcomp, fbelow, fport⟩ := hp.up (v := view s t d p) (hport ▸ hd) h.raised.suppressed h.raised.quiet
    (h.rle_eq ▸ hperm.next) h.inRange.1 (h.raised.inRange h.inRange).1
  rw [hcomp, hport, h.eds_eq, htarget] at fcomp
  refine ⟨(h.comp_eq p).trans fcomp, ?_, ?_⟩
  · rw [h.last.eds, fbelow, hcomp]
  · rw [State.port_of_rle h.last.rle, h.now_eq, h.cycle_eq, h.comp_eq]
    exact fport (h.view_viewOf p)

end
end State.Boundary

/-! ### The statement's account of cycle 0 -/

section Account

variable {s t : State} {p : Port} {sec : RowSec} {st b : Bool}

theorem State.earlyPort_eq (v : State) (n : Nat) (hd : (s.port p).state ≠ .down) (hv : v.port p = s.port p) :
    s.earlyPort v p sec n st b =
      (if ¬(0 < s.comp p ∧ n + s.comp p < 1000000000) then s.port p
      else if s.rle.staged ≠ none then
        { s.port p with mode := (s.port p).frozen.getD (s.port p).mode, frozen := none }
      else (cycleZero (v.setEds s.eds) p sec ⟨sec - 1, 1000000000 - s.comp p⟩ st b).port p) := by
  unfold State.earlyPort
  refine ite_congr rfl (fun _ => rfl) fun _ => ite_congr (by simp [Option.isSome_iff_ne_none])
    (fun _ => PortRec.modeFirst_eq _) fun _ => (cycleZero_port _ p sec _ st b ?_).symm
  exact fun k => hd (hv ▸ k)

theorem State.rolledPort_eq (v : State) {early : PortRec} (he : early.state ≠ .down) :
    s.rolledPort v p sec early st b =
      (if s.rle.staged ≠ none then
        let r := if s.comp p = 0 then { early with mode := early.frozen.getD early.mode, frozen := none } else early
        if v.rle.cycle.divisor = 1 then
          { r with frozen := if r.staged = none then r.frozen else r.staged, staged := none }
        else r
      else if s.comp p = 0 ∧ (0 < v.comp p ∨ st = true) then
        (cycleZero (v.setPort p early) p sec s.now st b).port p
      else early) := by
  unfold State.rolledPort
  rw [PortRec.modeFirst_eq]
  simp only [PortRec.modeLast_eq]
  refine ite_congr (by simp [Option.isSome_iff_ne_none]) (fun _ => rfl) fun _ =>
    ite_congr rfl (fun _ => (cycleZero_port _ p sec _ st b ?_).symm) fun _ => rfl
  rw [State.port_setPort_same]
  exact he

theorem State.earlyPort_state (v : State) (n : Nat) (hd : (s.port p).state ≠ .down) (hv : v.port p = s.port p) :
    (s.earlyPort v p sec n st b).state ≠ .down := by
  unfold State.earlyPort
  split
  · exact hd
  · split
    · rw [PortRec.modeFirst_eq]
      exact hd
    · exact State.cycleZeroPort_state _ p _ _ _ _ fun k => hd (hv ▸ k)

end Account

/-! ### Cycle 0 after a boundary -/

theorem State.Boundary.earlyPort_eq {s u r f t : State} {d st : Bool} {rec : BitVec 16} (h : s.Boundary u d st rec r f t)
    (p : Port) (hd : (s.port p).state ≠ .down) (sec : RowSec) (n : Nat) (b : Bool) :
    r.earlyPort (State.Boundary.view s t d p) p sec n st b =
      (if ¬(0 < s.comp p ∧ n + s.comp p < 1000000000) then s.port p
      else if s.rle.staged ≠ none then
        { s.port p with mode := (s.port p).frozen.getD (s.port p).mode, frozen := none }
      else (cycleZero ((State.Boundary.view s t d p).setEds s.eds) p sec ⟨sec - 1, 1000000000 - s.comp p⟩ st b).port p) := by
  obtain ⟨hport, hcomp⟩ := h.port_start p
  rw [State.earlyPort_eq _ n (hport ▸ hd) (h.view_viewOf p).port, hport, hcomp, h.rle_eq, h.eds_eq]

theorem State.Boundary.rolledPort_eq {s u r f t : State} {d st : Bool} {rec : BitVec 16} (h : s.Boundary u d st rec r f t)
    (p : Port) {early : PortRec} (he : early.state ≠ .down) (sec : RowSec) (b : Bool) :
    r.rolledPort (State.Boundary.view s t d p) p sec early st b =
      (if s.rle.staged ≠ none then
        let r := if s.comp p = 0 then { early with mode := early.frozen.getD early.mode, frozen := none } else early
        if t.rle.cycle.divisor = 1 then
          { r with frozen := if r.staged = none then r.frozen else r.staged, staged := none }
        else r
      else if s.comp p = 0 ∧ (0 < t.comp p ∨ st = true) then
        (cycleZero ((State.Boundary.view s t d p).setPort p early) p sec t.now st b).port p
      else early) := by
  obtain ⟨-, hcomp⟩ := h.port_start p
  rw [State.rolledPort_eq _ he, hcomp, h.rle_eq, ← h.now_eq]
  rfl

end Sys2Proof.Machine
end

section
/-! PROOFS. A second boundary's staged work, compensations and departures (03 R46, R53; 04 R61, R65, R66, R73, R74, R77). -/
namespace Sys2Proof.Machine

/-- SECOND_BOUNDARY at a roll into a second that is not marked. -/
theorem exec_secondBoundary_boundary {s u : State} (hu : s.runTicks s.ticksToRoll = u) (hh : s.mlc.held = false)
    (hi : s.tsu.ts.InRange) (hm : s.tsu.mark ≠ some u.tsu.ts.sec) (d : Bool) (rec : BitVec 16) :
    ∃ t st r f, exec (.secondBoundary ⟨d, rec⟩) s = .next t ∧ s.Boundary u d st rec r f t := by
  obtain ⟨st, r, f, h⟩ := State.boundaryWork_boundary hu hi d rec
  exact ⟨_, st, r, f, (exec_secondBoundary hh _).trans (congrArg _ (State.roll_of_unmarked hu hm d rec)), h⟩

/-- The schedules after an activation (03 R46). -/
theorem Eds.common_activate {e x : Eds} {sec : RowSec} (h : x.common = (e.activate sec).common) :
    x.active = (if e.armed then e.pend else e.active) ∧ x.pend = e.pend ∧ x.armed = false
    ∧ x.lastAct = (if e.armed then some sec else e.lastAct) := by
  have hact : (e.activate sec).common =
      (if e.armed then e.pend else e.active, e.pend, false, if e.armed then some sec else e.lastAct, e.compStep) := by
    unfold Eds.activate Eds.common
    cases ha : e.armed with
    | true => rfl
    | false => simp [ha]
  rw [hact] at h
  unfold Eds.common at h
  simp only [Prod.mk.injEq] at h
  obtain ⟨hactive, hpend, harmed, hlast, -⟩ := h
  exact ⟨hactive, hpend, harmed, hlast⟩

/-- Settles O17: the boundary is taken apart into each port's path through its work, on which a DOWN port keeps what it has and
any other has its compensation moved and its cycle 0 worked before or after the move, never both. -/
theorem boundaryAppliesStagedWorkAndMovesCompensation : Obligations.BoundaryAppliesStagedWorkAndMovesCompensation := by
  intro s d rec hh _ hi hperm u hm
  have hu : s.runTicks s.ticksToRoll = u := rfl
  clear_value u
  obtain ⟨t, st, r, f, hexec, h⟩ := exec_secondBoundary_boundary hu hh hi hm d rec
  obtain ⟨hcycle, hstaged, heds⟩ := h.common
  obtain ⟨hactive, hpend, harmed, hlast⟩ := Eds.common_activate heds
  refine ⟨t, hexec, hactive, hpend, harmed, hlast, hcycle, hstaged, fun p => ?_⟩
  rw [h.stepped_eq]
  have hdown := h.down p
  have hup := h.up p hperm
  refine ⟨h.landed_again p, h.noted p, ?_, ?_, fun hd => (hdown hd).1, fun hd => ?_⟩
  · by_cases hd : (s.port p).state = .down
    · obtain ⟨-, hcomp, -⟩ := hdown hd
      rw [if_pos hd, hcomp]
    · obtain ⟨hcomp, -⟩ := hup hd
      rw [if_neg hd, hcomp, moveToward_eq, compTarget_ns]
  · by_cases hd : (s.port p).state = .down
    · obtain ⟨-, -, hbelow⟩ := hdown hd
      rw [if_pos hd, hbelow]
    · obtain ⟨-, hbelow, -⟩ := hup hd
      rw [if_neg hd, hbelow]
  · obtain ⟨-, -, hport⟩ := hup hd
    have hearly := State.earlyPort_state (s := r) (p := p) (sec := u.tsu.ts.sec) (st := st) (b := rec.getLsbD p)
      (State.Boundary.view s t d p) u.clk.tickFrom.ns ((h.port_start p).1 ▸ hd) (h.view_viewOf p).port
    rw [h.rolledPort_eq p hearly, h.earlyPort_eq p hd] at hport
    exact hport

end Sys2Proof.Machine
end

section
/-! PROOFS. Verdicts: what one makes of the slot and the counters, and how a boundary judges it (02 R22 to R25, R28). -/
namespace Sys2Proof.Machine

/-! ### The slot and the counters (02 R22, R24, R25) -/

/-- The statements' count of a cause is the model's. -/
theorem RefCounters.count_eq (c : RefCounters) (k : Cause) : c.count k = causeCounted c k := by
  cases k <;> rfl

/-- A verdict's entry into the slot: the slot by 02 R25, and the superseded counter where one was there. -/
theorem InputRec.enterSlot_eq (r : InputRec) (v : Verdict) : r.enterSlot v =
    { r with
      slot := slotAfter r v
      ctr := if r.slot = none then r.ctr else { r.ctr with superseded := bump r.ctr.superseded } } := by
  unfold InputRec.enterSlot slotAfter
  cases h : r.slot with
  | none => rfl
  | some w =>
    simp only [reduceCtorEq, if_false]
    split
    · rw [← h]
    · rfl

theorem slotAfter_of_empty {r : InputRec} (v : Verdict) (h : r.slot = none) : slotAfter r v = some v := by
  simp only [slotAfter, h]

/-- A slot that holds a GOOD verdict takes any other. -/
theorem slotAfter_of_held_good {r : InputRec} {w : Verdict} (v : Verdict) (h : r.slot = some w) (hw : w.cause = .good) :
    slotAfter r v = some v := by
  simp [slotAfter, h, hw]

/-- A BAD verdict always takes the slot. -/
theorem slotAfter_of_bad (r : InputRec) {v : Verdict} (h : v.cause ≠ .good) : slotAfter r v = some v := by
  unfold slotAfter
  split
  · rfl
  · exact if_neg fun k => h k.2

/-- A GOOD verdict does not displace a BAD one. -/
theorem slotAfter_of_kept {r : InputRec} {v w : Verdict} (h : r.slot = some w) (hw : w.cause ≠ .good) (hv : v.cause = .good) :
    slotAfter r v = r.slot := by
  simp [slotAfter, h, hw, hv]

/-! ### The slot at a boundary (02 R28) -/

theorem InputRec.slotRead_of_none {r : InputRec} (h : r.slot = none) : r.slotRead = .empty := by
  simp only [InputRec.slotRead, h]

theorem InputRec.slotRead_of_good {r : InputRec} {v : Verdict} (h : r.slot = some v) (hv : v.cause = .good) :
    r.slotRead = .good := by
  simp [InputRec.slotRead, h, hv]

theorem InputRec.slotRead_of_bad {r : InputRec} {v : Verdict} (h : r.slot = some v) (hv : v.cause ≠ .good) :
    r.slotRead = .bad := by
  simp [InputRec.slotRead, h, hv]

theorem InputRec.slotRead_eq_good_iff (r : InputRec) :
    r.slotRead = .good ↔ ∃ v : Verdict, r.slot = some v ∧ v.cause = .good := by
  cases h : r.slot with
  | none => simp [InputRec.slotRead_of_none h]
  | some v =>
    by_cases hv : v.cause = .good
    · simp [InputRec.slotRead_of_good h hv, hv]
    · simp [InputRec.slotRead_of_bad h hv, hv]

/-- CHECKING: GOOD slots run up to 4 and qualify, a BAD one sets the run back, an empty one does nothing. -/
theorem InputRec.judgeSlot_checking {r : InputRec} (h : r.state = .checking) : r.judgeSlot =
    match r.slotRead with
    | .good => if 3 ≤ r.goodRun then { r with state := .qualified, goodRun := 0, badRun := 0 }
        else { r with goodRun := r.goodRun + 1 }
    | .bad => { r with goodRun := 0 }
    | .empty => r := by
  unfold InputRec.judgeSlot
  rw [h]
  cases r.slotRead with
  | good => exact if_congr (by omega) rfl rfl
  | bad => rfl
  | empty => rfl

/-- QUALIFIED: BAD slots run up to 2 and disqualify, a GOOD one ends their run, an empty one does nothing. -/
theorem InputRec.judgeSlot_qualified {r : InputRec} (h : r.state = .qualified) : r.judgeSlot =
    match r.slotRead with
    | .good => { r with badRun := 0 }
    | .bad => if 1 ≤ r.badRun then { r with state := .disqualified, badRun := 0, holdOff := 16 }
        else { r with badRun := r.badRun + 1 }
    | .empty => r := by
  unfold InputRec.judgeSlot
  rw [h]
  cases r.slotRead with
  | good => rfl
  | bad => exact if_congr (by omega) rfl rfl
  | empty => rfl

/-- DISQUALIFIED: the hold-off is taken down before the slot is looked at, and a GOOD slot at 0 ends the state. -/
theorem InputRec.judgeSlot_disqualified {r : InputRec} (h : r.state = .disqualified) : r.judgeSlot =
    if r.slotRead = .good ∧ r.holdOff ≤ 1 then { r with state := .checking, goodRun := 1, holdOff := 0 }
    else { r with holdOff := r.holdOff - 1 } := by
  unfold InputRec.judgeSlot
  rw [h]
  cases r.slotRead with
  | good => exact if_congr (by simp; omega) rfl rfl
  | bad => exact (if_neg (by simp)).symm
  | empty => exact (if_neg (by simp)).symm

/-! ### Sixteen boundaries in DISQUALIFIED -/

theorem judgeRun_append (r : InputRec) (xs ys : List (Option Verdict)) :
    judgeRun r (xs ++ ys) = judgeRun (judgeRun r xs) ys :=
  List.foldl_append

/-- While a hold-off above the number of boundaries runs, whatever the slots, the input stays DISQUALIFIED. -/
theorem judgeRun_disqualified (slots : List (Option Verdict)) {r : InputRec} (h : r.state = .disqualified)
    (hn : slots.length < r.holdOff) :
    (judgeRun r slots).state = .disqualified ∧ (judgeRun r slots).holdOff = r.holdOff - slots.length := by
  induction slots generalizing r with
  | nil => exact ⟨h, rfl⟩
  | cons v slots ih =>
    rw [List.length_cons] at hn
    have step : { r with slot := v }.judgeSlot = { r with slot := v, holdOff := r.holdOff - 1 } :=
      (InputRec.judgeSlot_disqualified (r := { r with slot := v }) h).trans (if_neg fun k => by
        obtain ⟨-, hk⟩ := k
        simp only at hk
        omega)
    have run : judgeRun r (v :: slots) = judgeRun { r with slot := v, holdOff := r.holdOff - 1 } slots :=
      congrArg (judgeRun · slots) step
    obtain ⟨hs, hh⟩ := ih (r := { r with slot := v, holdOff := r.holdOff - 1 }) h (by simp only; omega)
    rw [run]
    exact ⟨hs, by rw [hh, List.length_cons]; simp only; omega⟩

/-- Settles O28: the slot by R25, the table of R28 state by state, and fifteen boundaries by induction. -/
theorem inputsAreJudgedByTheirSlots : Obligations.InputsAreJudgedByTheirSlots := by
  refine ⟨?_, ?_, ?_, ?_, ?_, ?_⟩
  · intro r v more
    rw [InputRec.enterSlot_eq]
    have held : ∀ {w : Verdict}, r.slot = some w → (if r.slot = none then r.ctr else more) = more := fun h => by simp [h]
    refine ⟨fun h => ?_, fun w h hw => ?_, fun w h _ hv => ?_, fun w h hw hv => ?_⟩
    · rw [slotAfter_of_empty v h, if_pos h]
    · rw [slotAfter_of_held_good v h hw, held h]
    · rw [slotAfter_of_bad r hv, held h]
    · rw [slotAfter_of_kept h hw hv, held h]
  · intro r gen elapsed sec i
    rw [Ref.boundary_input]
    exact ⟨rfl, rfl⟩
  · intro r v hv x
    have read : ({ r with slot := some v } : InputRec).slotRead = .good := InputRec.slotRead_of_good rfl hv
    refine ⟨fun h hrun => ?_, fun h hrun => ?_, fun h => ?_⟩
    · rw [show x = _ from InputRec.judgeSlot_checking h, read]
      rw [if_neg (not_le.mpr hrun)]
      exact ⟨h, rfl⟩
    · rw [show x = _ from InputRec.judgeSlot_checking h, read]
      rw [if_pos hrun]
      exact ⟨rfl, rfl, rfl⟩
    · rw [show x = _ from InputRec.judgeSlot_qualified h, read]
      exact ⟨h, rfl⟩
  · intro r v hv x
    have read : ({ r with slot := some v } : InputRec).slotRead = .bad := InputRec.slotRead_of_bad rfl hv
    refine ⟨fun h => ?_, fun h hrun => ?_, fun h hrun => ?_⟩
    · rw [show x = _ from InputRec.judgeSlot_checking h, read]
      exact ⟨h, rfl⟩
    · rw [show x = _ from InputRec.judgeSlot_qualified h, read]
      rw [if_neg (show ¬1 ≤ r.badRun by omega), hrun]
      exact ⟨h, rfl⟩
    · rw [show x = _ from InputRec.judgeSlot_qualified h, read]
      rw [if_pos hrun]
      exact ⟨rfl, rfl, rfl⟩
  · intro r
    refine ⟨fun h => InputRec.judgeSlot_idle h.symm, fun hs h => ?_, fun h hg hh => ?_, fun h hg => ?_⟩
    · have read := InputRec.slotRead_of_none hs
      rcases h with h | h
      · rw [InputRec.judgeSlot_checking h, read]
      · rw [InputRec.judgeSlot_qualified h, read]
    · rw [InputRec.judgeSlot_disqualified h, if_pos ⟨r.slotRead_eq_good_iff.mpr hg, hh⟩]
      exact ⟨rfl, rfl⟩
    · rw [InputRec.judgeSlot_disqualified h, if_neg]
      rintro ⟨hread, hh⟩
      obtain ⟨v, hv, hgood⟩ := r.slotRead_eq_good_iff.mp hread
      rcases hg with hg | hg
      · exact hg v hv hgood
      · omega
  · intro r slots h hh
    refine ⟨fun hn => (judgeRun_disqualified slots h (by omega)).1, fun v hn hv => ?_⟩
    obtain ⟨hstate, hhold⟩ := judgeRun_disqualified slots h (by omega)
    have read : ({ judgeRun r slots with slot := some v } : InputRec).slotRead = .good := InputRec.slotRead_of_good rfl hv
    have last : judgeRun r (slots ++ [some v]) =
        { judgeRun r slots with slot := some v, state := .checking, goodRun := 1, holdOff := 0 } := by
      rw [judgeRun_append]
      exact (InputRec.judgeSlot_disqualified (r := { judgeRun r slots with slot := some v }) hstate).trans
        (if_pos ⟨read, by simp only; omega⟩)
    rw [last]
    exact ⟨rfl, rfl⟩

end Sys2Proof.Machine
end

section
/-! PROOFS. Pulses, messages and expiries of a reference input (02 R20 to R24). -/
namespace Sys2Proof.Machine

/-! ### An observation closes (02 R22, R23) -/

theorem InputRec.judge_none (r : InputRec) (o : Obs) :
    r.judge o none = if o.badInterval r.set.tol then .interval else .noMessage := rfl

theorem InputRec.judge_none_bad (r : InputRec) (o : Obs) : r.judge o none ≠ .good := by
  rw [InputRec.judge_none]
  split <;> decide

/-- The order of 02 R22 with a message. -/
theorem InputRec.judge_some (r : InputRec) (o : Obs) (m : RefMessage) : r.judge o (some m) =
    if o.badInterval r.set.tol then .interval
    else if m.sumGood = false then .checksum
    else if 2 < m.warn.toNat then .content
    else if r.expected ≠ none ∧ r.expected ≠ some m.sec then .sequence
    else if r.set.qmax < m.quality then .quality
    else .good := by
  have hsum : (!m.sumGood) = true ↔ m.sumGood = false := by simp
  have hleap : m.leap.isNone = true ↔ 2 < m.warn.toNat := by
    rw [RefMessage.leap_eq]
    split_ifs <;> simp [*]
  have hseq : (r.expected.isSome && r.expected != some m.sec) = true ↔ r.expected ≠ none ∧ r.expected ≠ some m.sec := by
    simp [Option.isSome_iff_ne_none]
  unfold InputRec.judge
  simp only [hsum, hleap, hseq]

/-- The counters of an input whose cause is counted before its verdict enters the slot. -/
theorem RefCounters.count_then_superseded (r : InputRec) (k : Cause) :
    (if r.slot = none then r.ctr.count k else { r.ctr.count k with superseded := bump (r.ctr.count k).superseded }) =
      verdictCounted r k := by
  rw [RefCounters.count_eq]
  rfl

/-- An observation closed without a good message: its verdict carries neither an error nor a message, and a set expected
second moves on. -/
theorem InputRec.close_of_unmessaged (r : InputRec) (o : Obs) {m : Option RefMessage}
    (h : m.filter (·.sumGood) = none) : r.close o m =
      { r with
        obs := none
        cause := r.judge o m
        slot := slotAfter r ⟨r.judge o m, o.gen, none, none⟩
        expected := r.expected.map (· + 1)
        ctr := verdictCounted r (r.judge o m) } := by
  unfold InputRec.close
  simp only [h, InputRec.enterSlot_eq, ← RefCounters.count_then_superseded]
  rfl

/-- An observation closed by a message of good checksum: it becomes the last message, gives the phase error, and sets the
expected second. -/
theorem InputRec.close_of_sumGood (r : InputRec) (o : Obs) {m : RefMessage} (h : m.sumGood = true) :
    r.close o (some m) =
      { r with
        obs := none
        cause := r.judge o (some m)
        slot := slotAfter r ⟨r.judge o (some m), o.gen, some (phaseError o.cap m.sec r.set.cable), some m⟩
        expected := some (m.sec + 1)
        msg := some m
        err := some (phaseError o.cap m.sec r.set.cable)
        ctr := verdictCounted r (r.judge o (some m)) } := by
  have hm : (some m).filter (·.sumGood) = some m := by simp [h]
  unfold InputRec.close
  simp only [hm, InputRec.enterSlot_eq, ← RefCounters.count_then_superseded]
  rfl

/-- An open observation closed without a message has a BAD verdict, which takes the slot. -/
theorem InputRec.closeOpen_of_obs {r : InputRec} {o : Obs} (h : r.obs = some o) : r.closeOpen =
    { r with
      obs := none
      cause := r.judge o none
      slot := some ⟨r.judge o none, o.gen, none, none⟩
      expected := r.expected.map (· + 1)
      ctr := verdictCounted r (r.judge o none) } := by
  have hc : r.closeOpen = r.close o none := by simp only [InputRec.closeOpen, h]
  rw [hc, r.close_of_unmessaged o rfl, slotAfter_of_bad r (r.judge_none_bad o)]

theorem InputRec.closeOpen_of_none {r : InputRec} (h : r.obs = none) : r.closeOpen = r := by
  simp only [InputRec.closeOpen, h]

/-! ### Pulses (02 R20) -/

theorem InputState.watched_ne_absent {st : InputState} (h : st.watched = true) : st ≠ .absent := by
  rintro rfl
  cases h

/-- A pulse in a state whose seconds are judged: what is open closes, then the pulse's observation opens. -/
theorem InputRec.takePulse_of_watched {r : InputRec} (h : r.state.watched = true) (cap : Time) (gen : Gen) (stamp : Nat) :
    r.takePulse cap gen stamp = r.closeOpen.openObs cap gen stamp := by
  unfold InputRec.takePulse
  cases hs : r.state with
  | off => rw [hs] at h; cases h
  | absent => rw [hs] at h; cases h
  | checking => rfl
  | qualified => rfl
  | disqualified => rfl

theorem InputRec.takePulse_of_off {r : InputRec} (h : r.state = .off) (cap : Time) (gen : Gen) (stamp : Nat) :
    r.takePulse cap gen stamp = r := by
  simp only [InputRec.takePulse, h]

theorem InputRec.takePulse_of_absent {r : InputRec} (h : r.state = .absent) (cap : Time) (gen : Gen) (stamp : Nat) :
    r.takePulse cap gen stamp = { r with state := .checking, goodRun := 0 }.openObs cap gen stamp := by
  simp only [InputRec.takePulse, h]

section Commands

variable {s : State} {i : Input}

/-- A pulse at an input that is not ABSENT raises nothing. -/
theorem exec_referencePulse (hh : s.mlc.held = false) (h : (s.input i).state ≠ .absent) :
    exec (.referencePulse i) s =
      .next (s.setInput i ((s.input i).takePulse s.now s.tsu.gen s.clk.elapsed)) :=
  (if_neg (by simp [hh])).trans (congrArg _ (if_neg h))

/-- A pulse at an ABSENT input raises the REF notice of its entry to CHECKING. -/
theorem exec_referencePulse_absent (hh : s.mlc.held = false) (h : (s.input i).state = .absent) :
    exec (.referencePulse i) s =
      .next (let t := s.setInput i ((s.input i).takePulse s.now s.tsu.gen s.clk.elapsed)
        t.raiseNotice (.ref i) (t.ref.noticeOf i)) :=
  (if_neg (by simp [hh])).trans (congrArg _ (if_pos h))

/-- Settles O24: the pulse by the input's state, and in the judged states by whether an observation is open. -/
theorem pulseOpensAnObservation : Obligations.PulseOpensAnObservation := by
  intro s i hh r interval exempt obs pulse
  refine ⟨fun h => ?_, fun h => ?_, fun h ho => ?_, fun o h ho => ?_⟩
  · rw [exec_referencePulse hh (by rw [show (s.input i).state = .off from h]; decide), InputRec.takePulse_of_off h,
      State.setInput_self]
  · rw [exec_referencePulse_absent hh h, InputRec.takePulse_of_absent h]
    refine congrArg _ (congrArg (State.raiseNotice _ _) ?_)
    cases i <;> rfl
  · rw [exec_referencePulse hh (InputState.watched_ne_absent h), InputRec.takePulse_of_watched h,
      InputRec.closeOpen_of_none ho]
    rfl
  · rw [exec_referencePulse hh (InputState.watched_ne_absent h), InputRec.takePulse_of_watched h,
      InputRec.closeOpen_of_obs ho]
    exact ⟨_, rfl, rfl, rfl, rfl, rfl, rfl, rfl, rfl, rfl, rfl, rfl⟩

/-! ### Messages (02 R21 to R23) -/

theorem exec_messageArrival (hh : s.mlc.held = false) (body : Vector Byte 18) :
    exec (.messageArrival i body) s = .next (s.setInput i ((s.input i).takeMessage (refMessage body.toList))) :=
  if_neg (by simp [hh])

theorem InputRec.takeMessage_of_off {r : InputRec} (h : r.state = .off) (m : RefMessage) :
    r.takeMessage m = { r with assembling := [] } := if_pos h

theorem InputRec.takeMessage_of_stray {r : InputRec} (h : r.state ≠ .off) (ho : r.obs = none) (m : RefMessage) :
    r.takeMessage m = { r with assembling := [], ctr := { r.ctr with stray := bump r.ctr.stray } } := by
  unfold InputRec.takeMessage
  rw [if_neg h]
  simp only [ho]

theorem InputRec.takeMessage_of_obs {r : InputRec} {o : Obs} (h : r.state ≠ .off) (ho : r.obs = some o) (m : RefMessage) :
    r.takeMessage m = { r with assembling := [] }.close o (some m) := by
  unfold InputRec.takeMessage
  rw [if_neg h]
  simp only [ho]

/-- Settles O25: the closing verdict by `judge_some`, what it leaves by the message's checksum. -/
theorem messageClosesTheObservation : Obligations.MessageClosesTheObservation := by
  intro s i body hh r m
  refine ⟨fun h => ?_, fun h ho => ?_, fun o h ho => ?_⟩ <;> rw [exec_messageArrival hh]
  · rw [InputRec.takeMessage_of_off h]
  · rw [InputRec.takeMessage_of_stray h ho]
  · rw [InputRec.takeMessage_of_obs h ho]
    have cause := InputRec.judge_some { r with assembling := [] } o m
    cases hm : m.sumGood with
    | true =>
      rw [InputRec.close_of_sumGood _ o hm]
      exact ⟨_, rfl, rfl, rfl, rfl, rfl, rfl, by simpa [hm] using cause, fun _ => ⟨rfl, rfl, rfl⟩, nofun, rfl, rfl⟩
    | false =>
      have hf : (some m).filter (·.sumGood) = none := by simp [hm]
      rw [InputRec.close_of_unmessaged _ o hf]
      exact ⟨_, rfl, rfl, rfl, rfl, rfl, rfl, by simpa [hm] using cause, nofun, fun _ => ⟨rfl, rfl, rfl⟩, rfl, rfl⟩

end Commands
end Sys2Proof.Machine
end

section
/-! PROOFS. What ticks end of a message in assembly, and the two expiries of a reference input (02 R21, R24). -/
namespace Sys2Proof.Machine

section Expiries

variable {s t : State} {i : Input}

/-! ### Ticks and an input's record -/

/-- Ticks leave an input's record, but for a message in assembly that they abandon. -/
theorem State.runTicks_input (s : State) (n : Nat) (i : Input) :
    (s.runTicks n).input i = s.input i ∨ (s.runTicks n).input i = (s.input i).abandon := by
  obtain ⟨v, c, a, b, rx, k, e, ha, hb, -⟩ := s.runTicks_eq n
  rw [e]
  cases i with
  | a => exact ha
  | b => exact hb

theorem State.reachElapsed_input {stamp ns : Nat} (h : s.reachElapsed stamp ns = some t) (i : Input) :
    t.input i = s.input i ∨ t.input i = (s.input i).abandon := by
  obtain ⟨n, rfl⟩ := s.reachElapsed_eq h
  exact s.runTicks_input n i

/-! ### The expiries (02 R24) -/

/-- The window's expiry with the wait for its instant a variable: with `State.reachElapsed` itself there the kernel would
evaluate its ticks. -/
theorem messageWindow_of_reached (wait : State → Nat → Nat → Option State) (hh : s.mlc.held = false) {o : Obs}
    (ho : (s.input i).obs = some o) (ht : wait s o.stamp 600000000 = some t) :
    (if s.mlc.held then (.next s : Outcome)
      else match (s.input i).obs with
        | none => .next s
        | some o =>
          match wait s o.stamp 600000000 with
          | none => .next s
          | some t => .next (t.setInput i (t.input i).closeOpen)) =
      .next (t.setInput i (t.input i).closeOpen) := by
  refine (if_neg (by simp [hh])).trans ?_
  simp only [ho, ht]

theorem exec_messageWindowExpiry (hh : s.mlc.held = false) {o : Obs} (ho : (s.input i).obs = some o)
    (ht : s.reachElapsed o.stamp 600000000 = some t) :
    exec (.messageWindowExpiry i) s = .next (t.setInput i (t.input i).closeOpen) := by
  have e : exec (.messageWindowExpiry i) s = execMessageWindowExpiry i s := rfl
  rw [e]
  unfold execMessageWindowExpiry
  exact messageWindow_of_reached State.reachElapsed hh ho ht

theorem exec_missingPulseExpiry (hh : s.mlc.held = false) {p : Pulse} (hw : (s.input i).state.watched = true)
    (ho : (s.input i).obs = none) (hp : (s.input i).pulse = some p)
    (ht : s.reachElapsed p.stamp (((s.input i).missed + 1) * nsPerSec + p.tol) = some t) :
    exec (.missingPulseExpiry i) s = .next (t.setInput i ((t.input i).missPulse p.gen)) := by
  refine (if_neg (by simp [hh])).trans ?_
  simp only [hp, hw, ho, ht, Option.isNone_none, Bool.and_self, if_true]

/-- A missing pulse gives a BAD verdict, which takes the slot, of the generation handed in. -/
theorem InputRec.missPulse_eq (r : InputRec) (gen : Gen) : r.missPulse gen =
    { r with
      missed := r.missed + 1
      expected := r.expected.map (· + 1)
      cause := .missingPulse
      slot := some ⟨.missingPulse, gen, none, none⟩
      ctr := verdictCounted r .missingPulse } := by
  have hbad : ∀ x : InputRec, slotAfter x ⟨.missingPulse, gen, none, none⟩ = some ⟨.missingPulse, gen, none, none⟩ :=
    fun x => slotAfter_of_bad x nofun
  unfold InputRec.missPulse
  rw [InputRec.enterSlot_eq, hbad, ← RefCounters.count_then_superseded]

/-- Settles O27: at the tick reached the record is as it was, or without the message in assembly, which neither expiry
reads. -/
theorem referenceExpiriesGiveBadVerdicts : Obligations.ReferenceExpiriesGiveBadVerdicts := by
  intro s t i hh r
  refine ⟨fun o ho ht => ?_, fun p hw ho hp ht => ?_⟩
  · rw [exec_messageWindowExpiry hh ho ht]
    have hto : (t.input i).obs = some o := by
      rcases State.reachElapsed_input ht i with e | e <;> rw [e] <;> exact ho
    rw [InputRec.closeOpen_of_obs hto]
    rcases State.reachElapsed_input ht i with e | e <;> rw [e] <;>
      exact ⟨_, rfl, rfl, rfl, rfl, rfl, rfl, rfl, rfl, rfl, rfl, rfl⟩
  · rw [exec_missingPulseExpiry hh hw ho hp ht, InputRec.missPulse_eq]
    rcases State.reachElapsed_input ht i with e | e <;> rw [e] <;>
      exact ⟨_, rfl, rfl, rfl, rfl, rfl, rfl, rfl, rfl, rfl, rfl, ho⟩

end Expiries
end Sys2Proof.Machine
end

section
/-! PROOFS. The bytes of a message line and the gap after them (02 R21). -/
namespace Sys2Proof.Machine

section Bytes

variable {s u : State} {i : Input}

/-! ### A byte at an input's record -/

section Record

variable {r : InputRec} {b : SerialByte} (n : Nat)

/-- A byte whose start bit was not noted is not taken. -/
theorem InputRec.sampleTod_of_unnoted (h : r.inByte = false) : r.sampleTod n ⟨some b, false⟩ = r := by
  simp [InputRec.sampleTod, h]

theorem InputRec.sampleTod_of_noted (h : r.inByte = true) :
    r.sampleTod n ⟨some b, false⟩ = { r with inByte := false }.todByte n b := by
  simp [InputRec.sampleTod, h]

/-- A start byte begins a message. -/
theorem InputRec.todByte_begins (h : r.assembling = []) (hs : b.stopHigh = true) (hb : b.value = 0x3C) :
    r.todByte n b = { r with assembling := [0x3C], lastTick := n } := by
  simp [InputRec.todByte, h, hs, hb]

/-- Any other byte outside a message is discarded. -/
theorem InputRec.todByte_discards (h : r.assembling = []) (hb : b.stopHigh = false ∨ b.value ≠ 0x3C) :
    r.todByte n b = r := by
  unfold InputRec.todByte
  rw [h]
  exact if_neg (by simpa using fun hs => hb.resolve_left (by simp [hs]))

theorem InputRec.todByte_abandons (h : r.assembling ≠ []) (hs : b.stopHigh = false) : r.todByte n b = r.abandon := by
  obtain ⟨x, xs, hx⟩ := List.exists_cons_of_ne_nil h
  simp [InputRec.todByte, hx, hs]

theorem InputRec.todByte_joins (h : r.assembling ≠ []) (hs : b.stopHigh = true) (hl : r.assembling.length < 18) :
    r.todByte n b = { r with assembling := r.assembling ++ [b.value], lastTick := n } := by
  obtain ⟨x, xs, hx⟩ := List.exists_cons_of_ne_nil h
  rw [hx, List.length_cons] at hl
  simp [InputRec.todByte, hx, hs, show xs.length < 17 by omega]

/-- The last byte completes the message. -/
theorem InputRec.todByte_completes (h : r.assembling ≠ []) (hs : b.stopHigh = true) {body : Vector Byte 18}
    (hb : r.assembling.drop 1 ++ [b.value] = body.toList) : r.todByte n b = r.takeMessage (refMessage body.toList) := by
  obtain ⟨x, xs, hx⟩ := List.exists_cons_of_ne_nil h
  rw [hx, List.drop_one, List.tail_cons] at hb
  have hl : xs.length = 17 := by
    have := congrArg List.length hb
    simp at this
    omega
  simp [InputRec.todByte, hx, hs, hl, hb]

end Record

/-! ### A byte at an oscillator tick -/

theorem State.runTicks_held (s : State) (n : Nat) : (s.runTicks n).mlc.held = s.mlc.held := by
  obtain ⟨v, c, a, b, rx, k, e, -⟩ := s.runTicks_eq n
  rw [e]
  rfl

/-- The samples of a tick at which one message line alone shows something. -/
theorem State.samplePins_tod {x : Pins} {z : SerialLine} (hs : u.stl.hstb = some x.hstb) (hr : x.linkRx = ⟨none, false⟩)
    (hl : ∀ l : Line, (u.line l).sample = x.lines.getLsbD l.val)
    (hz : i = .a ∧ x.todA = z ∧ x.todB = ⟨none, false⟩ ∨ i = .b ∧ x.todB = z ∧ x.todA = ⟨none, false⟩)
    (ht : u.clk.taken = []) :
    u.samplePins x = u.sampled.setInput i ((u.input i).sampleTod u.clk.ticks z) := by
  have lines : (allLines.foldl (fun s l => s.sampleLine l (x.lines.getLsbD l.val)) (u.note .pins)).sampleHstb x.hstb
      = u.sampled := by
    rw [foldl_sampleLine_same (s := u.note .pins) _ fun l _ => hl l, State.sampleHstb_same (u.note .pins) hs,
      ← State.sampled_of_free ht]
    rfl
  unfold State.samplePins
  simp only [lines, hr, State.sampleLink_nothing]
  rcases hz with ⟨rfl, ha, hb⟩ | ⟨rfl, hb, ha⟩ <;> rw [ha, hb, State.sampleTod_nothing] <;> rfl

/-- A tick at which one message line alone shows something, `u` being the state that the ticks lead to. -/
theorem exec_oscillatorTick_tod {n : Nat} {x : Pins} {z : SerialLine} (hh : s.mlc.held = false) (hn : n + 1 < s.ticksToRoll)
    (hs : s.stl.hstb = some x.hstb) (hr : x.linkRx = ⟨none, false⟩)
    (hl : ∀ l : Line, (s.line l).sample = x.lines.getLsbD l.val)
    (hz : i = .a ∧ x.todA = z ∧ x.todB = ⟨none, false⟩ ∨ i = .b ∧ x.todB = z ∧ x.todA = ⟨none, false⟩)
    (hu : s.runTicks (n + 1) = u) :
    exec (.oscillatorTick n x) s = .next (u.sampled.setInput i ((u.input i).sampleTod u.clk.ticks z)) := by
  obtain ⟨hstl, hlines⟩ := s.runTicks_pins (n + 1)
  have htaken : (s.runTicks (n + 1)).clk.taken = [] := by rw [State.runTicks_clk]
  have hline : ∀ l : Line, ((s.runTicks (n + 1)).line l).sample = x.lines.getLsbD l.val := fun l => by
    rw [State.line, hlines]
    exact hl l
  rw [exec_oscillatorTick hh hn, State.samplePins_tod (by rw [hstl, hs]) hr hline hz htaken, hu]

/-! ### The gap -/

theorem State.gapTimeout_of_idle (h : (s.input i).assembling = []) : s.gapTimeout i = s :=
  if_neg (by simp [InputRec.gapPassed, h])

theorem State.gapTimeout_of_passed (h : (s.input i).gapPassed s.clk.ticks = true) :
    s.gapTimeout i = s.setInput i (s.input i).abandon := if_pos h

theorem State.linkTimeout_of_hunt (h : s.mlc.rx.phase = .hunt) : s.linkTimeout = s :=
  if_neg (by simp [Receiver.gapPassed, h])

/-- A tick at which one input's message alone is overdue abandons that message. -/
theorem State.lapse_of_passed (h : (s.input i).gapPassed s.clk.ticks = true)
    (hj : ∀ j : Input, j ≠ i → (s.input j).assembling = []) (hl : s.mlc.rx.phase = .hunt) :
    s.lapse = s.setInput i (s.input i).abandon := by
  have hlink : (s.setInput i (s.input i).abandon).linkTimeout = s.setInput i (s.input i).abandon :=
    State.linkTimeout_of_hunt hl
  unfold State.lapse
  cases i with
  | a =>
    have hb : ((s.setInput .a (s.input .a).abandon).input .b).assembling = [] := by
      rw [State.input_setInput]
      exact hj .b (by decide)
    rw [State.gapTimeout_of_passed h, State.gapTimeout_of_idle hb, hlink]
  | b => rw [State.gapTimeout_of_idle (hj .a (by decide)), State.gapTimeout_of_passed h, hlink]

/-- The advance of time leaves REF and the link. -/
theorem State.advance_keeps (s : State) (n : Nat) : (s.advance n).ref = s.ref ∧ (s.advance n).mlc = s.mlc := by
  obtain ⟨v, c, e⟩ := s.advance_eq n
  rw [e]
  exact ⟨rfl, rfl⟩

/-- The ticks up to a gap's end, when only that input has anything in assembly. -/
theorem State.runTicks_to_gap {n : Nat} (hb : (s.input i).inByte = false) (hne : (s.input i).assembling ≠ [])
    (hj : ∀ j : Input, j ≠ i → (s.input j).assembling = []) (hl : s.mlc.rx.phase = .hunt)
    (hn : s.clk.ticks + (n + 1) = (s.input i).lastTick + 250001) :
    s.runTicks (n + 1) = (s.advance n).setInput i (s.input i).abandon := by
  obtain ⟨href, hmlc⟩ := s.advance_keeps n
  have hinput : ∀ j : Input, (s.advance n).input j = s.input j := fun j => congrArg (Ref.input · j) href
  have hticks : (s.advance n).clk.ticks = s.clk.ticks + (n + 1) := rfl
  have hp : ((s.advance n).input i).gapPassed (s.advance n).clk.ticks = true := by
    rw [hticks, hinput]
    simp [InputRec.gapPassed, hb, hne, hn]
  have hi : ∀ j : Input, j ≠ i → ((s.advance n).input j).assembling = [] := fun j h => by
    rw [hinput]
    exact hj j h
  rw [State.runTicks_succ, State.lapse_of_passed hp hi (by rw [hmlc, hl]), hinput]

theorem exec_messageFramingError_idle (h : (s.input i).assembling = []) : exec (.messageFramingError i) s = .next s :=
  if_pos (by simp [h])

theorem exec_messageFramingError (hh : s.mlc.held = false) (h : (s.input i).assembling ≠ []) :
    exec (.messageFramingError i) s = .next (s.setInput i { (s.input i).abandon with inByte := false }) :=
  if_neg (by simp [hh, h])

theorem exec_messageGapTimeout_idle (h : (s.input i).assembling = [] ∨ (s.input i).inByte = true) :
    exec (.messageGapTimeout i) s = .next s :=
  if_pos (by rcases h with h | h <;> simp [h])

/-- MESSAGE_GAP_TIMEOUT before its instant, which lies in the second: the ticks up to it abandon the message. -/
theorem exec_messageGapTimeout {n : Nat} (hh : s.mlc.held = false) (hb : (s.input i).inByte = false)
    (hne : (s.input i).assembling ≠ []) (hj : ∀ j : Input, j ≠ i → (s.input j).assembling = [])
    (hl : s.mlc.rx.phase = .hunt) (hn : s.clk.ticks + (n + 1) = (s.input i).lastTick + 250001)
    (hroll : n + 1 < s.ticksToRoll) :
    exec (.messageGapTimeout i) s = .next ((s.advance n).setInput i (s.input i).abandon) := by
  have hreach : s.reachTick ((s.input i).lastTick + longestGap + 1) = some (s.runTicks (n + 1)) := by
    have hd : (s.input i).lastTick + longestGap + 1 - s.clk.ticks = n + 1 := by
      simp only [longestGap]
      omega
    unfold State.reachTick
    rw [if_neg (by omega), hd, if_pos hroll]
  refine (if_neg (by simp [hh, hb, hne])).trans ?_
  rw [hreach, State.runTicks_to_gap hb hne hj hl hn]
  refine congrArg Host.Outcome.next (State.gapTimeout_of_idle ?_)
  rw [State.input_setInput_same]
  rfl

/-- Where there is a tick before the roll, a tick adds something. -/
theorem State.tickUnits_pos {n : Nat} (h : n < s.ticksToRoll) : 0 < s.tickUnits := by
  rw [Nat.pos_iff_ne_zero]
  intro h0
  rw [State.ticksToRoll_eq, h0, ticksFor, Nat.div_zero] at h
  omega

/-- An advance below the roll in the words of the statement: the value stays in its second, the ticks are counted. -/
theorem State.advance_below_roll {n : Nat} (h : n + 1 < s.ticksToRoll) : ∃ (v : Ts) (c : Clock),
    s.advance n = (s.setTsu { s.tsu with ts := v }).setClk c ∧ c.ticks = s.clk.ticks + (n + 1) ∧ v.sec = s.tsu.ts.sec := by
  have hticks : (s.advance n).clk.ticks = s.clk.ticks + (n + 1) := rfl
  have hts : (s.advance n).tsu.ts = s.tsu.ts.advance ((n + 1) * s.tickUnits) := rfl
  have hsec : (s.advance n).tsu.ts.sec = s.tsu.ts.sec := by
    rw [hts]
    exact (Ts.advance_within (State.below_roll (State.tickUnits_pos h) h)).1
  obtain ⟨v, c, e⟩ := s.advance_eq n
  rw [e] at hticks hsec
  exact ⟨v, c, e, hticks, hsec⟩

/-! ### The statement -/

theorem exec_messageArrival_setInput (hu : u.mlc.held = false) (r : InputRec) (body : Vector Byte 18) :
    exec (.messageArrival i body) (u.setInput i r) = .next (u.setInput i (r.takeMessage (refMessage body.toList))) := by
  rw [exec_messageArrival (s := u.setInput i r) hu, State.input_setInput_same]
  cases i <;> rfl

/-- Settles O26: what a line shows reaches the record by `exec_oscillatorTick_tod`; each byte by its place in the message. -/
theorem messageBytesAreAssembledOrAbandoned : Obligations.MessageBytesAreAssembledOrAbandoned := by
  constructor
  · intro s i n x z hh hn hs hr hl hz u r at'
    have hexec := exec_oscillatorTick_tod hh hn hs hr hl hz (u := u) rfl
    have hu : u.mlc.held = false := (s.runTicks_held (n + 1)).trans hh
    clear_value u
    refine ⟨?_, ?_⟩
    · rintro rfl
      exact hexec
    · rintro b rfl
      have noted : r.inByte = true → ∀ y, { r with inByte := false }.todByte u.clk.ticks b = y →
          exec (.oscillatorTick n x) s = .next (at'.setInput i y) := by
        rintro h y rfl
        rw [hexec, InputRec.sampleTod_of_noted _ h]
        rfl
      refine ⟨fun h => ?_, fun h ha => ⟨fun hs hb => ?_, fun hb => ?_⟩,
        fun h ha => ⟨fun hs => ?_, fun hs hl => ?_, fun body hs hb => ?_⟩⟩
      · rw [hexec, InputRec.sampleTod_of_unnoted _ h]
        exact congrArg _ (at'.setInput_self i)
      · exact noted h _ (InputRec.todByte_begins _ ha hs hb)
      · exact noted h _ (InputRec.todByte_discards _ ha hb)
      · exact noted h _ (InputRec.todByte_abandons _ ha hs)
      · exact noted h _ (InputRec.todByte_joins _ ha hs hl)
      · exact (noted h _ (InputRec.todByte_completes (r := { r with inByte := false }) _ ha hs hb)).trans
          (exec_messageArrival_setInput (u := at') hu _ body).symm
  · intro s i hh r
    refine ⟨fun h => ⟨exec_messageFramingError_idle h, exec_messageGapTimeout_idle (.inl h)⟩, fun h => ?_,
      fun h => exec_messageGapTimeout_idle (.inr h), fun hne hb hj hl hticks hroll => ?_⟩
    · rw [exec_messageFramingError hh h]
      rfl
    · obtain ⟨n, hn⟩ : ∃ n, r.lastTick + 250001 - s.clk.ticks = n + 1 := Nat.exists_eq_add_one.mpr (by omega)
      rw [hn] at hroll
      obtain ⟨v, c, e, hc, hv⟩ := State.advance_below_roll hroll
      refine ⟨v, c, by omega, hv, ?_⟩
      rw [exec_messageGapTimeout hh hb hne hj hl (show s.clk.ticks + (n + 1) = r.lastTick + 250001 by omega) hroll, e]
      rfl

end Bytes
end Sys2Proof.Machine
end

section
/-! PROOFS. SET LOOP and SET REFERENCE (02 R36, R39), and the selection (02 R30). -/
namespace Sys2Proof.Machine

section ReferenceRequests

variable {s : State} {r : Req}

/-! ### SET LOOP (02 R39) -/

/-- The codes of a step policy. -/
theorem StepPolicy.ofCode_eq_some {k : Nat} {p : StepPolicy} (h : p.code = k) : StepPolicy.ofCode k = some p := by
  subst h
  cases p <;> rfl

theorem StepPolicy.ofCode_eq_none {k : Nat} (h : 2 < k) : StepPolicy.ofCode k = none := by
  match k, h with
  | k + 3, _ => rfl

theorem actSetLoop_invalid (t : State) (h : 2 < (LoopReq.read r.payload).policy) : actSetLoop r t = .refuse t .invalid := by
  unfold actSetLoop
  simp only [StepPolicy.ofCode_eq_none h]

theorem actSetLoop_accepted (t : State) {p : StepPolicy} (h : p.code = (LoopReq.read r.payload).policy) :
    actSetLoop r t =
      let c := (LoopReq.read r.payload).apply p
      ⟨t.setTsu (t.tsu.configure c), if c = (LoopReq.read r.payload).raw p then .done else .doneClamped, c.bytes⟩ := by
  unfold actSetLoop
  simp only [StepPolicy.ofCode_eq_some h, Result.ofClamp_ne]

/-- A result of a request that is carried out, clamped or not. -/
theorem Result.ite_refuses (c : Prop) [Decidable c] : (if c then Result.done else Result.doneClamped).refuses = false := by
  split <;> rfl

/-- Settles O21: the configuration that the request leaves, and TSU under it. -/
theorem setLoopClampsRatesToTheNewLimit : Obligations.SetLoopClampsRatesToTheNewLimit := by
  intro s r h q fmax lock
  refine ⟨fun hp => ?_, ?_⟩
  · exact congrArg _ (State.serve_refused h (by decide) (actSetLoop_invalid _ hp))
  · intro p hp c asked fLoop
    exact congrArg _ (State.serve_setTsu h (by decide) (·.configure c) (Result.ite_refuses _) (actSetLoop_accepted _ hp))

/-! ### The selection (02 R30) -/

/-- What the selection falls to where none is kept: the preferred input if QUALIFIED, then the other, and else none. -/
def Ref.freshSelection (x : Ref) : Option Input :=
  if (x.input x.preferred).state = .qualified then some x.preferred
  else if (x.input (otherInput x.preferred)).state = .qualified then some (otherInput x.preferred)
  else none

/-- With revertive off a selection that is still QUALIFIED stays. -/
theorem Ref.select_of_kept {x : Ref} {i : Input} (hr : x.revertive = false) (hs : x.sel = some i)
    (hq : (x.input i).state = .qualified) : x.select = some i := by
  simp [Ref.select, hr, hs, hq]

theorem Ref.select_of_not_kept {x : Ref}
    (h : x.revertive = true ∨ ∀ i : Input, x.sel = some i → (x.input i).state ≠ .qualified) :
    x.select = x.freshSelection := by
  unfold Ref.select
  cases hs : x.sel with
  | none => rfl
  | some i =>
    refine if_neg ?_
    rcases h with h | h
    · simp [h]
    · simp [h i hs]

/-! ### SET REFERENCE (02 R36) -/

theorem inputOf_of_gt {k : Nat} (h : 1 < k) : inputOf k = none := by
  match k, h with
  | k + 2, _ => rfl

theorem priorityOf_eq (k : Nat) : priorityOf k = if 1 < k then none else some (if k = 0 then .a else .b) := by
  match k with
  | 0 => rfl
  | 1 => rfl
  | k + 2 => rfl

/-- The settings that SET REFERENCE stages, clamped. -/
def ReferenceReq.settings (q : ReferenceReq) : RefSettings :=
  ⟨q.enable, clampNat 0 1000000 q.cable, clampNat 100 100000 q.tol, clampNat 0 15 q.qmax⟩

/-- REF with a SET REFERENCE staged for an input. -/
def Ref.stage (x : Ref) (i : Input) (q : ReferenceReq) : Ref :=
  { x.setInput i { x.input i with staged := some q.settings } with
    stagedPreferred := some (if q.priority = 0 then .a else .b)
    stagedRevertive := some q.revertive }

theorem actSetReference_invalid (t : State)
    (h : 1 < (ReferenceReq.read r.payload).input ∨ 1 < (ReferenceReq.read r.payload).priority) :
    actSetReference r t = .refuse t .invalid := by
  unfold actSetReference
  rcases h with h | h
  · simp only [inputOf_of_gt h]
  · have hp := (priorityOf_eq (ReferenceReq.read r.payload).priority).trans (if_pos h)
    cases hi : inputOf (ReferenceReq.read r.payload).input with
    | none => simp only [hi]
    | some i => simp only [hi, hp]

theorem actSetReference_accepted (t : State) {i : Input} (hi : inputOf (ReferenceReq.read r.payload).input = some i)
    (hp : (ReferenceReq.read r.payload).priority ≤ 1) :
    actSetReference r t =
      let q := ReferenceReq.read r.payload
      ⟨t.setRef (t.ref.stage i q),
        if q.settings.cable = q.cable ∧ q.settings.tol = q.tol ∧ q.settings.qmax = q.qmax then .done else .doneClamped,
        []⟩ := by
  have hc : ∀ a b c : Prop, [Decidable a] → [Decidable b] → [Decidable c] →
      Result.ofClamp (decide (¬a) || decide (¬b) || decide (¬c)) = if a ∧ b ∧ c then .done else .doneClamped := by
    intro a b c _ _ _
    by_cases ha : a <;> by_cases hb : b <;> by_cases hc : c <;> simp [Result.ofClamp, ha, hb, hc]
  unfold actSetReference
  simp only [hi, priorityOf_eq, if_neg (not_lt.mpr hp)]
  rw [← hc]
  rfl

/-- A request that the hub takes and its block carries out by a new REF record leaves that record and the link concluded. -/
theorem State.serve_setRef {k : ReqKind} (h : s.Takes k r) (hk : k.length ≤ 248) {act : Req → State → Served}
    (f : Ref → Ref) {res : Result} {body : List Byte} (hr : res.refuses = false)
    (ha : ∀ t : State, act r t = ⟨t.setRef (f t.ref), res, body⟩) :
    s.serve k r act = (s.setRef (f s.ref)).concluded (k.code + 0x80) r res body := by
  rw [State.serve_of_takes h hk, ha]
  exact State.conclude_of_update (fun s => s.setRef (f s.ref)) (fun _ _ => rfl) hr h.idle

/-- Settles O29: the selection kept or fallen to, and each input's staging by the one act. -/
theorem setReferenceStagesAndSelectionFollows : Obligations.SetReferenceStagesAndSelectionFollows := by
  refine ⟨fun x => ⟨fun i => Ref.select_of_kept, Ref.select_of_not_kept⟩, ?_⟩
  intro s r h q set res pr
  refine ⟨fun hv => ?_, fun hi hp => ?_, fun hi hp => ?_⟩
  · exact congrArg _ (State.serve_refused h (by decide) (actSetReference_invalid _ hv))
  · exact congrArg _ (State.serve_setRef h (by decide) (·.stage .a q) (Result.ite_refuses _)
      fun t => actSetReference_accepted t (by rw [show (ReferenceReq.read r.payload).input = 0 from hi]; rfl) hp)
  · exact congrArg _ (State.serve_setRef h (by decide) (·.stage .b q) (Result.ite_refuses _)
      fun t => actSetReference_accepted t (by rw [show (ReferenceReq.read r.payload).input = 1 from hi]; rfl) hp)

end ReferenceRequests
end Sys2Proof.Machine
end

section
/-! PROOFS. REF's boundary work (02 R26, R27, R29 to R32, R37). -/
namespace Sys2Proof.Machine

/-! ### Staged settings and absence (02 R27, R37) -/

section Parts

variable {r : InputRec} {elapsed : Nat}

theorem InputRec.applyStaged_of_none (h : r.staged = none) : r.applyStaged = r := by
  simp only [InputRec.applyStaged, h]

/-- Staged settings come into force; one disabled goes OFF with its verdicts, one enabled from OFF is ABSENT. -/
theorem InputRec.applyStaged_of_some {set : RefSettings} (h : r.staged = some set) : r.applyStaged =
    let x := { r with set := set, staged := none }
    if set.enable then if r.state = .off then { x with state := .absent } else x
    else if r.state = .off then x else verdictsGone x .off := by
  simp only [InputRec.applyStaged, h]
  rfl

theorem InputState.watched_iff (st : InputState) :
    st.watched = true ↔ st = .checking ∨ st = .qualified ∨ st = .disqualified := by
  cases st <;> simp [InputState.watched]

/-- Three seconds of elapsed time have passed since the last pulse of an input whose seconds are judged (02 R27). -/
def InputRec.Lost (r : InputRec) (elapsed : Nat) : Prop :=
  ∃ p : Pulse, r.pulse = some p ∧ p.stamp + 3000000000 * 4294967296 ≤ elapsed
    ∧ (r.state = .checking ∨ r.state = .qualified ∨ r.state = .disqualified)

theorem InputRec.checkAbsent_of_lost (h : r.Lost elapsed) : r.checkAbsent elapsed = verdictsGone r .absent := by
  obtain ⟨p, hp, hl, hw⟩ := h
  simp only [InputRec.checkAbsent, hp, (InputState.watched_iff _).mpr hw, Bool.true_and, decide_eq_true_eq]
  exact if_pos hl

theorem InputRec.checkAbsent_of_not_lost (h : ¬r.Lost elapsed) : r.checkAbsent elapsed = r := by
  unfold InputRec.checkAbsent
  cases hp : r.pulse with
  | none => rfl
  | some p =>
    refine if_neg fun k => h ?_
    rw [Bool.and_eq_true, decide_eq_true_eq] at k
    obtain ⟨hw, hl⟩ := k
    exact ⟨p, hp, hl, (InputState.watched_iff _).mp hw⟩

end Parts

/-! ### A verdict as it is reported (02 R31) -/

section Reported

variable {r : InputRec} {gen : Gen} {v : Verdict}

/-- The slot holds a GOOD verdict of the current generation, with its phase error and its message (02 R31, R32). -/
def InputRec.Usable (r : InputRec) (gen : Gen) (e : PhaseErr) (m : RefMessage) : Prop :=
  ∃ v : Verdict, r.slot = some v ∧ v.cause = .good ∧ v.gen = gen ∧ v.err = some e ∧ v.msg = some m

theorem InputRec.reported_of_empty (h : r.slot = none) : r.reported gen = .empty := by
  simp only [InputRec.reported, h]

theorem InputRec.reported_of_other (h : r.slot = some v) (hg : v.gen ≠ gen) : r.reported gen = .empty := by
  simp only [InputRec.reported, h]
  exact if_pos hg

theorem InputRec.reported_of_bad (h : r.slot = some v) (hg : v.gen = gen) (hv : v.cause ≠ .good) :
    r.reported gen = .bad := by
  simp only [InputRec.reported, h]
  exact (if_neg (not_not.mpr hg)).trans (if_pos hv)

/-- GOOD is reported of a usable verdict alone. -/
theorem InputRec.reported_eq_good_iff {e : PhaseErr} {m : RefMessage} :
    r.reported gen = .good e m ↔ r.Usable gen e m := by
  unfold InputRec.Usable
  cases h : r.slot with
  | none => simp [InputRec.reported_of_empty h]
  | some v =>
    by_cases hg : v.gen = gen
    · by_cases hv : v.cause = .good
      · simp only [InputRec.reported, h, hg, hv, ne_eq, not_true, if_false]
        cases he : v.err <;> cases hm : v.msg <;> simp [hg, hv, he, hm]
      · simp [InputRec.reported_of_bad h hg hv, hv]
    · simp [InputRec.reported_of_other h hg, hg]

end Reported

/-! ### The A/B spread (02 R32) -/

section Spread

variable {x : Ref} {gen : Gen} (sec : RowSec)

/-- Both inputs are QUALIFIED with usable verdicts, of phase errors neither of which is gross (02 R32). -/
def Ref.Differ (x : Ref) (gen : Gen) (ea eb : PhaseErr) : Prop :=
  x.a.state = .qualified ∧ x.b.state = .qualified ∧ (∃ m : RefMessage, x.a.Usable gen ea m)
    ∧ (∃ m : RefMessage, x.b.Usable gen eb m) ∧ ea.gross = false ∧ eb.gross = false

theorem InputRec.goodNow_of_usable {r : InputRec} {e : PhaseErr} {m : RefMessage} (h : r.Usable gen e m) :
    r.goodNow gen = some (e, m) :=
  InputRec.goodNow_eq_some.mpr (InputRec.reported_eq_good_iff.mpr h)

theorem InputRec.usable_of_goodNow {r : InputRec} {y : PhaseErr × RefMessage} (h : r.goodNow gen = some y) :
    r.Usable gen y.1 y.2 :=
  InputRec.reported_eq_good_iff.mp (InputRec.goodNow_eq_some.mp h)

theorem Ref.abSpread_of_differ {ea eb : PhaseErr} (h : x.Differ gen ea eb) :
    x.abSpread gen sec = some ⟨ea.e - eb.e, sec⟩ := by
  obtain ⟨ha, hb, ⟨ma, hma⟩, ⟨mb, hmb⟩, hea, heb⟩ := h
  unfold Ref.abSpread
  rw [if_pos ⟨ha, hb⟩]
  simp [InputRec.goodNow_of_usable hma, InputRec.goodNow_of_usable hmb, hea, heb]

theorem Ref.abSpread_of_not_differ (h : ∀ ea eb : PhaseErr, ¬x.Differ gen ea eb) : x.abSpread gen sec = x.spread := by
  unfold Ref.abSpread
  by_cases hq : x.a.state = .qualified ∧ x.b.state = .qualified
  · rw [if_pos hq]
    cases ha : x.a.goodNow gen with
    | none => rfl
    | some ya =>
      cases hb : x.b.goodNow gen with
      | none => rfl
      | some yb =>
        refine if_pos ?_
        by_contra hgross
        rw [Bool.or_eq_true, not_or, Bool.not_eq_true, Bool.not_eq_true] at hgross
        obtain ⟨hqa, hqb⟩ := hq
        exact h ya.1 yb.1
          ⟨hqa, hqb, ⟨_, InputRec.usable_of_goodNow ha⟩, ⟨_, InputRec.usable_of_goodNow hb⟩, hgross⟩
  · exact if_neg hq

end Spread

/-! ### What the boundary leaves and reports -/

section Boundary

variable (r : Ref) (gen : Gen) (elapsed : Nat) (sec : RowSec)

/-- The selection reads of the inputs their states alone. -/
theorem Ref.select_congr {x y : Ref} (hi : ∀ i : Input, (x.input i).state = (y.input i).state) (hs : x.sel = y.sel)
    (hp : x.preferred = y.preferred) (hr : x.revertive = y.revertive) : x.select = y.select := by
  unfold Ref.select
  simp only [hi, hs, hp, hr]

/-- The selection is made from the inputs as judged, under the shared settings now in force. -/
theorem Ref.boundary_sel : (r.boundary gen elapsed sec).1.sel =
    Ref.select { (r.boundary gen elapsed sec).1 with sel := r.sel } := by
  have h : (r.boundary gen elapsed sec).1.sel =
      (((r.mapInputs InputRec.applyStaged).mapInputs (·.checkAbsent elapsed)).mapInputs
        InputRec.judgeSlot).applyShared.select := rfl
  rw [h]
  exact Ref.select_congr (fun i => by cases i <;> rfl) rfl rfl rfl

/-- REF with its inputs judged, as the report and the spread read it. -/
def Ref.judged (r : Ref) (elapsed : Nat) : Ref := r.mapInputs (·.judged elapsed)

theorem Ref.judged_input (i : Input) : (r.judged elapsed).input i = (r.input i).judged elapsed := Ref.input_mapInputs ..

theorem Ref.boundary_report : (r.boundary gen elapsed sec).2.2 =
    ⟨(r.boundary gen elapsed sec).1.sel,
      (r.boundary gen elapsed sec).1.sel.map fun i => ((r.input i).judged elapsed).reported gen⟩ := by
  simp only [← Ref.judged_input]
  rfl

theorem Ref.boundary_spread : (r.boundary gen elapsed sec).1.spread = (r.judged elapsed).abSpread gen sec := rfl

/-- The report of a selected input. -/
theorem Ref.boundary_verdict {i : Input} (h : (r.boundary gen elapsed sec).1.sel = some i) :
    (r.boundary gen elapsed sec).2.2.verdict = some (((r.input i).judged elapsed).reported gen) := by
  rw [Ref.boundary_report, h]
  rfl

/-- An occurrence for a place. -/
def Raise.isFor (p : Place) : Raise → Bool
  | .notice q _ => decide (q = p)
  | .marker _ => false

/-- Of REF's notices those for an input's place are told by their values. -/
theorem filter_isFor_ref {xs : List Raise} (h : ∀ x ∈ xs, ∃ (i : Input) (v : NoticeValue), x = .notice (.ref i) v)
    (i : Input) : xs.filter (Raise.isFor (.ref i)) = (noticesAt (.ref i) xs).map (Raise.notice (.ref i)) := by
  induction xs with
  | nil => rfl
  | cons x xs ih =>
    obtain ⟨j, v, rfl⟩ := h x List.mem_cons_self
    have ih := ih fun y hy => h y (List.mem_cons_of_mem _ hy)
    have hindex : (Place.ref j).index = (Place.ref i).index ↔ j = i := by
      cases i <;> cases j <;> decide
    by_cases hj : j = i
    · subst hj
      simpa [Raise.isFor, noticesAt] using ih
    · simpa [Raise.isFor, noticesAt, hindex, hj] using ih

/-- An input's notices at a boundary, in the order raised: for its state, then for its selected status. -/
theorem Ref.boundary_filter (i : Input) :
    let y := (r.boundary gen elapsed sec).1
    let notice := fun b => Raise.notice (.ref i) (.ref (y.input i).state b (y.input i).cause)
    (r.boundary gen elapsed sec).2.1.filter (Raise.isFor (.ref i)) =
      (if (y.input i).state = (r.input i).state then [] else [notice (r.sel == some i)])
      ++ (if y.sel = some i ↔ r.sel = some i then [] else [notice (y.sel == some i)]) := by
  intro y notice
  have hsel : ((r.sel == some i) = (y.sel == some i)) ↔ (y.sel = some i ↔ r.sel = some i) := by
    rw [Bool.eq_iff_iff, beq_iff_eq, beq_iff_eq]
    exact Iff.comm
  rw [filter_isFor_ref (r.boundary_raises gen elapsed sec), Ref.boundary_noticesAt, List.map_append]
  refine congrArg₂ _ ?_ ?_
  · exact apply_ite (List.map _) _ _ _
  · rw [apply_ite (List.map _)]
    exact if_congr hsel rfl rfl

/-- Settles O15: REF's record, the report, the spread and the notices by the `Ref.boundary_` lemmas; the parts by their own. -/
theorem boundaryWorkOfReferences : Obligations.BoundaryWorkOfReferences := by
  refine ⟨?_, fun r => ⟨InputRec.applyStaged_of_none, ?_⟩, ?_⟩
  · intro r gen elapsed sec y judged usable differ
    have reported : ∀ {i : Input}, y.1.sel = some i → y.2.2.verdict = some ((judged i).reported gen) :=
      fun h => r.boundary_verdict gen elapsed sec h
    refine ⟨r.boundary_input gen elapsed sec, rfl, rfl, rfl, rfl, r.boundary_sel gen elapsed sec, rfl, fun h => ?_,
      fun i e m h hu => ?_, fun i v h hv hg hc => ?_, fun i h hv => ?_, fun i v h hv hg => ?_, fun i h hu => ?_,
      fun ea eb hd => ?_, fun hd => ?_, r.boundary_filter gen elapsed sec, r.boundary_raises gen elapsed sec⟩
    · rw [show y.2.2 = _ from r.boundary_report gen elapsed sec, show (r.boundary gen elapsed sec).1.sel = none from h]
      rfl
    · rw [reported h, InputRec.reported_eq_good_iff.mpr hu]
    · rw [reported h, InputRec.reported_of_bad hv hg hc]
    · rw [reported h, InputRec.reported_of_empty hv]
    · rw [reported h, InputRec.reported_of_other hv hg]
    · rw [Report.good, reported h, Option.bind_some]
      cases hr : (judged i).reported gen with
      | good e m => exact absurd (InputRec.reported_eq_good_iff.mp hr) (hu e m)
      | bad => rfl
      | empty => rfl
    · exact (r.boundary_spread gen elapsed sec).trans (Ref.abSpread_of_differ sec hd)
    · exact (r.boundary_spread gen elapsed sec).trans (Ref.abSpread_of_not_differ sec hd)
  · intro set hs x
    rw [InputRec.applyStaged_of_some hs]
    exact ⟨fun he ho => (if_pos he).trans (if_pos ho), fun he ho => (if_pos he).trans (if_neg ho),
      fun he ho => (if_neg (Bool.eq_false_iff.mp he)).trans (if_pos ho),
      fun he ho => (if_neg (Bool.eq_false_iff.mp he)).trans (if_neg ho)⟩
  · exact fun r elapsed => ⟨InputRec.checkAbsent_of_lost, InputRec.checkAbsent_of_not_lost⟩

end Boundary
end Sys2Proof.Machine
end

section
/-! PROOFS. What a command can make of the schedules and the pending set: a run of the moves of `Signals.Move`; and the
relation of a state to one that work outside EDS leads to. -/
namespace Sys2Proof.Machine

/-! ### The moves -/

/-- The schedules, the armed flag and the notice unit. -/
structure Signals where
  active : Vector Entry 32
  pend : Vector Entry 32
  armed : Bool
  ntu : Ntu

/-- The schedules and the notice unit of the hub. -/
def State.signals (s : State) : Signals := ⟨s.eds.active, s.eds.pend, s.eds.armed, s.ntu⟩

/-- The signals of every reset. -/
def Signals.initial : Signals := ⟨Vector.replicate 32 Entry.clear, Vector.replicate 32 Entry.clear, false, Ntu.initial⟩

/-- Everything that one event can do to the schedules and the notice unit. -/
inductive Signals.Move : Signals → Signals → Prop
  /-- The pending schedule is written and disarmed: by SCHEDULE EDIT, and by DISCARD (03 R43, R45). -/
  | write (x : Signals) (v : Vector Entry 32) : Move x { x with pend := v, armed := false }
  /-- A pending schedule without conflicts is armed (03 R44). -/
  | arm (x : Signals) (h : ConflictFree x.pend) : Move x { x with armed := true }
  /-- An armed schedule becomes the active one (03 R46). -/
  | activate (x : Signals) (h : x.armed = true) : Move x { x with active := x.pend, armed := false }
  /-- A notice is raised (10 R169). -/
  | raise (x : Signals) (p : Place) (v : NoticeValue) (sec : RowSec) : Move x { x with ntu := x.ntu.raise p v sec }
  /-- The chosen notice is delivered (10 R173). -/
  | deliver (x : Signals) : Move x { x with ntu := x.ntu.deliver.2 }
  /-- SET NOTICES replaces the masks (10 R176). -/
  | mask (x : Signals) (m : BitVec 12) : Move x { x with ntu := Ntu.settle { x.ntu with masks := m } }
  /-- Power-on, pin reset, and a RESTART taking effect (03 R57; 10 R178). -/
  | reset (x : Signals) : Move x Signals.initial

/-- `t`'s schedules and notices come from `s`'s by moves. -/
def State.SignalsTo (s t : State) : Prop := Relation.ReflTransGen Signals.Move s.signals t.signals

namespace State.SignalsTo

variable {s t u : State}

theorem of_eq (h : t.signals = s.signals) : s.SignalsTo t := by
  unfold State.SignalsTo
  rw [h]

@[refl] theorem refl (s : State) : s.SignalsTo s := of_eq rfl

theorem of_move {x : Signals} (h : Signals.Move s.signals x) (e : t.signals = x) : s.SignalsTo t := by
  unfold State.SignalsTo
  rw [e]
  exact .single h

@[trans] theorem trans (h : s.SignalsTo t) (k : t.SignalsTo u) : s.SignalsTo u := Relation.ReflTransGen.trans h k

theorem trans_eq (h : s.SignalsTo t) (k : u.signals = t.signals) : s.SignalsTo u := h.trans (of_eq k)

/-- What `t` leads to, a state with `t`'s signals leads to. -/
theorem after (h : t.SignalsTo u) (k : t.signals = s.signals) : s.SignalsTo u := (of_eq k).trans h

/-- What each port's share of a work leads to, the whole work leads to. -/
theorem overPorts {f : Port → State → State} (h : ∀ (p : Port) (s : State), s.SignalsTo (f p s)) (s : State) :
    s.SignalsTo (overPorts f s) :=
  overPorts_keeps (P := s.SignalsTo) f (fun p _ ht => ht.trans (h p _)) s (refl s)

/-- An invariant that every move keeps is kept. -/
theorem keeps {P : Signals → Prop} (hP : ∀ x y, Signals.Move x y → P x → P y) (h : s.SignalsTo t) (hs : P s.signals) :
    P t.signals := by
  unfold State.SignalsTo at h
  generalize t.signals = y at h
  induction h with
  | refl => exact hs
  | tail _ m ih => exact hP _ _ m ih

end State.SignalsTo

/-! ### Writes that leave the signals alone -/

section Writes

variable (s : State)

@[simp] theorem State.setTsu_signals (x : Tsu) : (s.setTsu x).signals = s.signals := rfl
@[simp] theorem State.setRef_signals (x : Ref) : (s.setRef x).signals = s.signals := rfl
@[simp] theorem State.setRle_signals (x : Rle) : (s.setRle x).signals = s.signals := rfl
@[simp] theorem State.setDrm_signals (x : Drm) : (s.setDrm x).signals = s.signals := rfl
@[simp] theorem State.setEcu_signals (x : Ecu) : (s.setEcu x).signals = s.signals := rfl
@[simp] theorem State.setSq_signals (x : Sq) : (s.setSq x).signals = s.signals := rfl
@[simp] theorem State.setStl_signals (x : Stl) : (s.setStl x).signals = s.signals := rfl
@[simp] theorem State.setMlc_signals (x : Mlc) : (s.setMlc x).signals = s.signals := rfl
@[simp] theorem State.setClk_signals (x : Clock) : (s.setClk x).signals = s.signals := rfl
@[simp] theorem State.setPending_signals (x : List Instr) : (s.setPending x).signals = s.signals := rfl
@[simp] theorem State.setPort_signals (p : Port) (r : PortRec) : (s.setPort p r).signals = s.signals := rfl
@[simp] theorem State.setRack_signals (p : Port) (r : RackRec) : (s.setRack p r).signals = s.signals := rfl
@[simp] theorem State.setMarks_signals (p : Port) (m : PortMarks) : (s.setMarks p m).signals = s.signals := rfl
@[simp] theorem State.setLine_signals (l : Line) (r : LineRec) : (s.setLine l r).signals = s.signals := rfl
@[simp] theorem State.setCtr_signals (c : LinkCounters) : (s.setCtr c).signals = s.signals := rfl
@[simp] theorem State.note_signals (e : TickEvent) : (s.note e).signals = s.signals := rfl
@[simp] theorem State.dropFrame_signals (c : LinkCounters) : (s.dropFrame c).signals = s.signals := rfl
@[simp] theorem State.raiseMarker_signals (h : Hdr) (m : Marker) : (s.raiseMarker h m).signals = s.signals := rfl
@[simp] theorem State.keepByte_signals (ph : RxPhase) (bs : List Byte) : (s.keepByte ph bs).signals = s.signals := rfl
@[simp] theorem State.setInByte_signals (b : Bool) : (s.setInByte b).signals = s.signals := rfl
@[simp] theorem State.moveRotation_signals (i : Fin 24) : (s.moveRotation i).signals = s.signals := rfl
@[simp] theorem State.settleOvertaken_signals (p : Port) : (s.settleOvertaken p).signals = s.signals := rfl
@[simp] theorem State.frameOver_signals (p : Port) (rx : RackRx) : (s.frameOver p rx).signals = s.signals := rfl
@[simp] theorem State.lateEcho_signals (p : Port) : (s.lateEcho p).signals = s.signals := rfl

@[simp] theorem State.setInput_signals (i : Input) (r : InputRec) : (s.setInput i r).signals = s.signals := by
  cases i <;> rfl

@[simp] theorem State.lapse_signals : s.lapse.signals = s.signals := by
  obtain ⟨a, b, rx, n, h, -⟩ := s.lapse_eq
  rw [h]
  rfl

@[simp] theorem State.runTicks_signals (n : Nat) : (s.runTicks n).signals = s.signals := by
  obtain ⟨v, c, a, b, rx, k, h, -⟩ := s.runTicks_eq n
  rw [h]
  rfl

@[simp] theorem State.gapTimeout_signals (i : Input) : (s.gapTimeout i).signals = s.signals := by
  rcases s.gapTimeout_cases i with h | ⟨-, h⟩ <;> simp [h]

@[simp] theorem State.linkTimeout_signals : s.linkTimeout.signals = s.signals := by
  rcases s.linkTimeout_cases with h | ⟨-, h⟩ <;> simp [h]

@[simp] theorem State.badByte_signals : s.badByte.signals = s.signals := by
  unfold State.badByte
  split <;> simp

@[simp] theorem State.sampleLine_signals (l : Line) (b : Bool) : (s.sampleLine l b).signals = s.signals := by
  unfold State.sampleLine
  split <;> simp

@[simp] theorem State.sampleTod_signals (i : Input) (x : SerialLine) : (s.sampleTod i x).signals = s.signals :=
  s.setInput_signals i _

@[simp] theorem State.taken_signals (r : Req) : (s.taken r).signals = s.signals := by
  unfold State.taken
  split <;> rfl

/-- An emission moves a line's level only. -/
@[simp] theorem State.emit_signals (p : Port) (a : Action) (i : Time) (sec : RowSec) :
    (s.emit p a i sec).signals = s.signals := by
  unfold State.emit
  split <;> rfl

variable {s} {t : State}

theorem State.reach_signals {i : Time} (h : s.reach i = some t) : t.signals = s.signals := by
  obtain ⟨n, rfl⟩ := s.reach_eq h
  exact s.runTicks_signals n

theorem State.reachElapsed_signals {a b : Nat} (h : s.reachElapsed a b = some t) : t.signals = s.signals := by
  obtain ⟨n, rfl⟩ := s.reachElapsed_eq h
  exact s.runTicks_signals n

theorem State.reachTick_signals {n : Nat} (h : s.reachTick n = some t) : t.signals = s.signals := by
  obtain ⟨k, rfl⟩ := s.reachTick_eq h
  exact s.runTicks_signals k

theorem State.freeTick_signals {b : Bool} (h : s.freeTick b = some t) : t.signals = s.signals := by
  obtain ⟨k, rfl⟩ := s.freeTick_eq h
  exact s.runTicks_signals k

end Writes

/-! ### Notices -/

section Notices

variable (s : State)

theorem State.handOut_signalsTo : s.SignalsTo s.handOut := by
  unfold State.handOut
  split
  · split
    · rfl
    · rename_i p e n h
      exact .of_move (.deliver _) (by simp [State.signals, h])
  · rfl

theorem State.raiseNotice_signalsTo (p : Place) (v : NoticeValue) : s.SignalsTo (s.raiseNotice p v) :=
  .trans (.of_move (.raise _ p v s.now.sec) rfl) (State.handOut_signalsTo _)

theorem State.raises_signalsTo (xs : List Raise) : s.SignalsTo (xs.foldl State.raiseOne s) := by
  induction xs generalizing s with
  | nil => rfl
  | cons x xs ih =>
    refine .trans ?_ (ih _)
    cases x with
    | notice p v => exact s.raiseNotice_signalsTo p v
    | marker m => exact .of_eq rfl

theorem State.freeTransmitter_signalsTo : s.SignalsTo s.freeTransmitter :=
  .after (State.handOut_signalsTo _) rfl

end Notices
end Sys2Proof.Machine
end

section
/-! PROOFS. Work outside EDS: it leaves EDS and the TICK marker as they are, takes no port to DOWN, and does to the pending
set what notices do. -/
namespace Sys2Proof.Machine

/-- `t` is `s` after work outside EDS that brings no port to rest. -/
structure State.OutsideEds (s t : State) : Prop where
  eds : t.eds = s.eds
  tick : t.sq.backlog.tick = s.sq.backlog.tick
  signals : s.SignalsTo t
  up : ∀ p, (s.port p).state ≠ .down → (t.port p).state ≠ .down

namespace State.OutsideEds

variable {s t u : State}

@[refl] theorem refl (s : State) : s.OutsideEds s := ⟨rfl, rfl, .refl s, fun _ => id⟩

@[trans] theorem trans (h : s.OutsideEds t) (k : t.OutsideEds u) : s.OutsideEds u :=
  ⟨k.eds.trans h.eds, k.tick.trans h.tick, h.signals.trans k.signals, fun p => k.up p ∘ h.up p⟩

theorem overPorts {f : Port → State → State} (h : ∀ (p : Port) (s : State), s.OutsideEds (f p s)) (s : State) :
    s.OutsideEds (overPorts f s) :=
  overPorts_keeps (P := s.OutsideEds) f (fun p _ ht => ht.trans (h p _)) s (refl s)

/-- Writes to none of the units concerned. -/
theorem of_kept (heds : t.eds = s.eds) (hntu : t.ntu = s.ntu) (hsq : t.sq = s.sq) (hrle : t.rle = s.rle) :
    s.OutsideEds t :=
  ⟨heds, by rw [hsq], .of_eq (by rw [State.signals, heds, hntu]; rfl), fun p => by rw [State.port_of_rle hrle]; exact id⟩

end State.OutsideEds

section Operations

variable (s : State) (p : Port)

theorem State.setPort_outside {r : PortRec} (h : (s.port p).state ≠ .down → r.state ≠ .down) :
    s.OutsideEds (s.setPort p r) := by
  refine ⟨rfl, rfl, .of_eq rfl, fun q hq => ?_⟩
  rw [State.port_setPort]
  split
  · rename_i e
    exact h (e ▸ hq)
  · exact hq

/-- A write that keeps the port's state. -/
theorem State.setPort_outside_of_kept {r : PortRec} (h : r.state = (s.port p).state) : s.OutsideEds (s.setPort p r) :=
  s.setPort_outside p fun hd => h ▸ hd

theorem State.note_outside (e : TickEvent) : s.OutsideEds (s.note e) := .of_kept rfl rfl rfl rfl

theorem State.setRack_outside (r : RackRec) : s.OutsideEds (s.setRack p r) := .of_kept rfl rfl rfl rfl

theorem Backlog.raise_tick_other (b : Backlog) (h : Hdr) {m : Marker} (hm : ∀ k, m ≠ .tick k) :
    (b.raise h m).tick = b.tick := by
  unfold Backlog.raise
  cases m with
  | tick k => exact absurd rfl (hm k)
  | restart c n => rfl
  | leap c u => rfl
  | step k a => simp only; split <;> rfl
  | tstate st k => simp only; split <;> rfl
  | gap k => simp only; split <;> rfl
  | rack q st k => simp only; split <;> rfl

/-- A marker that is no TICK. -/
theorem State.raiseMarker_outside (h : Hdr) {m : Marker} (hm : ∀ k, m ≠ .tick k) : s.OutsideEds (s.raiseMarker h m) :=
  ⟨rfl, Backlog.raise_tick_other _ h hm, .of_eq rfl, fun _ => id⟩

theorem State.raiseNotice_outside (q : Place) (v : NoticeValue) : s.OutsideEds (s.raiseNotice q v) := by
  have hs := s.raiseNotice_signalsTo q v
  obtain ⟨n, m, e⟩ := s.raiseNotice_eq q v
  rw [e] at hs ⊢
  exact ⟨rfl, rfl, hs, fun _ => id⟩

theorem State.changeRecord_outside (r : RackRec) (c : RackCause) : s.OutsideEds (s.changeRecord p r c) :=
  ((s.setRack_outside p r).trans (State.raiseMarker_outside _ _ (by simp))).trans (State.raiseNotice_outside _ _ _)

theorem State.portFaulted_outside : s.OutsideEds (s.portFaulted p) :=
  ((s.setPort_outside p fun _ => by simp [PortRec.enter]).trans (State.changeRecord_outside _ p _ _)).trans
    (State.raiseNotice_outside _ _ _)

theorem State.missEcho_outside : s.OutsideEds (s.missEcho p) := by
  have h : s.OutsideEds (s.setPort p (s.port p).miss) := s.setPort_outside_of_kept p rfl
  unfold State.missEcho
  split
  · exact h.trans (State.portFaulted_outside _ p)
  · exact h

theorem State.closeForDeparture_outside (b : Bool) : s.OutsideEds (s.closeForDeparture p b) := by
  rcases s.closeForDeparture_cases p b with ⟨-, e⟩ | ⟨-, -, e⟩ | ⟨-, -, e⟩ <;> rw [e]
  · exact s.missEcho_outside p
  · exact (s.missEcho_outside p).trans (State.setPort_outside_of_kept _ p rfl)

theorem State.depart_outside (sec : RowSec) (k : Nat) (left : Time) (b : Bool) :
    s.OutsideEds (s.depart p sec k left b) := by
  have h : s.OutsideEds ((s.closeForDeparture p b).setPort p ((s.closeForDeparture p b).departPort p sec k left)) :=
    (s.closeForDeparture_outside p b).trans (State.setPort_outside_of_kept _ p rfl)
  unfold State.depart State.noteOvertaken
  simp only
  split
  · exact h.trans (State.note_outside _ _)
  · exact h

theorem State.cycleWork_outside (sec : RowSec) (k : Nat) (left : Time) (early b : Bool) :
    s.OutsideEds (s.cycleWork p sec k left early b) := by
  have h : s.OutsideEds ((s.setPort p (modeWork (s.port p) k s.rle.cycle.divisor s.rle.staged.isSome)).note
      (.departure p sec k)) :=
    (s.setPort_outside_of_kept p (by rw [modeWork_eq, PortRec.modesMoved_state])).trans (State.note_outside _ _)
  unfold State.cycleWork
  simp only
  split
  · exact h.trans (State.depart_outside _ p sec k left b)
  · exact h

end Operations

/-! ### The shares of a boundary -/

section Boundary

variable (s : State) (p : Port)

@[simp] theorem PortRec.modeFirst_state (r : PortRec) : r.modeFirst.state = r.state := by rw [PortRec.modeFirst_eq]

@[simp] theorem PortRec.modeLast_state (r : PortRec) : r.modeLast.state = r.state := by rw [PortRec.modeLast_eq]

theorem rleEarly_outside (sec : RowSec) (n : Nat) (st : Bool) (rec : BitVec 16) :
    s.OutsideEds (rleEarly sec n st rec p s) := by
  unfold rleEarly
  simp only
  split
  · rfl
  · split
    · exact (s.setPort_outside_of_kept p (PortRec.modeFirst_state _)).trans (State.note_outside _ _)
    · exact s.cycleWork_outside p sec 0 _ _ _

theorem rleRoll_outside (sec : RowSec) (c : Port → Nat) (b : Bool) (rec : BitVec 16) :
    s.OutsideEds (rleRoll sec c b rec p s) := by
  unfold rleRoll
  split
  · split
    · exact s.note_outside _
    · rfl
  · split
    · refine (s.setPort_outside_of_kept p ?_).trans (State.note_outside _ _)
      split <;> split <;> simp
    · split
      · exact s.note_outside _
      · split
        · exact s.cycleWork_outside p sec 0 _ _ _
        · rfl

theorem passSecond_state (b v : Time) (n c : Nat) (r : PortRec) (sec : RowSec) :
    (passSecond b v n c r sec).state = r.state := by
  unfold passSecond
  simp only
  split <;> split <;> simp

theorem passModes_outside (b v : Time) : s.OutsideEds (passModes b v p s) := by
  unfold passModes
  split
  · rfl
  · exact s.setPort_outside_of_kept p (by simp [passSecond_state])

theorem landAgain_outside (sec : RowSec) : s.OutsideEds (landAgain sec p s) := by
  obtain ⟨xs, e⟩ := landAgain_eq s sec p
  rw [e]
  exact .of_kept rfl rfl rfl rfl

theorem rleSeconds_outside : s.OutsideEds (rleSeconds p s) := s.setPort_outside_of_kept p rfl

theorem drmPort_outside : s.OutsideEds (drmPort p s) := by
  unfold drmPort
  simp only
  split
  · exact s.setRack_outside p _
  · exact s.changeRecord_outside p _ _

theorem State.drmBoundary_outside (sec : RowSec) : s.OutsideEds (s.drmBoundary sec) := by
  have hset : ∀ (t : State) (x : Drm), t.OutsideEds (t.setDrm x) := fun _ _ => .of_kept rfl rfl rfl rfl
  have hspread : ∀ t : State, t.OutsideEds (t.takeSpread sec) := by
    intro t
    unfold State.takeSpread
    simp only
    split
    · exact hset _ _
    · exact (hset _ _).trans (State.raiseNotice_outside _ _ _)
  unfold State.drmBoundary
  exact ((State.OutsideEds.overPorts (fun p t => t.setRack_outside p _) s).trans
    (.overPorts (fun p t => drmPort_outside t p) _)).trans (hspread _)

theorem State.stepHolds_outside (a b : Bool) : s.OutsideEds (s.stepHolds a b) := by
  unfold State.stepHolds
  split
  · exact .overPorts (fun p t => t.setRack_outside p _) s
  · rfl

theorem State.earlyWork_outside (sec : RowSec) (n : Nat) (rec : BitVec 16) : s.OutsideEds (s.earlyWork sec n rec) := by
  have h : s.OutsideEds (s.setRle s.rle.applyCycle) := by
    refine ⟨rfl, rfl, .of_eq rfl, fun p hp => ?_⟩
    rw [State.port, State.setRle_rle, s.rle.applyCycle_eq.2.2]
    exact hp
  exact h.trans (.overPorts (fun p t => rleEarly_outside t p _ _ _ _) _)

theorem State.movedOver_outside (sec : RowSec) (b : Time) (st : Bool) : s.OutsideEds (s.movedOver sec b st) := by
  unfold State.movedOver
  split
  · exact .overPorts (fun p t => passModes_outside t p _ _) _
  · split
    · exact .overPorts (fun p t => landAgain_outside t p _) _
    · rfl

/-- The ports' work of a boundary but for EDS's. -/
theorem State.portsWork_outside (sec : RowSec) (b : Time) (n : Nat) (q st : Bool) (rec : BitVec 16) :
    ((s.earlyWork sec n rec).edsBoundary sec n q st).OutsideEds (s.portsWork sec b n q st rec) := by
  rw [State.portsWork_eq]
  exact ((State.OutsideEds.overPorts (fun p t => rleRoll_outside t p _ _ _ _) _).trans
    (State.movedOver_outside _ sec b st)).trans (.overPorts (fun p t => rleSeconds_outside t p) _)

/-- An occurrence that is no TICK marker. -/
def Raise.NoTick (x : Raise) : Prop := ∀ k, x ≠ .marker (.tick k)

theorem State.raises_outside {xs : List Raise} (h : ∀ x ∈ xs, x.NoTick) : s.OutsideEds (xs.foldl State.raiseOne s) := by
  induction xs generalizing s with
  | nil => rfl
  | cons x xs ih =>
    refine .trans ?_ (ih _ fun y hy => h y (List.mem_cons_of_mem _ hy))
    cases x with
    | notice q v => exact s.raiseNotice_outside q v
    | marker m => exact s.raiseMarker_outside _ fun k e => h _ List.mem_cons_self k (congrArg Raise.marker e)

/-- REF's and TSU's boundary work raises no TICK. -/
theorem State.timeWork_noTick (sec : RowSec) : ∀ x ∈ (s.timeWork sec).2, x.NoTick := by
  obtain ⟨minor, last, hm, hraises, hlast⟩ := (s.boundaryWork_leaves sec false 0).cases
  rw [State.timeWork_snd, hraises]
  intro x hx k
  rintro rfl
  simp only [List.mem_append] at hx
  rcases hx with hx | (hx | hx) | hx
  · obtain ⟨i, v, e⟩ := Ref.boundary_raises _ _ _ _ _ hx
    cases e
  · split at hx <;> simp [stateRaises] at hx
  · exact hm _ hx
  · rcases State.BoundaryLeaves.last_cases hlast with rfl | ⟨a, rfl⟩ <;> simp [stepRaises] at hx

theorem State.raisedWork_outside (sec : RowSec) (d : Bool) : s.OutsideEds (s.raisedWork sec d) := by
  have hw : s.OutsideEds (s.timeWork sec).1 := by
    obtain ⟨i, n, e⟩ := s.timeWork_fst sec
    rw [e]
    exact .of_kept rfl rfl rfl rfl
  have h := hw.trans ((s.timeWork sec).1.raises_outside (s.timeWork_noTick sec))
  unfold State.raisedWork
  generalize (s.timeWork sec).2.foldl State.raiseOne (s.timeWork sec).1 = t at h
  simp only
  split
  · exact (h.trans (t.drmBoundary_outside sec)).trans (State.stepHolds_outside _ _ _)
  · exact h.trans (t.stepHolds_outside _ _)

end Boundary
end Sys2Proof.Machine
end

section
/-! PROOFS. What the rack frames, the samples, the stamp queue and the requests make of the schedules and the pending set. -/
namespace Sys2Proof.Machine

section Operations

variable (s : State)

/-! ### Received rack frames -/

theorem State.missEcho_signalsTo (p : Port) : s.SignalsTo (s.missEcho p) := (s.missEcho_outside p).signals

theorem State.changeRecord_signalsTo (p : Port) (r : RackRec) (c : RackCause) : s.SignalsTo (s.changeRecord p r c) :=
  (s.changeRecord_outside p r c).signals

theorem State.closeFrame_signalsTo (p : Port) : s.SignalsTo (s.closeFrame p) := by
  unfold State.closeFrame
  split
  · rfl
  · split
    · exact s.missEcho_signalsTo p
    · rfl

theorem State.rejectFrame_signalsTo (p : Port) (c : RackCheck) : s.SignalsTo (s.rejectFrame p c) :=
  (State.closeFrame_signalsTo _ p).after rfl

theorem State.receiveCall_signalsTo (p : Port) : s.SignalsTo (s.receiveCall p) := by
  unfold State.receiveCall
  simp only
  split
  · exact .of_eq rfl
  · split
    · exact (State.missEcho_signalsTo _ p).after rfl
    · split
      · exact ((State.missEcho_signalsTo _ p).trans_eq rfl).after (s.frameOver_signals p .looking)
      · exact .of_eq rfl

theorem State.portUp_signalsTo (p : Port) : s.SignalsTo (s.portUp p) := by
  unfold State.portUp
  split
  · rfl
  · rfl
  · exact (State.raiseNotice_signalsTo _ _ _).after rfl
  · exact ((State.changeRecord_signalsTo _ p _ _).trans (State.raiseNotice_signalsTo _ _ _)).after (s.setPort_signals p _)

theorem State.takeSample_signalsTo (x : Sample) : s.SignalsTo (s.takeSample x) := by
  have gross : ∀ (t : State) (b : Bool),
      t.SignalsTo (if b then t.changeRecord x.port (t.rack x.port) .gross else t) := by
    intro t b
    split
    · exact t.changeRecord_signalsTo _ _ _
    · rfl
  unfold State.takeSample
  simp only
  refine .trans ?_ (gross _ _)
  split
  · exact .of_eq rfl
  · exact (State.raiseNotice_signalsTo _ _ _).after rfl

/-- A valid ECHO handed on: the port's change of state and the sample raise notices. -/
theorem State.handOn_signalsTo (p : Port) (r : PortRec) (x : Exchange) (e : Echo) (a : Time) :
    s.SignalsTo (s.handOn p r x e a) := by
  unfold State.handOn
  exact ((State.portUp_signalsTo _ p).trans ((State.takeSample_signalsTo _ _).after (State.setMarks_signals ..))).after (s.setPort_signals p r)

theorem State.receiveEcho_signalsTo (p : Port) (e : Echo) (ago : Nat) : s.SignalsTo (s.receiveEcho p e ago) := by
  unfold State.receiveEcho
  simp only
  split
  · exact .of_eq rfl
  · split
    · rfl
    · split
      · exact ((State.missEcho_signalsTo _ p).trans_eq rfl).after (s.frameOver_signals p .looking)
      · split
        · exact (State.handOn_signalsTo _ p _ _ e _).after (s.frameOver_signals p .looking)
        · exact (State.closeFrame_signalsTo _ p).after rfl

theorem State.overtakenEcho_signalsTo (p : Port) (x : Option Exchange) (e : Echo) (ago : Nat) :
    s.SignalsTo (s.overtakenEcho p x e ago) := by
  unfold State.overtakenEcho
  split
  · exact .of_eq rfl
  · split
    · rfl
    · split
      · exact .of_eq rfl
      · split
        · exact s.handOn_signalsTo p _ _ e _
        · exact .of_eq rfl

theorem State.frameEnd_signalsTo (p : Port) (v : RackVerdict) (ago : Nat) : s.SignalsTo (s.frameEnd p v ago) := by
  rcases s.frameEnd_cases p v ago with ⟨-, h⟩ | ⟨-, -, h⟩ | ⟨x, -, -, h⟩ <;> rw [h]
  · cases v with
    | echo e => exact s.receiveEcho_signalsTo p e ago
    | call => exact s.receiveCall_signalsTo p
    | bad c => exact s.rejectFrame_signalsTo p c
  · refine .after ?_ (s.settleOvertaken_signals p)
    cases v with
    | echo e => exact State.overtakenEcho_signalsTo _ p x e ago
    | call => exact .of_eq rfl
    | bad c => exact .of_eq rfl

/-! ### The strobe latch -/

theorem State.strobe_signalsTo (src : StrobeSource) : s.SignalsTo (s.strobe src) := by
  unfold State.strobe
  split
  · exact .of_eq rfl
  · exact (State.raiseNotice_signalsTo _ _ _).after rfl

theorem State.sampleHstb_signalsTo (b : Bool) : s.SignalsTo (s.sampleHstb b) := by
  unfold State.sampleHstb
  simp only
  split
  · exact (State.strobe_signalsTo _ _).after rfl
  · exact .of_eq rfl

variable {s} in
theorem State.hstbLow_signalsTo {t : State} (h : s.hstbLow = some t) : s.SignalsTo t := by
  unfold State.hstbLow at h
  split at h
  · cases h
    rfl
  · obtain ⟨u, hu, rfl⟩ := Option.map_eq_some_iff.mp h
    exact (u.sampleHstb_signalsTo false).after (State.freeTick_signals hu)

/-! ### The stamp queue -/

theorem State.countLoss_signalsTo : s.SignalsTo s.countLoss := by
  unfold State.countLoss
  simp only
  split
  · exact (State.raiseNotice_signalsTo _ _ _).after rfl
  · exact .of_eq rfl

theorem State.discardHead_signalsTo : s.SignalsTo s.discardHead := (State.countLoss_signalsTo _).after rfl

theorem State.discardHeads_signalsTo (n : Nat) : s.SignalsTo (s.discardHeads n) := by
  induction n generalizing s with
  | zero => rfl
  | succ n ih => exact s.discardHead_signalsTo.trans (ih _)

theorem State.checkLevel_signalsTo (n : Nat) : s.SignalsTo (s.checkLevel n) := by
  unfold State.checkLevel
  split
  · exact s.raiseNotice_signalsTo _ _
  · rfl

@[simp] theorem State.joinMarker_signals : s.joinMarker.signals = s.signals := by
  unfold State.joinMarker
  split <;> rfl

@[simp] theorem State.joinGap_signals : s.joinGap.signals = s.signals := by
  unfold State.joinGap
  split <;> rfl

@[simp] theorem State.releaseSource_signals (x : Source) : (s.releaseSource x).signals = s.signals := by
  cases x <;> rfl

theorem State.serveSource_signalsTo (i : Fin 24) (h : Hdr) (b : Body) : s.SignalsTo (s.serveSource i h b) := by
  unfold State.serveSource
  simp only
  split
  · exact (State.checkLevel_signalsTo _ _).after (by simp)
  · split
    · have hroom := (State.discardHeads_signalsTo _ s.sq.excess).after (s.releaseSource_signals (sourceOf i))
      exact hroom.trans ((State.checkLevel_signalsTo _ _).after
        ((State.moveRotation_signals _ i).trans (State.setSq_signals _ _)))
    · split
      · exact ((State.countLoss_signalsTo _).trans_eq (State.moveRotation_signals _ i)).after (s.setLine_signals _ _)
      · rfl

variable {s} in
theorem State.arbiter_signalsTo {t : State} (h : s.arbiter = some t) : s.SignalsTo t := by
  unfold State.arbiter at h
  split at h
  · cases h
    exact (State.checkLevel_signalsTo _ _).after s.joinMarker_signals
  · split at h
    · cases h
      exact s.discardHead_signalsTo.trans ((State.checkLevel_signalsTo _ _).after (State.joinMarker_signals _))
    · split at h
      · cases h
      · split at h
        · cases h
        · cases h
          exact s.serveSource_signalsTo _ _ _

/-! ### The roll -/

theorem edsPortBoundary_signals (old : Eds) (k : EdgeTick) (p : Port) : (edsPortBoundary old k p s).signals = s.signals := by
  unfold edsPortBoundary
  split
  · rfl
  · simp only
    split <;> rfl

theorem edsTicks_signals (old : Eds) (k : EdgeTick) : (edsTicks old k s).signals = s.signals := by
  unfold edsTicks
  generalize allEntries = xs
  induction xs generalizing s with
  | nil => rfl
  | cons x xs ih =>
    rw [List.foldl_cons, ih]
    simp only
    split <;> rfl

theorem State.activate_signalsTo (sec : RowSec) : s.SignalsTo (s.setEds (s.eds.activate sec)) := by
  unfold Eds.activate
  split
  · rename_i h
    exact .of_move (.activate _ h) rfl
  · exact .of_eq rfl

theorem State.edsBoundary_signalsTo (sec : RowSec) (n : Nat) (q st : Bool) : s.SignalsTo (s.edsBoundary sec n q st) :=
  ((s.activate_signalsTo sec).trans (.overPorts (fun p t => .of_eq (edsPortBoundary_signals t _ _ p)) _)).trans_eq
    (edsTicks_signals _ _ _)

theorem State.portsWork_signalsTo (sec : RowSec) (b : Time) (n : Nat) (q st : Bool) (rec : BitVec 16) :
    s.SignalsTo (s.portsWork sec b n q st rec) :=
  ((s.earlyWork_outside sec n rec).signals.trans (State.edsBoundary_signalsTo _ sec n q st)).trans
    (s.portsWork_outside sec b n q st rec).signals

theorem State.boundaryWork_signalsTo (sec : RowSec) (d : Bool) (rec : BitVec 16) : s.SignalsTo (s.boundaryWork sec d rec) := by
  have h := (s.raisedWork_outside sec d).signals.trans (State.portsWork_signalsTo _ sec s.now s.clk.tickFrom.ns s.tsu.quiet
    ((s.timeWork sec).1.tsu.gen != s.tsu.gen) rec)
  rw [State.boundaryWork_eq]
  simp only
  split
  · exact h
  · exact h.trans (State.drmBoundary_outside _ sec).signals

theorem State.atRoll_signals : s.atRoll.signals = s.signals := rfl

theorem State.clearMark_signals : s.clearMark.signals = s.signals := rfl

theorem State.rollWork_signalsTo (d : Bool) (rec : BitVec 16) : s.SignalsTo (s.rollWork d rec) := by
  by_cases h : s.tsu.mark = some s.tsu.ts.sec
  · rw [s.rollWork_of_marked d rec h]
    have hr := (State.OutsideEds.overPorts (fun p t => rleEarly_outside t p s.tsu.ts.sec s.clk.tickFrom.ns false rec)
      s.atRoll).signals
    exact (hr.trans_eq (State.clearMark_signals _)).after s.atRoll_signals
  · rw [s.rollWork_of_unmarked d rec h]
    exact (s.atRoll.boundaryWork_signalsTo _ d rec).after s.atRoll_signals

theorem State.roll_signalsTo (d : Bool) (rec : BitVec 16) : s.SignalsTo (s.roll d rec) :=
  (State.rollWork_signalsTo _ d rec).after (s.runTicks_signals _)

end Operations
end Sys2Proof.Machine
end

section
/-! PROOFS. What the requests make of the schedules and the pending set. -/
namespace Sys2Proof.Machine

section Requests

variable (s : State) (r : Req)

/-! ### The schedule's requests (03 R43 to R45) -/

theorem mem_allEntries (i : EntryIx) : i ∈ allEntries := by
  revert i
  decide

/-- Where no conflicting pair is found there is none. -/
theorem firstConflict_eq_none {xs : Vector Entry 32} (h : firstConflict xs = none) : ConflictFree xs := by
  intro i j hij
  unfold firstConflict at h
  have hi := List.findSome?_eq_none_iff.mp h i (mem_allEntries i)
  simp only [Option.map_eq_none_iff, List.find?_eq_none] at hi
  have hj := hi j (mem_allEntries j)
  simp only [hij, decide_true, Bool.true_and, Bool.not_eq_true] at hj
  exact hj

theorem actScheduleEdit_signalsTo : s.SignalsTo (actScheduleEdit r s).state := by
  unfold actScheduleEdit
  simp only
  split
  · split
    · rfl
    · exact .of_move (.write _ _) rfl
  · rfl

theorem actScheduleCommit_signalsTo : s.SignalsTo (actScheduleCommit r s).state := by
  unfold actScheduleCommit
  split
  · rfl
  · rename_i h
    exact .of_move (.arm _ (firstConflict_eq_none h)) rfl

theorem actScheduleDiscard_signalsTo : s.SignalsTo (actScheduleDiscard r s).state :=
  .of_move (.write _ s.eds.active) rfl

/-! ### The notice unit's requests (10 R175, R176) -/

theorem actSetNotices_signalsTo : s.SignalsTo (actSetNotices r s).state :=
  .trans (.of_move (.mask _ (readMasks r.payload)) rfl) (State.handOut_signalsTo _)

theorem actPoll_signalsTo : s.SignalsTo (actPoll r s).state := .of_move (.deliver _) rfl

/-! ### Ports (04 R71, R72, R78) -/

theorem State.enablePort_signalsTo (p : Port) (m : Mode) : s.SignalsTo (s.enablePort p m) := by
  unfold State.enablePort
  exact ((State.changeRecord_signalsTo _ p _ _).trans (State.raiseNotice_signalsTo _ _ _)).after rfl

theorem State.disablePort_signalsTo (p : Port) : s.SignalsTo (s.disablePort p) := by
  unfold State.disablePort
  exact ((State.changeRecord_signalsTo _ p _ _).trans (State.raiseNotice_signalsTo _ _ _)).after rfl

theorem State.applyPort_signalsTo (p : Port) (enable : Bool) (m : Mode) : s.SignalsTo (s.applyPort p enable m) := by
  unfold State.applyPort
  split
  · split
    · exact s.enablePort_signalsTo p m
    · exact .of_eq rfl
  · split
    · exact .of_eq rfl
    · exact (s.disablePort_signalsTo p).trans_eq rfl

theorem actSetPort_signalsTo : s.SignalsTo (actSetPort r s).state := by
  unfold actSetPort
  simp only
  split
  · split
    · rfl
    · exact (State.applyPort_signalsTo _ _ _ _).after rfl
  · rfl

/-! ### RESTART -/

theorem State.restart_signalsTo : s.SignalsTo s.restart :=
  .trans (.of_move (.reset _) rfl) (State.raises_signalsTo _ _)

theorem actRestart_signalsTo : s.SignalsTo (actRestart r s).state := by
  unfold actRestart
  split
  · exact s.restart_signalsTo
  · exact .of_eq rfl

/-! ### The requests that raise a notice or leave the signals alone -/

theorem actLatch_signalsTo : s.SignalsTo (actLatch r s).state := by
  unfold actLatch
  simp only
  split <;> exact s.strobe_signalsTo .latch

theorem actStatus_signals : (actStatus r s).state.signals = s.signals := by
  unfold actStatus
  simp only
  split <;> rfl

theorem actSetTime_signals : (actSetTime r s).state.signals = s.signals := by
  unfold actSetTime
  split <;> rfl

theorem actAdjust_signals : (actAdjust r s).state.signals = s.signals := by
  unfold actAdjust
  simp only
  split
  · rfl
  · split <;> rfl

theorem actSetLeap_signals : (actSetLeap r s).state.signals = s.signals := by
  unfold actSetLeap
  simp only
  split
  · rfl
  · split <;> rfl

theorem actSetLoop_signals : (actSetLoop r s).state.signals = s.signals := by
  unfold actSetLoop
  simp only
  split <;> rfl

theorem actSetReference_signals : (actSetReference r s).state.signals = s.signals := by
  unfold actSetReference
  simp only
  split <;> rfl

theorem actReadReference_signals : (actReadReference r s).state.signals = s.signals := by
  unfold actReadReference
  simp only
  split <;> rfl

theorem actReadSchedule_signals : (actReadSchedule r s).state.signals = s.signals := by
  unfold actReadSchedule
  simp only
  split
  · rfl
  · split <;> rfl
  · split <;> rfl
  · rfl

theorem actSetCycle_signals : (actSetCycle r s).state.signals = s.signals := by
  unfold actSetCycle
  simp only
  split <;> rfl

theorem actReadPort_signals : (actReadPort r s).state.signals = s.signals := by
  unfold actReadPort
  simp only
  split
  · simp only
    split <;> rfl
  · rfl

theorem actReadRack_signals : (actReadRack r s).state.signals = s.signals := by
  unfold actReadRack
  simp only
  split
  · simp only
    split <;> rfl
  · rfl

theorem actSetLine_signals : (actSetLine r s).state.signals = s.signals := by
  unfold actSetLine
  simp only
  split
  · split
    · rfl
    · split <;> rfl
  · rfl

theorem State.clearLines_signals : s.clearLines.signals = s.signals := by
  unfold State.clearLines
  generalize allLines = ls
  induction ls generalizing s with
  | nil => rfl
  | cons l ls ih => rw [List.foldl_cons, ih, State.setLine_signals]

theorem actReadLines_signals : (actReadLines r s).state.signals = s.signals := by
  unfold actReadLines
  simp only
  split
  · simp only
    split
    · exact s.clearLines_signals
    · rfl
  · split
    · simp only
      split <;> rfl
    · rfl
  · rfl

theorem actSetQueue_signals : (actSetQueue r s).state.signals = s.signals := by
  unfold actSetQueue
  simp only
  split <;> rfl

/-! ### Serving a request -/

/-- Every act of the catalogue is a run of moves. -/
theorem catalogue_signalsTo {n : Nat} {k : ReqKind} {act : Req → State → Served} (h : catalogue n = some (k, act)) :
    s.SignalsTo (act r s).state := by
  unfold catalogue at h
  split at h <;> cases h
  case h_1 => rfl
  case h_2 => exact .of_eq (actStatus_signals s r)
  case h_3 => exact actRestart_signalsTo s r
  case h_4 => rfl
  case h_5 => exact actLatch_signalsTo s r
  case h_6 => exact .of_eq rfl
  case h_7 => exact .of_eq (actSetTime_signals s r)
  case h_8 => exact .of_eq (actAdjust_signals s r)
  case h_9 => exact .of_eq (actSetLeap_signals s r)
  case h_10 => rfl
  case h_11 => exact .of_eq (actSetReference_signals s r)
  case h_12 => exact .of_eq (actReadReference_signals s r)
  case h_13 => exact .of_eq (actSetLoop_signals s r)
  case h_14 => exact actScheduleEdit_signalsTo s r
  case h_15 => exact actScheduleCommit_signalsTo s r
  case h_16 => exact actScheduleDiscard_signalsTo s r
  case h_17 => exact .of_eq (actReadSchedule_signals s r)
  case h_18 => exact .of_eq (actSetCycle_signals s r)
  case h_19 => exact actSetPort_signalsTo s r
  case h_20 => exact .of_eq (actReadPort_signals s r)
  case h_21 => exact .of_eq rfl
  case h_22 => exact .of_eq (actReadRack_signals s r)
  case h_23 => rfl
  case h_24 => exact .of_eq (actSetLine_signals s r)
  case h_25 => exact .of_eq (actReadLines_signals s r)
  case h_26 => exact .of_eq (actSetQueue_signals s r)
  case h_27 => exact .of_eq rfl
  case h_28 => exact actSetNotices_signalsTo s r
  case h_29 => exact actPoll_signalsTo s r

/-- A judged request leaves the signals that its block left, or, refused, those it found. -/
theorem State.conclude_signalsTo (kb : Byte) (x : Served) (h : s.SignalsTo x.state) : s.SignalsTo (s.conclude kb r x) := by
  have key : s.SignalsTo (if x.result.refuses then s.taken r else x.state) := by
    split
    · exact .of_eq (s.taken_signals r)
    · exact h
  refine key.trans_eq ?_
  unfold State.conclude
  simp only
  split <;> rfl

theorem State.serve_signalsTo (k : ReqKind) (act : Req → State → Served)
    (h : ∀ s : State, s.SignalsTo (act r s).state) : s.SignalsTo (s.serve k r act) := by
  rcases s.serve_cases k r act with ⟨-, e⟩ | ⟨-, -, e⟩ | ⟨-, -, -, e⟩ | ⟨-, -, -, -, e⟩ | ⟨-, -, -, -, e⟩ <;> rw [e]
  · exact .of_eq rfl
  · exact .of_eq rfl
  · exact .of_eq rfl
  · refine .after (State.conclude_signalsTo _ r _ _ ?_) (State.dropFrame_signals ..)
    refine .after ?_ (State.taken_signals _ r)
    split
    · exact h _
    · exact .refl _

theorem State.serveUnknown_signalsTo : s.SignalsTo (s.serveUnknown r) := by
  unfold State.serveUnknown State.throughLink State.receive
  split
  · rfl
  · split
    · exact .of_eq rfl
    · simp only
      split
      · exact .of_eq rfl
      · simp only [Bool.false_and, Bool.false_eq_true, if_false]
        exact (State.conclude_signalsTo _ r _ _ (.of_eq (State.taken_signals _ r))).after rfl

/-! ### LINK_RX and the pins -/

theorem State.judgeFrame_signalsTo (bs : List Byte) : s.SignalsTo (s.judgeFrame bs) := by
  unfold State.judgeFrame
  split
  · exact .of_eq rfl
  · split
    · exact .of_eq rfl
    · simp only
      split
      · rename_i h
        exact s.serve_signalsTo _ _ _ fun t => catalogue_signalsTo t _ h
      · exact s.serveUnknown_signalsTo _

theorem State.goodByte_signalsTo (b : Byte) : s.SignalsTo (s.goodByte b) := by
  unfold State.goodByte
  simp only
  split
  · split <;> exact .of_eq rfl
  · split
    · exact .of_eq rfl
    · split <;> exact .of_eq rfl
  · split
    · exact .of_eq rfl
    · exact s.judgeFrame_signalsTo _

theorem State.linkByte_signalsTo (b : SerialByte) : s.SignalsTo (s.linkByte b) := by
  unfold State.linkByte
  simp only
  split
  · exact .of_eq rfl
  · split
    · exact (State.goodByte_signalsTo _ _).after (s.setInByte_signals false)
    · exact .of_eq (State.badByte_signals _)

theorem State.sampleLink_signalsTo (x : SerialLine) : s.SignalsTo (s.sampleLink x) := by
  have start : ∀ t : State, s.SignalsTo t → s.SignalsTo (if x.starts then t.setInByte !t.mlc.deaf else t) := by
    intro t h
    split
    · exact h.trans_eq rfl
    · exact h
  unfold State.sampleLink
  simp only
  refine start _ ?_
  split
  · rfl
  · exact s.linkByte_signalsTo _

theorem State.samplePins_signalsTo (x : Pins) : s.SignalsTo (s.samplePins x) := by
  have h : ∀ (ls : List Line) (t : State),
      (ls.foldl (fun s l => s.sampleLine l (x.lines.getLsbD l.val)) t).signals = t.signals := by
    intro ls
    induction ls with
    | nil => exact fun _ => rfl
    | cons l ls ih => exact fun t => (ih _).trans (t.sampleLine_signals l _)
  unfold State.samplePins
  have hlines := (h allLines (s.note .pins)).trans (s.note_signals .pins)
  generalize allLines.foldl (fun s l => s.sampleLine l (x.lines.getLsbD l.val)) (s.note .pins) = t at hlines
  refine ((t.sampleHstb_signalsTo x.hstb).trans ((State.sampleLink_signalsTo _ x.linkRx).after ?_)).after hlines
  rw [State.sampleTod_signals, State.sampleTod_signals]

end Requests
end Sys2Proof.Machine
end

section
/-! PROOFS. What every command makes of the schedules and the pending set: a run of the moves of `Signals.Move`. -/
namespace Sys2Proof.Machine

section Commands

variable {s : State}

/-- What an outcome leads to, if a state, has its signals from `s` by moves. -/
def SignalsLead (s : State) (o : Host.Outcome State Fault Refusal) : Prop := ∀ t, o = .next t → s.SignalsTo t

theorem SignalsLead.next {t : State} (h : s.SignalsTo t) : SignalsLead s (.next t) := by
  rintro u ⟨⟩
  exact h

theorem SignalsLead.same {t : State} (h : t.signals = s.signals) : SignalsLead s (.next t) := .next (.of_eq h)

variable (s)

/-! ### Resets and rolls -/

theorem execPowerOn_signals (st : Straps) : SignalsLead s (execPowerOn st s) := .next (.of_move (.reset _) rfl)

theorem execPinReset_signals : SignalsLead s (execPinReset s) := .next (.of_move (.reset _) rfl)

theorem execResetnRelease_signals (st : Straps) : SignalsLead s (execResetnRelease st s) := by
  unfold execResetnRelease
  split
  · exact .next (.of_move (.reset _) rfl)
  · exact .same rfl

theorem execSecondBoundary_signals (x : RollInputs) : SignalsLead s (execSecondBoundary x s) := by
  unfold execSecondBoundary
  split
  · exact .same rfl
  · exact .next (s.roll_signalsTo _ _)

theorem execSuppressedRoll_signals : SignalsLead s (execSuppressedRoll s) := by
  unfold execSuppressedRoll
  split
  · exact .same rfl
  · exact .next (s.roll_signalsTo _ _)

theorem execOscillatorTick_signals (n : Nat) (x : Pins) : SignalsLead s (execOscillatorTick n x s) := by
  unfold execOscillatorTick
  split
  · exact .same rfl
  · split
    · exact .next ((State.samplePins_signalsTo _ x).after (s.runTicks_signals _))
    · exact .next ((s.roll_signalsTo _ _).trans (State.samplePins_signalsTo _ x))

/-! ### Timed events -/

theorem execCycleStart_signals (sec : RowSec) (k : Nat) : SignalsLead s (execCycleStart sec k s) := by
  unfold execCycleStart
  simp only
  split
  · exact .same rfl
  · split
    · exact .same rfl
    · rename_i t ht
      have h : t.signals = s.signals := by
        split at ht
        · cases ht
          rfl
        · exact State.reach_signals ht
      split
      · exact .same rfl
      · exact .same h

theorem execReferencePulse_signals (i : Input) : SignalsLead s (execReferencePulse i s) := by
  unfold execReferencePulse
  simp only
  split
  · exact .same rfl
  · refine .next ?_
    split
    · exact (State.raiseNotice_signalsTo _ _ _).after (s.setInput_signals i _)
    · exact .of_eq (s.setInput_signals i _)

theorem execMessageArrival_signals (i : Input) (b : Vector Byte 18) : SignalsLead s (execMessageArrival i b s) := by
  unfold execMessageArrival
  split
  · exact .same rfl
  · exact .same (s.setInput_signals i _)

theorem execMessageFramingError_signals (i : Input) : SignalsLead s (execMessageFramingError i s) := by
  unfold execMessageFramingError
  split
  · exact .same rfl
  · exact .same (s.setInput_signals i _)

theorem execMessageGapTimeout_signals (i : Input) : SignalsLead s (execMessageGapTimeout i s) := by
  unfold execMessageGapTimeout
  split
  · exact .same rfl
  · cases h : s.reachTick ((s.input i).lastTick + longestGap + 1) with
    | none => exact .same rfl
    | some t => exact .same ((t.gapTimeout_signals i).trans (State.reachTick_signals h))

section Expiries

/-! The two expiries that are matched on an observation or a latch first, with the wait for their instant a variable: the
kernel is not to evaluate its ticks. -/

variable (f : State → Nat → Nat → Option State)
  (hf : ∀ {s t : State} {a b : Nat}, f s a b = some t → t.signals = s.signals)

include hf in
theorem messageWindow_signals (i : Input) :
    SignalsLead s (if s.mlc.held then .next s
      else match (s.input i).obs with
        | none => .next s
        | some o =>
          match f s o.stamp 600000000 with
          | none => .next s
          | some t => .next (t.setInput i (t.input i).closeOpen)) := by
  split
  · exact .same rfl
  · split
    · exact .same rfl
    · split
      · exact .same rfl
      · rename_i t ht
        exact .same ((t.setInput_signals i _).trans (hf ht))

include hf in
theorem qualification_signals (l : Line) :
    SignalsLead s (if s.mlc.held then .next s
      else match (s.line l).latch with
        | .qualifying c =>
          match f s c.stamp (s.line l).cfg.width with
          | none => .next s
          | some t => .next (t.setLine l ((t.line l).qualify c))
        | .empty => .next s
        | .held _ => .next s
        | .waitRelease => .next s) := by
  split
  · exact .same rfl
  · split
    · split
      · exact .same rfl
      · rename_i t ht
        exact .same ((t.setLine_signals l _).trans (hf ht))
    · exact .same rfl
    · exact .same rfl
    · exact .same rfl

end Expiries

theorem execMessageWindowExpiry_signals (i : Input) : SignalsLead s (execMessageWindowExpiry i s) :=
  messageWindow_signals s State.reachElapsed State.reachElapsed_signals i

theorem execQualificationExpiry_signals (l : Line) : SignalsLead s (execQualificationExpiry l s) :=
  qualification_signals s State.reachElapsed State.reachElapsed_signals l

theorem execMissingPulseExpiry_signals (i : Input) : SignalsLead s (execMissingPulseExpiry i s) := by
  unfold execMissingPulseExpiry
  split
  · exact .same rfl
  · split
    · exact .same rfl
    · split
      · split
        · exact .same rfl
        · rename_i t ht
          exact .same ((t.setInput_signals i _).trans (State.reachElapsed_signals ht))
      · exact .same rfl

theorem execEdgeEmission_signals (p : Port) (ix : EntryIx) (sec : RowSec) : SignalsLead s (execEdgeEmission p ix sec s) := by
  unfold execEdgeEmission
  simp only
  split
  · exact .same rfl
  · split
    · exact .same rfl
    · rename_i t ht
      split
      · exact .same rfl
      · exact .same (((State.note_signals _ _).trans (t.emit_signals p _ _ _)).trans (State.reach_signals ht))

theorem execTickEmission_signals (ix : EntryIx) (sec : RowSec) : SignalsLead s (execTickEmission ix sec s) := by
  unfold execTickEmission
  simp only
  split
  · exact .same rfl
  · split
    · exact .same rfl
    · rename_i t ht
      split
      · exact .same rfl
      · exact .same (((State.note_signals _ _).trans (t.raiseMarker_signals _ _)).trans (State.reach_signals ht))

theorem execCycleCompensatedInstant_signals (p : Port) (sec : RowSec) (k : Nat) (b : Bool) :
    SignalsLead s (execCycleCompensatedInstant p sec k b s) := by
  unfold execCycleCompensatedInstant
  simp only
  split
  · exact .same rfl
  · split
    · exact .same rfl
    · rename_i t ht
      have h : t.signals = s.signals := by
        split at ht
        · cases ht
          rfl
        · exact State.reach_signals ht
      split
      · exact .same rfl
      · exact .next ((t.cycleWork_outside p sec k _ _ b).signals.after h)

/-! ### Rack frames -/

theorem execEchoReceived_signals (p : Port) (f : List Byte) (n : Nat) : SignalsLead s (execEchoReceived p f n s) := by
  unfold execEchoReceived
  split
  · exact .same rfl
  · exact .next (s.frameEnd_signalsTo p _ n)

theorem execCallReceived_signals (p : Port) : SignalsLead s (execCallReceived p s) := by
  unfold execCallReceived
  split
  · exact .same rfl
  · exact .next (s.frameEnd_signalsTo p _ 0)

theorem execRackFrameRejected_signals (p : Port) (c : RackCheck) : SignalsLead s (execRackFrameRejected p c s) := by
  unfold execRackFrameRejected
  split
  · exact .same rfl
  · exact .next (s.frameEnd_signalsTo p _ 0)

theorem execReplyWindowExpiry_signals (p : Port) (b : Bool) : SignalsLead s (execReplyWindowExpiry p b s) := by
  unfold execReplyWindowExpiry
  split
  · exact .same rfl
  · split
    · exact .same rfl
    · split
      · exact .same rfl
      · split
        · exact .same rfl
        · rename_i t ht
          have h := State.reachElapsed_signals ht
          split
          · exact .same ((t.setPort_signals p _).trans h)
          · exact .next ((t.missEcho_signalsTo p).after h)

theorem execRackReceiverReopen_signals (p : Port) : SignalsLead s (execRackReceiverReopen p s) := by
  unfold execRackReceiverReopen
  simp only
  split
  · exact .same rfl
  · split <;> exact .same rfl

/-! ### Lines, HSTB and the stamp queue -/

theorem execLineEdge_signals (l : Line) (b : Bool) : SignalsLead s (execLineEdge l b s) := by
  unfold execLineEdge
  split
  · exact .same rfl
  · split
    · exact .same rfl
    · rename_i t ht
      exact .same (((State.note_signals _ _).trans (t.sampleLine_signals l b)).trans (State.freeTick_signals ht))

theorem execStrobeEdge_signals : SignalsLead s (execStrobeEdge s) := by
  unfold execStrobeEdge
  split
  · exact .same rfl
  · split
    · exact .same rfl
    · rename_i t ht
      obtain ⟨u, hu, hv⟩ := Option.bind_eq_some_iff.mp ht
      exact .next ((State.hstbLow_signalsTo hu).trans ((t.sampleHstb_signalsTo true).after (State.freeTick_signals hv)))

theorem execAdmission_signals : SignalsLead s (execAdmission s) := by
  unfold execAdmission
  split
  · exact .same rfl
  · split
    · exact .same rfl
    · rename_i t ht
      have h : t.signals = s.signals := State.freeTick_signals ht
      split
      · exact .same h
      · rename_i u hu
        exact .next (((State.arbiter_signalsTo hu).trans_eq (u.note_signals .arbiter)).after h)

/-! ### The management link -/

theorem execLinkFramingError_signals : SignalsLead s (execLinkFramingError s) := by
  unfold execLinkFramingError
  split
  · exact .same rfl
  · exact .same s.badByte_signals

theorem execLengthError_signals : SignalsLead s (execLengthError s) := by
  unfold execLengthError
  split <;> exact .same rfl

theorem execInterByteTimeout_signals : SignalsLead s (execInterByteTimeout s) := by
  unfold execInterByteTimeout
  split
  · exact .same rfl
  · cases h : s.reachTick (s.mlc.rx.lastTick + longestGap + 1) with
    | none => exact .same rfl
    | some t => exact .same (t.linkTimeout_signals.trans (State.reachTick_signals h))

theorem execCrcError_signals : SignalsLead s (execCrcError s) := by
  unfold execCrcError
  split <;> exact .same rfl

theorem execOtherFrame_signals : SignalsLead s (execOtherFrame s) := by
  unfold execOtherFrame
  split <;> exact .same rfl

theorem execBusyDiscard_signals : SignalsLead s (execBusyDiscard s) := by
  unfold execBusyDiscard
  split <;> exact .same rfl

theorem execBroadcastQuery_signals : SignalsLead s (execBroadcastQuery s) := by
  unfold execBroadcastQuery
  split
  · exact .same rfl
  · split <;> exact .same rfl

theorem execReplyStart_signals : SignalsLead s (execReplyStart s) := by
  unfold execReplyStart
  split
  · split <;> exact .same rfl
  · exact .same rfl
  · exact .same rfl
  · exact .same rfl
  · exact .same rfl

theorem execReplyCompletion_signals : SignalsLead s (execReplyCompletion s) := by
  unfold execReplyCompletion
  simp only
  split
  · exact .same rfl
  · refine .next ?_
    split
    · exact ((State.restart_signalsTo _).trans (State.freeTransmitter_signalsTo _)).after (s.setMlc_signals _)
    · exact (State.freeTransmitter_signalsTo _).after (s.setMlc_signals _)

theorem execNoticeCompletion_signals : SignalsLead s (execNoticeCompletion s) := by
  unfold execNoticeCompletion
  simp only
  split
  · exact .same rfl
  · split
    · exact .same rfl
    · exact .next ((State.freeTransmitter_signalsTo _).after (s.setMlc_signals _))

theorem execLinkDeDeassert_signals : SignalsLead s (execLinkDeDeassert s) := by
  unfold execLinkDeDeassert
  split <;> exact .same rfl

/-! ### Every command, and every step -/

theorem exec_signals (c : Instr) : SignalsLead s (exec c s) := by
  cases h : requestOf c with
  | some x =>
    obtain ⟨act, ha, he⟩ := exec_of_catalogue (k := x.1) (r := x.2) h
    rw [he]
    exact .next (s.serve_signalsTo _ _ _ fun t => catalogue_signalsTo t _ ha)
  | none =>
    cases c <;> simp only [requestOf, reduceCtorEq] at h
    case powerOn st => exact execPowerOn_signals s st
    case pinReset => exact execPinReset_signals s
    case secondBoundary x => exact execSecondBoundary_signals s x
    case suppressedRoll => exact execSuppressedRoll_signals s
    case cycleStart sec k => exact execCycleStart_signals s sec k
    case referencePulse i => exact execReferencePulse_signals s i
    case messageArrival i b => exact execMessageArrival_signals s i b
    case messageFramingError i => exact execMessageFramingError_signals s i
    case messageGapTimeout i => exact execMessageGapTimeout_signals s i
    case messageWindowExpiry i => exact execMessageWindowExpiry_signals s i
    case missingPulseExpiry i => exact execMissingPulseExpiry_signals s i
    case edgeEmission p ix sec => exact execEdgeEmission_signals s p ix sec
    case tickEmission ix sec => exact execTickEmission_signals s ix sec
    case cycleCompensatedInstant p sec k b => exact execCycleCompensatedInstant_signals s p sec k b
    case echoReceived p f n => exact execEchoReceived_signals s p f n
    case callReceived p => exact execCallReceived_signals s p
    case rackFrameRejected p c => exact execRackFrameRejected_signals s p c
    case replyWindowExpiry p b => exact execReplyWindowExpiry_signals s p b
    case lineEdge l b => exact execLineEdge_signals s l b
    case qualificationExpiry l => exact execQualificationExpiry_signals s l
    case strobeEdge => exact execStrobeEdge_signals s
    case admission => exact execAdmission_signals s
    case linkFramingError => exact execLinkFramingError_signals s
    case lengthError => exact execLengthError_signals s
    case interByteTimeout => exact execInterByteTimeout_signals s
    case crcError => exact execCrcError_signals s
    case otherFrame => exact execOtherFrame_signals s
    case busyDiscard => exact execBusyDiscard_signals s
    case unknownRequest r => exact .next (s.serveUnknown_signalsTo r)
    case broadcastQuery => exact execBroadcastQuery_signals s
    case replyStart => exact execReplyStart_signals s
    case replyCompletion => exact execReplyCompletion_signals s
    case noticeCompletion => exact execNoticeCompletion_signals s
    case oscillatorTick n x => exact execOscillatorTick_signals s n x
    case resetnRelease st => exact execResetnRelease_signals s st
    case linkDeDeassert => exact execLinkDeDeassert_signals s
    case rackReceiverReopen p => exact execRackReceiverReopen_signals s p

theorem step_signalsTo {t : State} (h : step s = .next t) : s.SignalsTo t := by
  unfold step at h
  split at h
  · cases h
    rfl
  · rename_i c cs _
    exact (exec_signals (s.setPending cs) c t h).after (s.setPending_signals cs)

end Commands
end Sys2Proof.Machine
end

section
/-! PROOFS. The schedules free of conflicts, ATTN and the class pointers (03 R44, R46; 10 R172, R173, R177): each is kept by
every move, so by every step. -/
namespace Sys2Proof.Machine

/-! ### The schedules (03 R44, R46) -/

/-- `Eds.SchedulesSound` of the signals. -/
def Signals.SchedulesSound (x : Signals) : Prop := ConflictFree x.active ∧ (x.armed = true → ConflictFree x.pend)

theorem conflictFree_clear : ConflictFree (Vector.replicate 32 Entry.clear) := by
  intro i j _
  simp [Entry.conflicts, Entry.clear]

theorem Signals.Move.keeps_schedules {x y : Signals} (m : Signals.Move x y) (h : x.SchedulesSound) : y.SchedulesSound := by
  obtain ⟨hactive, hpend⟩ := h
  cases m with
  | write v => exact ⟨hactive, fun k => by cases k⟩
  | arm hc => exact ⟨hactive, fun _ => hc⟩
  | activate ha => exact ⟨hpend ha, fun k => by cases k⟩
  | raise p v sec => exact ⟨hactive, hpend⟩
  | deliver => exact ⟨hactive, hpend⟩
  | mask v => exact ⟨hactive, hpend⟩
  | reset => exact ⟨conflictFree_clear, fun _ => conflictFree_clear⟩

/-! ### ATTN (10 R177) -/

theorem Ntu.settle_attnFollows (n : Ntu) : n.settle.AttnFollows := rfl

/-- A delivery takes nothing, or the entry at the chosen place. -/
theorem Ntu.deliver_cases (n : Ntu) : n.deliver.2 = n ∨ ∃ p, n.deliver.2 = n.remove p := by
  unfold Ntu.deliver
  split
  · exact .inl rfl
  · split
    · exact .inl rfl
    · exact .inr ⟨_, rfl⟩

theorem Ntu.initial_attnFollows : Ntu.initial.AttnFollows := by
  have h : ∀ p, Ntu.initial.deliverable p = false := fun p => by
    simp [Ntu.deliverable, Ntu.at, Ntu.initial]
  have hany : Ntu.initial.anyDeliverable = false := List.any_eq_false.mpr fun p _ => by rw [h p]; exact Bool.false_ne_true
  exact hany.symm

theorem Signals.Move.keeps_attn {x y : Signals} (m : Signals.Move x y) (h : x.ntu.AttnFollows) : y.ntu.AttnFollows := by
  cases m with
  | write v => exact h
  | arm hc => exact h
  | activate ha => exact h
  | raise p v sec => exact Ntu.settle_attnFollows _
  | deliver =>
    change x.ntu.deliver.2.AttnFollows
    rcases x.ntu.deliver_cases with e | ⟨p, e⟩ <;> rw [e]
    · exact h
    · exact Ntu.settle_attnFollows _
  | mask v => exact Ntu.settle_attnFollows _
  | reset => exact Ntu.initial_attnFollows

/-! ### The class pointers (10 R172, R173) -/

theorem classSize_pos (c : Fin 6) : 0 < classSize c := by
  revert c
  decide

/-- A delivery leaves a pointer where it was, or on a position of its class. -/
theorem Ntu.PointersInRange.remove {n : Ntu} (h : n.PointersInRange) (p : Place) : (n.remove p).PointersInRange := by
  intro c
  change (n.pointers.set p.position.1 ((p.position.2 + 1) % classSize p.position.1))[c] < classSize c
  by_cases hc : p.position.1 = c
  · subst hc
    simp [Nat.mod_lt _ (classSize_pos _)]
  · have hv : p.position.1.val ≠ c.val := fun e => hc (Fin.ext e)
    simpa [hv] using h c

theorem Signals.Move.keeps_pointers {x y : Signals} (m : Signals.Move x y) (h : x.ntu.PointersInRange) :
    y.ntu.PointersInRange := by
  cases m with
  | write v => exact h
  | arm hc => exact h
  | activate ha => exact h
  | raise p v sec => exact h
  | deliver =>
    change x.ntu.deliver.2.PointersInRange
    rcases x.ntu.deliver_cases with e | ⟨p, e⟩ <;> rw [e]
    · exact h
    · exact h.remove p
  | mask v => exact h
  | reset =>
    intro c
    simpa [Signals.initial, Ntu.initial] using classSize_pos c

/-! ### The statement -/

/-- Settles O58: every step is a run of moves, and each move keeps the three. -/
theorem stepKeepsSchedulesAndAttnSound : Obligations.StepKeepsSchedulesAndAttnSound := by
  refine ⟨fun s t hs h => ?_, fun s t hs h => ?_, fun s t hs h => ?_⟩
  · exact (step_signalsTo s h).keeps (P := Signals.SchedulesSound) (fun _ _ m => m.keeps_schedules) hs
  · exact (step_signalsTo s h).keeps (P := fun x => x.ntu.AttnFollows) (fun _ _ m => m.keeps_attn) hs
  · exact (step_signalsTo s h).keeps (P := fun x => x.ntu.PointersInRange) (fun _ _ m => m.keeps_pointers) hs

end Sys2Proof.Machine
end

section
/-! PROOFS. SCHEDULE EDIT, COMMIT and DISCARD (03 R43 to R45). -/
namespace Sys2Proof.Machine

/-! ### The conflicting pair (03 R44) -/

/-- In a list in order, what is below an element stands before it. -/
theorem mem_front_of_lt {xs front back : List EntryIx} {a k : EntryIx} (hs : xs.Pairwise (· < ·))
    (he : xs = front ++ a :: back) (hk : k ∈ xs) (h : k < a) : k ∈ front := by
  subst he
  obtain ⟨-, hback, -⟩ := List.pairwise_append.mp hs
  rcases List.mem_append.mp hk with hk | hk
  · exact hk
  · rcases List.mem_cons.mp hk with rfl | hk
    · exact absurd h (lt_irrefl k)
    · exact absurd ((List.pairwise_cons.mp hback).1 k hk) (lt_asymm h)

theorem allEntries_ordered : allEntries.Pairwise (· < ·) := by decide

/-- The pair found conflicts, and no conflicting pair has a lower i, nor a lower j with its i. -/
theorem firstConflict_lowest {xs : Vector Entry 32} {a b : EntryIx} (h : firstConflict xs = some (a, b)) :
    a < b ∧ xs[a].conflicts xs[b] = true
    ∧ ∀ k l : EntryIx, k < l → xs[k].conflicts xs[l] = true → a ≤ k ∧ (k = a → b ≤ l) := by
  unfold firstConflict at h
  obtain ⟨front, i, back, hi, hfound, hnone⟩ := List.findSome?_eq_some_iff.mp h
  obtain ⟨j, hj, e⟩ := Option.map_eq_some_iff.mp hfound
  obtain ⟨rfl, rfl⟩ := Prod.mk.inj e
  obtain ⟨hconf, front', back', hj', hnone'⟩ := List.find?_eq_some_iff_append.mp hj
  simp only [Bool.and_eq_true, decide_eq_true_eq] at hconf
  obtain ⟨hlt, hconf⟩ := hconf
  refine ⟨hlt, hconf, fun k l hkl hk => ?_⟩
  have hfits : (decide (k.val < l.val) && xs[k].conflicts xs[l]) = true := by
    rw [hk, decide_eq_true (Fin.lt_def.mp hkl)]
    rfl
  refine ⟨?_, ?_⟩
  · by_contra hlow
    have hmem := mem_front_of_lt allEntries_ordered hi (mem_allEntries k) (not_le.mp hlow)
    exact List.find?_eq_none.mp (Option.map_eq_none_iff.mp (hnone k hmem)) l (mem_allEntries l) hfits
  · rintro rfl
    by_contra hlow
    have hmem := mem_front_of_lt allEntries_ordered hj' (mem_allEntries l) (not_le.mp hlow)
    have hl := hnone' l hmem
    rw [hfits] at hl
    cases hl

theorem firstConflict_of_conflictFree {xs : Vector Entry 32} (h : ConflictFree xs) : firstConflict xs = none := by
  cases hf : firstConflict xs with
  | none => rfl
  | some x =>
    obtain ⟨hlt, hconf, -⟩ := firstConflict_lowest (a := x.1) (b := x.2) hf
    rw [h _ _ hlt] at hconf
    cases hconf

/-- The conflicting pair of lowest i, then lowest j, is the one found. -/
theorem firstConflict_eq_some {xs : Vector Entry 32} {i j : EntryIx} (hij : i < j) (hc : xs[i].conflicts xs[j] = true)
    (hmin : ∀ k l : EntryIx, k < l → xs[k].conflicts xs[l] = true → i.val < k.val ∨ (i.val = k.val ∧ j.val ≤ l.val)) :
    firstConflict xs = some (i, j) := by
  cases hf : firstConflict xs with
  | none =>
    rw [firstConflict_eq_none hf i j hij] at hc
    cases hc
  | some x =>
    obtain ⟨a, b⟩ := x
    obtain ⟨hlt, hconf, hlow⟩ := firstConflict_lowest hf
    obtain ⟨hai, hbj⟩ := hlow i j hij hc
    have hia : i.val = a.val ∧ j.val ≤ b.val := (hmin a b hlt hconf).resolve_left fun h => by
      have := Fin.le_def.mp hai
      omega
    have ha : i = a := Fin.ext hia.1
    have hb : j = b := le_antisymm (Fin.le_def.mpr hia.2) (hbj ha)
    rw [ha, hb]

/-! ### The requests -/

section Requests

variable {s : State} {r : Req}

theorem Action.ofCode_eq_some {k : Nat} {a : Action} (h : a.code = k) : Action.ofCode k = some a := by
  subst h
  cases a <;> rfl

theorem Action.ofCode_eq_none {k : Nat} (h : 2 < k) : Action.ofCode k = none := by
  match k, h with
  | k + 3, _ => rfl

/-- A request that the hub takes and its block carries out by a new EDS record leaves that record and the link concluded. -/
theorem State.serve_setEds {k : ReqKind} (h : s.Takes k r) (hk : k.length ≤ 248) {act : Req → State → Served}
    (f : Eds → Eds) {res : Result} (hr : res.refuses = false)
    (ha : act r ((s.dropFrame s.mlc.ctr).taken r) =
      ⟨((s.dropFrame s.mlc.ctr).taken r).setEds (f ((s.dropFrame s.mlc.ctr).taken r).eds), res, []⟩) :
    s.serve k r act = (s.setEds (f s.eds)).concluded (k.code + 0x80) r res [] := by
  rw [State.serve_of_takes h hk, ha]
  exact State.conclude_of_update (fun s => s.setEds (f s.eds)) (fun _ _ => rfl) hr h.idle

theorem State.taken_eds : ((s.dropFrame s.mlc.ctr).taken r).eds = s.eds := by
  obtain ⟨m, hm, -⟩ := State.taken_eq (s := s) (r := r)
  rw [hm]
  rfl

theorem actScheduleEdit_invalid (t : State) (h : 32 ≤ (EditReq.read r.payload).index ∨ 2 < (EditReq.read r.payload).action) :
    actScheduleEdit r t = .refuse t .invalid := by
  unfold actScheduleEdit
  simp only
  split
  · rename_i hi
    rw [Action.ofCode_eq_none (h.resolve_left (by omega))]
  · rfl

/-- The entry that SCHEDULE EDIT writes, its offset clamped (03 R43). -/
def EditReq.entry (q : EditReq) (a : Action) : Entry := ⟨q.used, clampNat 0 999999999 q.offset, q.ports, a, q.mask⟩

theorem actScheduleEdit_accepted (t : State) {i : EntryIx} {a : Action} (hi : i.val = (EditReq.read r.payload).index)
    (ha : a.code = (EditReq.read r.payload).action) :
    actScheduleEdit r t =
      ⟨t.setEds { t.eds with pend := t.eds.pend.set i ((EditReq.read r.payload).entry a), armed := false },
        if clampNat 0 999999999 (EditReq.read r.payload).offset = (EditReq.read r.payload).offset then .done
        else .doneClamped, []⟩ := by
  unfold actScheduleEdit
  simp only [Action.ofCode_eq_some ha, Result.ofClamp_ne, ← hi, i.isLt, dite_true]
  rfl

/-- Settles O32: an edit's one entry; the pair that COMMIT finds is the lowest, and it finds none exactly without conflicts. -/
theorem scheduleRequestsEditCommitDiscard : Obligations.ScheduleRequestsEditCommitDiscard := by
  intro s r
  refine ⟨fun h => ⟨fun hv => ?_, fun i a hi ha => ?_⟩, fun h => ⟨fun hfree => ?_, fun i j hij hc hmin => ?_⟩, fun h => ?_⟩
  · exact congrArg _ (State.serve_refused h (by decide) (actScheduleEdit_invalid _ hv))
  · exact congrArg _ (State.serve_setEds h (by decide)
      (fun e => { e with pend := e.pend.set i ((EditReq.read r.payload).entry a), armed := false })
      (Result.ite_refuses _) (actScheduleEdit_accepted _ hi ha))
  · refine congrArg _ (State.serve_setEds h (by decide) (fun e => { e with armed := true }) rfl ?_)
    unfold actScheduleCommit
    rw [State.taken_eds, firstConflict_of_conflictFree hfree]
  · refine congrArg _ ((State.serve_of_takes h (by decide) actScheduleCommit).trans ?_)
    unfold actScheduleCommit
    rw [State.taken_eds, firstConflict_eq_some hij hc hmin]
    exact State.conclude_of_kept h.idle
  · exact congrArg _ (State.serve_setEds h (by decide) (fun e => { e with pend := e.active, armed := false }) rfl rfl)

end Requests
end Sys2Proof.Machine
end

section
/-! PROOFS. Emissions and TICKs at their instants (03 R42, R47 to R52; 07 R126, R127). -/
namespace Sys2Proof.Machine

/-! ### What an emission turns on -/

/-- An emission is early where its offset is below the compensation (03 R47). -/
theorem edgeInstant_eq (sec : RowSec) (o c : Nat) : edgeInstant sec o c =
    (if decide (o < c) then ⟨sec - 1, 1000000000 + o - c⟩ else ⟨sec, o - c⟩, decide (o < c)) := by
  unfold edgeInstant
  by_cases h : o < c
  · rw [if_neg (not_le.mpr h), decide_eq_true h, if_pos rfl]
  · rw [if_pos (not_lt.mp h), decide_eq_false h, if_neg Bool.false_ne_true]

theorem Entry.drives_iff (e : Entry) : e.drives = true ↔ e.action ≠ .tick := by
  simp [Entry.drives]

/-- An entry emits on a port in a second (03 R42). -/
theorem Entry.emits_iff (e : Entry) (p : Port) (sec : RowSec) : e.emits p sec = true ↔
    e.used = true ∧ e.action ≠ .tick ∧ e.has p = true ∧ e.fires sec = true := by
  simp [Entry.emits, Entry.drives_iff, and_assoc]

theorem Eds.allows_iff (e : Eds) (p : Port) (o : Nat) (early : Bool) : e.allows p o early = true ↔
    if early then e.armed = false else e.earlyBelow[p] ≤ o := by
  cases early <;> simp [Eds.allows]

section Instants

variable {s t : State}

theorem State.hasTaken_iff {e : TickEvent} : s.hasTaken e = true ↔ e ∈ s.clk.taken := List.contains_iff_mem

/-- In the quiet interval an emission is suppressed but for one of the second that the closing boundary begins (03 R52). -/
theorem State.suppressed_iff {sec : RowSec} : s.suppressed sec = true ↔
    s.tsu.quiet = true ∧ (sec = s.tsu.ts.sec + 1 → s.tsu.mark = some sec) := by
  by_cases h : sec = s.tsu.ts.sec + 1 <;> by_cases k : s.tsu.mark = some sec <;> simp [State.suppressed, h, k]

/-- The order of a tick's emissions on one port (03 R49). -/
theorem State.drivenAfter_iff {p : Port} {i : Time} {sec : RowSec} : s.drivenAfter p i sec = true ↔
    ∃ (j : Time) (v : RowSec), TickEvent.drive p j v ∈ s.clk.taken ∧ (0 < j.diff i ∨ (j = i ∧ 0 < secDiff v sec)) := by
  unfold State.drivenAfter
  rw [List.any_eq_true]
  constructor
  · rintro ⟨e, he, h⟩
    cases e with
    | drive q j u =>
      simp only [Bool.and_eq_true, Bool.or_eq_true, decide_eq_true_eq, beq_iff_eq] at h
      obtain ⟨rfl, h⟩ := h
      exact ⟨j, u, he, h⟩
    | _ => cases h
  · rintro ⟨j, v, he, h⟩
    exact ⟨_, he, by simpa using h⟩

/-! ### EDGE_EMISSION -/

section Edge

variable {p : Port} {ix : EntryIx} {sec : RowSec}

/-- The instant of an entry's emission, and whether it is early. -/
def State.edgeAt (s : State) (p : Port) (ix : EntryIx) (sec : RowSec) : Time × Bool :=
  edgeInstant sec s.eds.active[ix].offset (s.comp p)

/-- An emission of the second and the port, made neither early against the armed flag nor twice in two seconds. -/
structure State.Emits (s : State) (p : Port) (ix : EntryIx) (sec : RowSec) : Prop where
  entry : s.eds.active[ix].emits p sec = true
  port : (s.port p).state ≠ .down
  allowed : s.eds.allows p s.eds.active[ix].offset (s.edgeAt p ix sec).2 = true

theorem exec_edgeEmission_of_not_emits (h : ¬s.Emits p ix sec) : exec (.edgeEmission p ix sec) s = .next s := by
  refine if_pos ?_
  by_contra k
  simp only [Bool.or_eq_true, not_or, Bool.not_eq_true', Bool.not_eq_true, Bool.not_eq_false, beq_iff_eq] at k
  obtain ⟨⟨⟨-, he⟩, hp⟩, ha⟩ := k
  exact h ⟨he, hp, ha⟩

theorem exec_edgeEmission_of_unreached (h : s.reach (s.edgeAt p ix sec).1 = none) :
    exec (.edgeEmission p ix sec) s = .next s := by
  unfold State.edgeAt at h
  change execEdgeEmission p ix sec s = _
  unfold execEdgeEmission
  simp only [h, ite_self]

/-- At its tick an emission is made, unless that tick lies in another second, it is suppressed or it has been made. -/
theorem exec_edgeEmission_of_reached (hh : s.mlc.held = false) (he : s.Emits p ix sec)
    (ht : s.reach (s.edgeAt p ix sec).1 = some t) :
    exec (.edgeEmission p ix sec) s =
      if (s.edgeAt p ix sec).1.sec ≠ t.now.sec ∨ t.suppressed sec = true ∨ TickEvent.edge p ix sec ∈ t.clk.taken then
        .next s
      else .next ((t.emit p s.eds.active[ix].action (s.edgeAt p ix sec).1 sec).note (.edge p ix sec)) := by
  obtain ⟨hentry, hport, hallowed⟩ := he
  unfold State.edgeAt at ht hallowed ⊢
  change execEdgeEmission p ix sec s = _
  unfold execEdgeEmission
  simp only [hh, hentry, hallowed, ht, beq_eq_false_iff_ne.mpr hport, Bool.not_true, Bool.or_false, Bool.false_eq_true,
    if_false, Bool.or_eq_true, decide_eq_true_eq, State.hasTaken_iff, or_assoc]

/-- An emission leaves its line's level, unless a later one of the tick has given it, and is noted twice. -/
theorem State.emit_note_eq (t : State) (p : Port) (a : Action) (i : Time) (sec : RowSec) (e : TickEvent) :
    (t.emit p a i sec).note e =
      (if t.drivenAfter p i sec = true then t
        else t.setEds { t.eds with level := t.eds.level.set p (decide (a = .rise)) }).setClk
        { t.clk with taken := e :: .drive p i sec :: t.clk.taken } := by
  unfold State.emit
  split <;> rfl

end Edge

/-! ### TICK_EMISSION -/

section Ticks

variable {ix : EntryIx} {sec : RowSec}

/-- A used TICK of the second. -/
structure Entry.Ticks (e : Entry) (sec : RowSec) : Prop where
  used : e.used = true
  action : e.action = .tick
  fires : e.fires sec = true

theorem exec_tickEmission_of_not_ticks (h : ¬s.eds.active[ix].Ticks sec) : exec (.tickEmission ix sec) s = .next s := by
  refine if_pos ?_
  by_contra k
  simp only [Bool.or_eq_true, not_or, Bool.not_eq_true', Bool.not_eq_false, Entry.drives_iff, not_not] at k
  obtain ⟨⟨⟨-, hu⟩, ha⟩, hf⟩ := k
  exact h ⟨hu, ha, hf⟩

theorem exec_tickEmission_of_unreached (h : s.reach ⟨sec, s.eds.active[ix].offset⟩ = none) :
    exec (.tickEmission ix sec) s = .next s := by
  change execTickEmission ix sec s = _
  unfold execTickEmission
  simp only [h, ite_self]

/-- At its tick a TICK raises its marker, unless that tick lies in another second, it is suppressed or it has been raised. -/
theorem exec_tickEmission_of_reached (hh : s.mlc.held = false) (he : s.eds.active[ix].Ticks sec)
    (ht : s.reach ⟨sec, s.eds.active[ix].offset⟩ = some t) :
    exec (.tickEmission ix sec) s =
      if sec ≠ t.now.sec ∨ t.suppressed sec = true ∨ TickEvent.tick ix sec ∈ t.clk.taken then .next s
      else .next ((t.raiseMarker t.hdr (.tick 1)).note (.tick ix sec)) := by
  obtain ⟨hu, ha, hf⟩ := he
  have hd : s.eds.active[ix].drives = false := by
    rw [Bool.eq_false_iff, Ne, Entry.drives_iff, not_not]
    exact ha
  change execTickEmission ix sec s = _
  unfold execTickEmission
  simp only [hh, hu, hd, hf, ht, Bool.not_true, Bool.or_false, Bool.false_eq_true, if_false, Bool.or_eq_true,
    decide_eq_true_eq, State.hasTaken_iff, or_assoc]

/-- What `k` TICKs make of the entry that waits, `h` the header of the first (07 R126, R127). -/
def tickWaiting (k : Nat) (h : Hdr) : Option CountWait → CountWait
  | none => ⟨h, k⟩
  | some w => ⟨w.hdr, if w.count + k ≤ 4294967295 then w.count + k else 4294967295⟩

theorem Backlog.raise_tick (b : Backlog) (h : Hdr) : b.raise h (.tick 1) = { b with tick := some (tickWaiting 1 h b.tick) } := by
  unfold Backlog.raise
  cases hb : b.tick <;> rfl

end Ticks

/-! ### The statement -/

/-- O30's account of an emission that its tick reaches, at the instant `i`. -/
theorem exec_edgeEmission_cases {p : Port} {ix : EntryIx} {sec : RowSec} {i : Time} (hh : s.mlc.held = false)
    (he : s.Emits p ix sec) (hi : (s.edgeAt p ix sec).1 = i) (ht : s.reach i = some t) (hsec : i.sec = t.now.sec)
    (hnew : TickEvent.edge p ix sec ∉ t.clk.taken) :
    (t.suppressed sec = true → exec (.edgeEmission p ix sec) s = .next s)
    ∧ (¬t.suppressed sec = true → ¬t.drivenAfter p i sec = true → exec (.edgeEmission p ix sec) s =
      .next ((t.setEds { t.eds with level := t.eds.level.set p (decide (s.eds.active[ix].action = .rise)) }).setClk
        { t.clk with taken := .edge p ix sec :: .drive p i sec :: t.clk.taken }))
    ∧ (¬t.suppressed sec = true → t.drivenAfter p i sec = true → exec (.edgeEmission p ix sec) s =
      .next (t.setClk { t.clk with taken := .edge p ix sec :: .drive p i sec :: t.clk.taken })) := by
  subst hi
  rw [exec_edgeEmission_of_reached hh he ht, State.emit_note_eq]
  refine ⟨fun hq => if_pos (.inr (.inl hq)), fun hq hl => ?_, fun hq hl => ?_⟩
  · rw [if_neg (by simp [hsec, hq, hnew]), if_neg hl]
  · rw [if_neg (by simp [hsec, hq, hnew]), if_pos hl]

/-- Settles O30: an emission, and a TICK, by what its entry says, by the tick that `reach` gives, and by what suppresses it
there. -/
theorem emissionsDriveLinesAndRaiseTicks : Obligations.EmissionsDriveLinesAndRaiseTicks := by
  refine ⟨fun s p ix sec hh => ?_, fun s t ix sec hh => ?_, fun s ix sec hh => ?_⟩
  · intro e c early at'
    have hat : s.edgeAt p ix sec = (at', early) := edgeInstant_eq ..
    have hinstant : (s.edgeAt p ix sec).1 = at' := congrArg Prod.fst hat
    have hallows : s.eds.allows p e.offset (s.edgeAt p ix sec).2 = true ↔
        if early then s.eds.armed = false else s.eds.earlyBelow[p] ≤ e.offset := by
      rw [hat]
      exact Eds.allows_iff ..
    refine ⟨fun h => ?_, fun hearly harmed => ?_, fun hearly hbelow => ?_, fun h => ?_, fun t ht h => ?_,
      fun t hu ha hp hf hd hallowed ht hsec hnew => ?_⟩
    · refine exec_edgeEmission_of_not_emits fun k => ?_
      obtain ⟨hu, ha, hp, hf⟩ := (Entry.emits_iff e p sec).mp k.entry
      rcases h with h | h | h | h | h
      · exact k.port h
      · exact Bool.false_ne_true (h.symm.trans hu)
      · exact ha h
      · exact Bool.false_ne_true (h.symm.trans hp)
      · exact Bool.false_ne_true (h.symm.trans hf)
    · refine exec_edgeEmission_of_not_emits fun k => ?_
      have ha := hallows.mp k.allowed
      rw [if_pos hearly, harmed] at ha
      cases ha
    · refine exec_edgeEmission_of_not_emits fun k => ?_
      have ha := hallows.mp k.allowed
      rw [if_neg (by rw [hearly]; exact Bool.false_ne_true)] at ha
      omega
    · exact exec_edgeEmission_of_unreached (hinstant ▸ h)
    · by_cases he : s.Emits p ix sec
      · rw [exec_edgeEmission_of_reached hh he (hinstant ▸ ht), hinstant]
        exact if_pos (h.imp_right .inr)
      · exact exec_edgeEmission_of_not_emits he
    · have he : s.Emits p ix sec := ⟨(Entry.emits_iff e p sec).mpr ⟨hu, ha, hp, hf⟩, hd, hallows.mpr hallowed⟩
      intro quiet later clk
      have hquiet : t.suppressed sec = true ↔ quiet := State.suppressed_iff
      have hlater : t.drivenAfter p at' sec = true ↔ later := State.drivenAfter_iff
      obtain ⟨hno, hset, hkeep⟩ := exec_edgeEmission_cases hh he hinstant ht hsec hnew
      exact ⟨fun q => hno (hquiet.mpr q), fun q l => hset (hquiet.not.mpr q) (hlater.not.mpr l),
        fun q l => hkeep (hquiet.not.mpr q) (hlater.mpr l)⟩
  · intro e hu ha hf ht hsec hnew entry
    have hsup : t.suppressed sec = t.tsu.quiet := by
      cases hq : t.tsu.quiet with
      | true => rw [hsec]; exact State.suppressed_of_quiet hq
      | false => simp [State.suppressed, hq]
    have hexec := exec_tickEmission_of_reached hh ⟨hu, ha, hf⟩ ht
    rw [hsup] at hexec
    refine ⟨fun hq => hexec.trans (if_pos (.inr (.inl hq))), fun hq => (hexec.trans (if_neg ?_)).trans ?_⟩
    · simp [hsec.symm, hq, hnew]
    · rw [State.raiseMarker_eq, Backlog.raise_tick]
      have hentry : tickWaiting 1 t.hdr t.sq.backlog.tick = entry := by
        simp only [entry]
        cases t.sq.backlog.tick <;> rfl
      rw [hentry]
      rfl
  · intro e
    refine ⟨fun h => ?_, exec_tickEmission_of_unreached, fun t ht h => ?_⟩
    · refine exec_tickEmission_of_not_ticks fun k => ?_
      rcases h with h | h | h
      · exact Bool.false_ne_true (h.symm.trans k.used)
      · exact h k.action
      · exact Bool.false_ne_true (h.symm.trans k.fires)
    · by_cases he : e.Ticks sec
      · rw [exec_tickEmission_of_reached hh he ht]
        exact if_pos (h.imp_right .inr)
      · exact exec_tickEmission_of_not_ticks he

end Instants
end Sys2Proof.Machine
end

section
/-! PROOFS. The emissions and TICKs that a second boundary's own tick makes (03 R47 to R49, R51, R52; 07 R126, R127). -/
namespace Sys2Proof.Machine

/-! ### The last emission of a port (03 R49) -/

/-- An emission stands no later than another in the order of 03 R49: by instant, then by second. -/
def NotLater (y z : Int × Nat × Bool) : Prop := y.1 < z.1 ∨ (y.1 = z.1 ∧ y.2.1 ≤ z.2.1)

theorem NotLater.refl (y : Int × Nat × Bool) : NotLater y y := .inr ⟨rfl, le_rfl⟩

theorem NotLater.trans {x y z : Int × Nat × Bool} (h : NotLater x y) (k : NotLater y z) : NotLater x z := by
  unfold NotLater at *
  omega

theorem NotLater.total (y z : Int × Nat × Bool) : NotLater y z ∨ NotLater z y := by
  unfold NotLater
  omega

theorem laterEmission_some (z y : Int × Nat × Bool) :
    ∃ x, laterEmission (some z) y = some x ∧ (x = z ∨ x = y) ∧ NotLater z x ∧ NotLater y x := by
  by_cases h : NotLater z y
  · exact ⟨y, if_pos h, .inr rfl, h, .refl y⟩
  · exact ⟨z, if_neg h, .inl rfl, .refl z, (NotLater.total z y).resolve_left h⟩

/-- From an emission on, the fold keeps one that no other comes after. -/
theorem foldl_laterEmission_some (xs : List (Int × Nat × Bool)) (a : Int × Nat × Bool) :
    ∃ z, xs.foldl laterEmission (some a) = some z ∧ z ∈ a :: xs ∧ ∀ y ∈ a :: xs, NotLater y z := by
  induction xs generalizing a with
  | nil => exact ⟨a, rfl, List.mem_cons_self, fun y hy => List.mem_singleton.mp hy ▸ .refl y⟩
  | cons b xs ih =>
    obtain ⟨x, hx, hmem, ha, hb⟩ := laterEmission_some a b
    obtain ⟨z, hz, hin, hlast⟩ := ih x
    have hxz := hlast x List.mem_cons_self
    refine ⟨z, by rw [List.foldl_cons, hx, hz], ?_, fun y hy => ?_⟩
    · rcases List.mem_cons.mp hin with rfl | hin
      · rcases hmem with rfl | rfl <;> simp
      · exact List.mem_cons_of_mem _ (List.mem_cons_of_mem _ hin)
    · rcases List.mem_cons.mp hy with rfl | hy
      · exact ha.trans hxz
      · rcases List.mem_cons.mp hy with rfl | hy
        · exact hb.trans hxz
        · exact hlast y (List.mem_cons_of_mem _ hy)

/-- What the boundary of `sec` means for the emissions of `s`, its tick's advance started at `fromNs`, `t` the state after. -/
def State.edgeTick (s t : State) (sec : RowSec) (fromNs : Nat) : EdgeTick :=
  ⟨sec, fromNs, s.tsu.quiet, t.tsu.gen != s.tsu.gen, s.eds.armed⟩

/-- Entry `ix` makes on port `p` an emission of instant `i` at that tick: one of the second that ended, an early one of the
second begun, or a catch-up (03 R47, R48). `w` tells its second. -/
def State.Makes (s t : State) (sec : RowSec) (fromNs : Nat) (p : Port) (ix : EntryIx) (i : Int) (w : Nat) : Prop :=
  let e := s.eds.active[ix]
  (e.used = true ∧ e.action ≠ .tick ∧ e.has p = true) ∧
    ((e.fires (sec - 1) = true ∧ s.tsu.quiet = false ∧ s.comp p ≤ e.offset ∧ s.eds.earlyBelow[p] ≤ e.offset
        ∧ fromNs < e.offset - s.comp p ∧ i = (e.offset : Int) - s.comp p - 1000000000 ∧ w = 0)
      ∨ (e.fires sec = true ∧ s.eds.armed = false ∧ t.tsu.gen = s.tsu.gen ∧ e.offset < s.comp p
        ∧ fromNs + s.comp p < 1000000000 + e.offset ∧ i = (e.offset : Int) - s.comp p ∧ w = 1)
      ∨ (e.fires sec = true ∧ s.eds.armed = false ∧ t.tsu.gen = s.tsu.gen ∧ s.comp p ≤ e.offset
        ∧ e.offset < t.comp p ∧ i = (e.offset : Int) - t.comp p ∧ w = 1))

/-- The emissions of a port at the boundary tick, in the order of their entries. -/
def Eds.boundaryEmissions (e : Eds) (p : Port) (k : EdgeTick) (c : Nat) : List (Int × Nat × Bool) :=
  allEntries.flatMap fun ix => (e.active[ix].boundaryInstants p k e.armed e.comp[p] c e.earlyBelow[p]).map
    fun x => (x.1, x.2, e.active[ix].action.drivesHigh)

theorem Eds.lastAtBoundary_eq (e : Eds) (p : Port) (k : EdgeTick) (c : Nat) :
    e.lastAtBoundary p k c = (e.boundaryEmissions p k c).foldl laterEmission none := rfl

/-- The level that the boundary tick leaves on a port's line. -/
def Eds.levelAfter (e : Eds) (p : Port) (k : EdgeTick) (c : Nat) : Bool :=
  match e.lastAtBoundary p k c with
  | none => e.level[p]
  | some x => x.2.2

section Level

variable {s t : State} {sec : RowSec} {fromNs : Nat} {p : Port} {ix : EntryIx} {i : Int} {w : Nat}

theorem mem_boundaryInstants : (i, w) ∈ s.eds.active[ix].boundaryInstants p (s.edgeTick t sec fromNs) s.eds.armed
      (s.comp p) (t.comp p) s.eds.earlyBelow[p] ↔ s.Makes t sec fromNs p ix i w := by
  unfold Entry.boundaryInstants State.Makes State.edgeTick
  simp only [List.mem_append, List.mem_ite_nil_right, List.mem_singleton, Bool.and_eq_true, Bool.not_eq_true',
    decide_eq_true_eq, bne_eq_false_iff_eq, Entry.emits_iff, Prod.mk.injEq, nsPerSec, Nat.cast_ofNat, and_assoc, or_assoc,
    and_or_left]

theorem mem_boundaryEmissions {z : Int × Nat × Bool} :
    z ∈ s.eds.boundaryEmissions p (s.edgeTick t sec fromNs) (t.comp p) ↔
      ∃ ix, s.Makes t sec fromNs p ix z.1 z.2.1 ∧ z.2.2 = s.eds.active[ix].action.drivesHigh := by
  obtain ⟨i, w, b⟩ := z
  simp only [Eds.boundaryEmissions, List.mem_flatMap, List.mem_map, mem_allEntries, true_and, Prod.mk.injEq, Prod.exists]
  constructor
  · rintro ⟨ix, j, v, hm, rfl, rfl, rfl⟩
    exact ⟨ix, mem_boundaryInstants.mp hm, rfl⟩
  · rintro ⟨ix, hm, rfl⟩
    exact ⟨ix, i, w, mem_boundaryInstants.mpr hm, rfl, rfl, rfl⟩

/-- Without an emission the level stays. -/
theorem levelAfter_of_none (h : ∀ ix i w, ¬s.Makes t sec fromNs p ix i w) :
    s.eds.levelAfter p (s.edgeTick t sec fromNs) (t.comp p) = s.eds.level[p] := by
  have hnil : s.eds.boundaryEmissions p (s.edgeTick t sec fromNs) (t.comp p) = [] :=
    List.eq_nil_iff_forall_not_mem.mpr fun z hz => by
      obtain ⟨ix, hm, -⟩ := mem_boundaryEmissions.mp hz
      exact h _ _ _ hm
  rw [Eds.levelAfter, Eds.lastAtBoundary_eq, hnil]
  rfl

/-- The entry of an emission that those of every other entry stand before gives the level. -/
theorem levelAfter_of_last (h : s.Makes t sec fromNs p ix i w)
    (hlast : ∀ jx j v, s.Makes t sec fromNs p jx j v → jx ≠ ix → j < i ∨ (j = i ∧ v < w)) :
    s.eds.levelAfter p (s.edgeTick t sec fromNs) (t.comp p) = decide (s.eds.active[ix].action = .rise) := by
  have hin : (i, w, s.eds.active[ix].action.drivesHigh) ∈
      s.eds.boundaryEmissions p (s.edgeTick t sec fromNs) (t.comp p) := mem_boundaryEmissions.mpr ⟨ix, h, rfl⟩
  rw [Eds.levelAfter, Eds.lastAtBoundary_eq]
  cases hxs : s.eds.boundaryEmissions p (s.edgeTick t sec fromNs) (t.comp p) with
  | nil =>
    rw [hxs] at hin
    cases hin
  | cons a xs =>
    obtain ⟨z, hz, hmem, hmax⟩ := foldl_laterEmission_some xs a
    rw [← hxs] at hmem hmax
    obtain ⟨jx, hm, hlevel⟩ := mem_boundaryEmissions.mp hmem
    have hfold : (a :: xs).foldl laterEmission none = some z := hz
    rw [hfold]
    by_cases hj : jx = ix
    · subst hj
      exact hlevel
    · have hbefore := hlast jx _ _ hm hj
      have hafter : i < z.1 ∨ (i = z.1 ∧ w ≤ z.2.1) := hmax _ hin
      omega

end Level

/-! ### The TICKs of the second that ended -/

/-- What `n` TICKs with one header make of the entry that waits, if any. -/
def tickAfter (n : Nat) (h : Hdr) (x : Option CountWait) : Option CountWait :=
  if n = 0 then x else some (tickWaiting n h x)

theorem tickAfter_succ {n : Nat} (hn : n < 4294967295) (h : Hdr) (x : Option CountWait) :
    tickAfter n h (some (tickWaiting 1 h x)) = tickAfter (n + 1) h x := by
  rcases Nat.eq_zero_or_pos n with rfl | hpos
  · rfl
  · rw [tickAfter, tickAfter, if_neg hpos.ne', if_neg n.succ_ne_zero]
    cases x with
    | none =>
      change some (CountWait.mk h (if 1 + n ≤ 4294967295 then 1 + n else 4294967295)) = some ⟨h, n + 1⟩
      rw [if_pos (by omega), Nat.add_comm]
    | some w =>
      simp only [tickWaiting, Option.some.injEq, CountWait.mk.injEq, true_and]
      split_ifs <;> omega

/-- The entry that waits after `n` TICKs, case by case. -/
theorem tickAfter_cases (n : Nat) (h : Hdr) (x : Option CountWait) :
    (n = 0 → tickAfter n h x = x) ∧ (0 < n → tickAfter n h x = some (match x with
      | none => ⟨h, n⟩
      | some w => ⟨w.hdr, if w.count + n ≤ 4294967295 then w.count + n else 4294967295⟩)) := by
  refine ⟨fun h0 => if_pos h0, fun hpos => (if_neg hpos.ne').trans ?_⟩
  cases x <;> rfl

/-- A TICK of the second that ended whose instant the boundary tick reaches (03 R51, R52). -/
def Entry.ticksAtBoundary (e : Entry) (k : EdgeTick) : Bool :=
  e.used && !e.drives && e.fires (k.sec - 1) && !k.quietBefore && k.fromNs < e.offset

/-- Raising a TICK once for each of a list's entries that `b` names. -/
theorem foldl_raiseTick (b : EntryIx → Bool) (xs : List EntryIx) (hxs : xs.length ≤ 4294967295) (s : State) :
    xs.foldl (fun s ix => if b ix then s.raiseMarker s.hdr (.tick 1) else s) s =
      s.setSq { s.sq with backlog := { s.sq.backlog with tick := tickAfter (xs.countP b) s.hdr s.sq.backlog.tick } } := by
  induction xs generalizing s with
  | nil => rfl
  | cons x xs ih =>
    rw [List.length_cons] at hxs
    rw [List.foldl_cons, ih (by omega), List.countP_cons]
    by_cases hb : b x
    · have hn : xs.countP b < 4294967295 := List.countP_le_length.trans_lt hxs
      rw [if_pos hb, if_pos hb, State.raiseMarker_eq, Backlog.raise_tick, ← tickAfter_succ hn]
      rfl
    · rw [if_neg hb, if_neg hb]
      rfl

theorem edsTicks_eq (old : Eds) (k : EdgeTick) (s : State) : edsTicks old k s =
    s.setSq { s.sq with backlog := { s.sq.backlog with
      tick := tickAfter (allEntries.countP fun ix => old.active[ix].ticksAtBoundary k) s.hdr s.sq.backlog.tick } } :=
  foldl_raiseTick (fun ix => old.active[ix].ticksAtBoundary k) allEntries (by decide) s

/-! ### EDS's boundary work -/

section EdsBoundary

variable (s : State) (old : Eds) (k : EdgeTick) (p : Port)

theorem edsPortBoundary_level_other {q : Port} (h : p ≠ q) :
    (edsPortBoundary old k q s).eds.level[p] = s.eds.level[p] := by
  unfold edsPortBoundary
  split
  · rfl
  · simp only
    split
    · rfl
    · exact vector_set_other _ h _

theorem edsPortBoundary_sq : (edsPortBoundary old k p s).sq = s.sq := by
  unfold edsPortBoundary
  split
  · rfl
  · simp only
    split <;> rfl

/-- A port's own share gives its line the level, with the compensation that it leaves. -/
theorem edsPortBoundary_level (hl : s.eds.level[p] = old.level[p]) (hp : (s.port p).state ≠ .down) :
    (edsPortBoundary old k p s).eds.level[p] = old.levelAfter p k ((edsPortBoundary old k p s).comp p) := by
  have hcomp : (edsPortBoundary old k p s).comp p = s.movedComp p := by
    unfold edsPortBoundary
    rw [if_neg hp]
    simp only
    split <;> simp [State.comp, Eds.setComp, Eds.setLevel]
  rw [hcomp, Eds.levelAfter]
  unfold edsPortBoundary
  rw [if_neg hp]
  cases old.lastAtBoundary p k (s.movedComp p) with
  | none => exact hl
  | some x => simp [Eds.setLevel]

/-- The shares of all the ports, as the line of one that is not DOWN sees them. -/
theorem overPorts_edsPortBoundary_level (hl : s.eds.level[p] = old.level[p]) (hp : (s.port p).state ≠ .down) :
    (overPorts (edsPortBoundary old k) s).eds.level[p] =
      old.levelAfter p k ((overPorts (edsPortBoundary old k) s).comp p) :=
  overPorts_at (P := fun t => t.eds.level[p] = old.level[p] ∧ (t.port p).state ≠ .down)
    (Q := fun t => t.eds.level[p] = old.levelAfter p k (t.comp p)) p
    (fun r hr t ⟨hl, hd⟩ => ⟨(edsPortBoundary_level_other t _ _ p hr.symm).trans hl,
      ((edsPortBoundary_share t old k r).others hr).samePort.port ▸ hd⟩)
    (fun t ⟨hl, hd⟩ => edsPortBoundary_level t old k p hl hd)
    (fun r hr t ht => by
      rw [edsPortBoundary_level_other t _ _ p hr.symm, ((edsPortBoundary_share t old k r).others hr).samePort.comp]
      exact ht)
    ⟨hl, hp⟩

theorem Eds.activate_level (e : Eds) (sec : RowSec) : (e.activate sec).level = e.level := by
  unfold Eds.activate
  split <;> rfl

variable (sec : RowSec) (n : Nat) (q st : Bool)

theorem State.edsBoundary_level (hp : (s.port p).state ≠ .down) :
    (s.edsBoundary sec n q st).eds.level[p] =
      s.eds.levelAfter p ⟨sec, n, q, st, s.eds.armed⟩ ((s.edsBoundary sec n q st).comp p) := by
  have h := overPorts_edsPortBoundary_level (s.setEds (s.eds.activate sec)) s.eds ⟨sec, n, q, st, s.eds.armed⟩ p
    (congrArg (fun v : Vector Bool 16 => v[p]) (s.eds.activate_level sec)) hp
  rw [State.edsBoundary, edsTicks_eq]
  generalize overPorts _ _ = t at h ⊢
  exact h

theorem State.edsBoundary_tick : (s.edsBoundary sec n q st).sq.backlog.tick =
    tickAfter (allEntries.countP fun ix => s.eds.active[ix].ticksAtBoundary ⟨sec, n, q, st, s.eds.armed⟩) s.hdr
      s.sq.backlog.tick := by
  have hports : ∀ (k : EdgeTick) (t : State), (overPorts (edsPortBoundary s.eds k) t).sq = t.sq
      ∧ (overPorts (edsPortBoundary s.eds k) t).tsu = t.tsu := fun k t =>
    overPorts_keeps (P := fun z => z.sq = t.sq ∧ z.tsu = t.tsu) _
      (fun p z hz => ⟨(edsPortBoundary_sq z _ _ p).trans hz.1, (edsPortBoundary_share z _ _ p).tsu.trans hz.2⟩) t ⟨rfl, rfl⟩
  simp only [State.edsBoundary, edsTicks_eq]
  obtain ⟨hsq, htsu⟩ := hports ⟨sec, n, q, st, s.eds.armed⟩ (s.setEds (s.eds.activate sec))
  rw [State.setSq_sq, hsq, (State.hdr_congr htsu).1]
  rfl

end EdsBoundary

/-! ### The second boundary -/

/-- EDS's work within a boundary of `s`, from `x` on, `t` the state at its end. -/
structure State.EdsWithin (s : State) (t x : State) : Prop where
  before : s.OutsideEds x
  after : (x.edsBoundary s.tsu.ts.sec s.clk.tickFrom.ns s.tsu.quiet (t.tsu.gen != s.tsu.gen)).OutsideEds t
  tsu : t.tsu = x.tsu

theorem State.boundaryWork_edsWithin (s : State) (d : Bool) (rec : BitVec 16) :
    ∃ x, s.EdsWithin (s.boundaryWork s.tsu.ts.sec d rec) x := by
  have hf := s.raisedWork_raisedFor d
  have hout := s.raisedWork_outside s.tsu.ts.sec d
  rw [State.boundaryWork_eq]
  generalize ((s.timeWork s.tsu.ts.sec).1.tsu.gen != s.tsu.gen) = st at hf ⊢
  generalize s.raisedWork s.tsu.ts.sec d = r at hf hout ⊢
  have hstepped := hf.stepped
  have hports := r.portsWork_outside s.tsu.ts.sec s.now s.clk.tickFrom.ns s.tsu.quiet st rec
  have hptsu := (r.portsWork_aside s.tsu.ts.sec s.now s.clk.tickFrom.ns s.tsu.quiet st rec).tsu
  generalize r.portsWork s.tsu.ts.sec s.now s.clk.tickFrom.ns s.tsu.quiet st rec = v at hports hptsu ⊢
  have hlast : v.OutsideEds (if d then v else v.drmBoundary s.tsu.ts.sec)
      ∧ (if d then v else v.drmBoundary s.tsu.ts.sec).tsu = v.tsu := by
    split
    · exact ⟨.refl v, rfl⟩
    · exact ⟨v.drmBoundary_outside _, (v.drmBoundary_aside _).tsu⟩
  simp only
  generalize (if d then v else v.drmBoundary s.tsu.ts.sec) = t at hlast ⊢
  obtain ⟨hdrm, htsu⟩ := hlast
  have htr : t.tsu = r.tsu := htsu.trans hptsu
  have hst : (t.tsu.gen != s.tsu.gen) = st := by rw [htr, hstepped]
  refine ⟨r.earlyWork s.tsu.ts.sec s.clk.tickFrom.ns rec, hout.trans (r.earlyWork_outside _ _ _), ?_, ?_⟩
  · rw [hst]
    exact hports.trans hdrm
  · exact htr.trans (r.earlyWork_aside _ _ _).tsu.symm

namespace State.EdsWithin

variable {s t x : State} (h : s.EdsWithin t x)
include h

theorem level (p : Port) (hp : (s.port p).state ≠ .down) : t.eds.level[p] =
    s.eds.levelAfter p ⟨s.tsu.ts.sec, s.clk.tickFrom.ns, s.tsu.quiet, t.tsu.gen != s.tsu.gen, s.eds.armed⟩ (t.comp p) := by
  have hl := x.edsBoundary_level p s.tsu.ts.sec s.clk.tickFrom.ns s.tsu.quiet (t.tsu.gen != s.tsu.gen) (h.before.up p hp)
  rw [h.before.eds] at hl
  rw [State.comp, h.after.eds]
  exact hl

theorem tick : t.sq.backlog.tick = tickAfter (allEntries.countP fun ix => s.eds.active[ix].ticksAtBoundary
    ⟨s.tsu.ts.sec, s.clk.tickFrom.ns, s.tsu.quiet, t.tsu.gen != s.tsu.gen, s.eds.armed⟩) t.hdr s.sq.backlog.tick := by
  rw [h.after.tick, State.edsBoundary_tick, h.before.eds, h.before.tick, (State.hdr_congr h.tsu).1]

end State.EdsWithin

/-- What a roll into a second that is not marked makes of the lines and of the TICK marker. -/
theorem exec_secondBoundary_emissions {s u : State} (hu : s.runTicks s.ticksToRoll = u) (hh : s.mlc.held = false)
    (hm : s.tsu.mark ≠ some u.tsu.ts.sec) (d : Bool) (rec : BitVec 16) :
    ∃ t, exec (.secondBoundary ⟨d, rec⟩) s = .next t
      ∧ (∀ p, (s.port p).state ≠ .down →
        t.eds.level[p] = s.eds.levelAfter p (s.edgeTick t u.tsu.ts.sec u.clk.tickFrom.ns) (t.comp p))
      ∧ t.sq.backlog.tick = tickAfter (allEntries.countP fun ix =>
          s.eds.active[ix].ticksAtBoundary (s.edgeTick t u.tsu.ts.sec u.clk.tickFrom.ns)) t.hdr s.sq.backlog.tick := by
  have hexec : exec (.secondBoundary ⟨d, rec⟩) s = .next (u.atRoll.boundaryWork u.tsu.ts.sec d rec) :=
    (exec_secondBoundary hh _).trans (congrArg _ (State.roll_of_unmarked hu hm d rec))
  obtain ⟨hrle, heds, -⟩ := hu ▸ s.runTicks_units s.ticksToRoll
  have hticked : s.Ticked u := hu ▸ s.runTicks_ticked s.ticksToRoll
  obtain ⟨-, hquiet⟩ := hu ▸ s.runTicks_marking s.ticksToRoll
  obtain ⟨x, hx⟩ := u.atRoll.boundaryWork_edsWithin d rec
  change State.EdsWithin _ (u.atRoll.boundaryWork u.tsu.ts.sec d rec) x at hx
  generalize u.atRoll.boundaryWork u.tsu.ts.sec d rec = t at hexec hx
  refine ⟨t, hexec, fun p hp => ?_, ?_⟩
  · rw [State.edgeTick, ← hticked.gen, ← hquiet, ← heds]
    exact hx.level p (State.port_of_rle hrle p ▸ hp)
  · rw [State.edgeTick, ← hticked.gen, ← hquiet, ← heds, ← hticked.sq]
    exact hx.tick

/-- The TICKs that the boundary tick reaches. -/
def State.ticksReached (s : State) (sec : RowSec) (fromNs : Nat) : Nat :=
  allEntries.countP fun ix =>
    let e := s.eds.active[ix]
    e.used && e.action == .tick && e.fires (sec - 1) && !s.tsu.quiet && decide (fromNs < e.offset)

theorem countP_ticksAtBoundary (s t : State) (sec : RowSec) (fromNs : Nat) :
    (allEntries.countP fun ix => s.eds.active[ix].ticksAtBoundary (s.edgeTick t sec fromNs)) =
      s.ticksReached sec fromNs := by
  have hentry : ∀ e : Entry, e.ticksAtBoundary (s.edgeTick t sec fromNs) =
      (e.used && e.action == .tick && e.fires (sec - 1) && !s.tsu.quiet && decide (fromNs < e.offset)) := by
    intro e
    unfold Entry.ticksAtBoundary Entry.drives
    cases e.action <;> rfl
  simp only [hentry, State.ticksReached]

/-- Settles O31: EDS's work stands alone within the boundary, a port's line shows the last of its emissions there, and the
TICKs reached are counted. -/
theorem boundaryTickMakesItsEmissions : Obligations.BoundaryTickMakesItsEmissions := by
  intro s drmFirst receiving hh u sec fromNs hm
  obtain ⟨t, hexec, hlevel, htick⟩ := exec_secondBoundary_emissions (u := u) rfl hh hm drmFirst receiving
  rw [countP_ticksAtBoundary] at htick
  refine ⟨t, hexec, fun p hp => ?_, ?_⟩
  · rw [hlevel p hp]
    exact ⟨levelAfter_of_none, fun ix i w h hlast _ => levelAfter_of_last h hlast⟩
  · rw [htick]
    exact tickAfter_cases _ _ _

end Sys2Proof.Machine
end

section
/-! PROOFS. What every command is made of: rolls, cycle work, frames and expiries of the rack link, emissions, admissions,
the acts of requests, resets, and writes outside the ports' units. What each of these keeps, every step keeps. -/
namespace Sys2Proof.Machine

/-- `t` is `s` after work that leaves the ports, the rack records, the mark buffers and EDS alone. -/
structure State.Elsewhere (s t : State) : Prop where
  rle : t.rle = s.rle
  drm : t.drm = s.drm
  marks : t.ecu.marks = s.ecu.marks
  eds : t.eds = s.eds

/-- One piece of a command's work. -/
inductive State.Work : State → State → Prop
  /-- Ticks, notices, the link, and the units that the ports have no part in. -/
  | elsewhere {s t : State} (h : s.Elsewhere t) : Work s t
  /-- The work of a roll just made (01 R4). -/
  | roll (s : State) (drmFirst : Bool) (receiving : BitVec 16) : Work s (s.rollWork drmFirst receiving)
  /-- An emission on a port that is not DOWN (03 R47). -/
  | emission {s : State} {p : Port} (h : (s.port p).state ≠ .down) (a : Action) (i : Time) (sec : RowSec) :
      Work s (s.emit p a i sec)
  /-- A compensated instant on a port that is not DOWN (04 R74). -/
  | cycle {s : State} {p : Port} (h : (s.port p).state ≠ .down) (sec : RowSec) (k : Nat) (left : Time)
      (early receiving : Bool) : Work s (s.cycleWork p sec k left early receiving)
  /-- A frame's end (04 R59). -/
  | frame (s : State) (p : Port) (v : RackVerdict) (ago : Nat) : Work s (s.frameEnd p v ago)
  /-- A window's expiry (04 R69). -/
  | missed (s : State) (p : Port) : Work s (s.missEcho p)
  /-- An expiry deferred to a frame being received (04 R69). -/
  | deferred {s : State} {p : Port} (h : (s.port p).canReceive = true) (x : Exchange) :
      Work s (s.setPort p { s.port p with exch := some x, rx := .receiving })
  /-- A receiver that looks for a start symbol again (04 R58). -/
  | reopened {s : State} {p : Port} (h : (s.port p).state ≠ .down) :
      Work s (s.setPort p { s.port p with rx := .looking, tx := none })
  /-- What the arbiter does (07 R129). -/
  | admission {s t : State} (h : s.arbiter = some t) : Work s t
  /-- What its block makes of a request (09 R156). -/
  | request (s : State) (r : Req) {n : Nat} {k : ReqKind} {act : Req → State → Served}
      (h : catalogue n = some (k, act)) : Work s (act r s).state
  /-- A RESTART takes effect (09 R165). -/
  | restart (s : State) : Work s s.restart
  /-- Power-on and pin reset (09 R168). -/
  | reset (s : State) (c : ResetCause) (st : Straps) (q : List Instr) : Work s (State.initial c st q)

/-- `t` comes from `s` by pieces of work. -/
def State.Works (s t : State) : Prop := Relation.ReflTransGen State.Work s t

/-! ### Work elsewhere -/

namespace State.Elsewhere

variable {s t u : State}

@[refl] theorem refl (s : State) : s.Elsewhere s := ⟨rfl, rfl, rfl, rfl⟩

@[trans] theorem trans (h : s.Elsewhere t) (k : t.Elsewhere u) : s.Elsewhere u :=
  ⟨k.rle.trans h.rle, k.drm.trans h.drm, k.marks.trans h.marks, k.eds.trans h.eds⟩

theorem port (h : s.Elsewhere t) (p : Port) : t.port p = s.port p := State.port_of_rle h.rle p

theorem rack (h : s.Elsewhere t) (p : Port) : t.rack p = s.rack p := State.rack_of_drm h.drm p

theorem marks_eq (h : s.Elsewhere t) (p : Port) : t.marks p = s.marks p := by
  rw [State.marks, h.marks]
  rfl

end State.Elsewhere

section Elsewhere

variable (s : State)

theorem State.setMlc_elsewhere (x : Mlc) : s.Elsewhere (s.setMlc x) := ⟨rfl, rfl, rfl, rfl⟩

theorem State.setStl_elsewhere (x : Stl) : s.Elsewhere (s.setStl x) := ⟨rfl, rfl, rfl, rfl⟩

theorem State.setInput_elsewhere (i : Input) (r : InputRec) : s.Elsewhere (s.setInput i r) := by
  cases i <;> exact ⟨rfl, rfl, rfl, rfl⟩

theorem State.runTicks_elsewhere (n : Nat) : s.Elsewhere (s.runTicks n) := by
  obtain ⟨v, c, a, b, rx, k, h, -⟩ := s.runTicks_eq n
  rw [h]
  exact ⟨rfl, rfl, rfl, rfl⟩

theorem State.handOut_elsewhere : s.Elsewhere s.handOut := by
  obtain ⟨n, m, h⟩ := s.handOut_eq
  rw [h]
  exact ⟨rfl, rfl, rfl, rfl⟩

theorem State.raiseNotice_elsewhere (q : Place) (v : NoticeValue) : s.Elsewhere (s.raiseNotice q v) := by
  obtain ⟨n, m, h⟩ := s.raiseNotice_eq q v
  rw [h]
  exact ⟨rfl, rfl, rfl, rfl⟩

theorem State.raises_elsewhere (xs : List Raise) : s.Elsewhere (xs.foldl State.raiseOne s) := by
  obtain ⟨b, n, m, h⟩ := s.raises_eq xs
  rw [h]
  exact ⟨rfl, rfl, rfl, rfl⟩

theorem State.gapTimeout_elsewhere (i : Input) : s.Elsewhere (s.gapTimeout i) := by
  rcases s.gapTimeout_cases i with h | ⟨-, h⟩ <;> rw [h]
  exact s.setInput_elsewhere i _

theorem State.linkTimeout_elsewhere : s.Elsewhere s.linkTimeout := by
  rcases s.linkTimeout_cases with h | ⟨-, h⟩ <;> rw [h]
  exact ⟨rfl, rfl, rfl, rfl⟩

theorem State.sampleLine_elsewhere (l : Line) (b : Bool) : s.Elsewhere (s.sampleLine l b) := by
  unfold State.sampleLine
  split
  · rfl
  · exact ⟨rfl, rfl, rfl, rfl⟩

theorem State.strobe_elsewhere (src : StrobeSource) : s.Elsewhere (s.strobe src) := by
  unfold State.strobe
  split
  · exact ⟨rfl, rfl, rfl, rfl⟩
  · exact (State.setStl_elsewhere _ _).trans (State.raiseNotice_elsewhere _ _ _)

theorem State.sampleHstb_elsewhere (b : Bool) : s.Elsewhere (s.sampleHstb b) := by
  have h : s.Elsewhere ((s.setStl { s.stl with hstb := some b }).note .hstb) := ⟨rfl, rfl, rfl, rfl⟩
  unfold State.sampleHstb
  simp only
  split
  · exact h.trans (State.strobe_elsewhere _ _)
  · exact h

theorem State.badByte_elsewhere : s.Elsewhere s.badByte := by
  unfold State.badByte
  split
  · rfl
  · exact ⟨rfl, rfl, rfl, rfl⟩

theorem State.taken_elsewhere (r : Req) : s.Elsewhere (s.taken r) := by
  unfold State.taken
  split <;> exact ⟨rfl, rfl, rfl, rfl⟩

variable {s} {t : State}

theorem State.reach_elsewhere {i : Time} (h : s.reach i = some t) : s.Elsewhere t := by
  obtain ⟨n, rfl⟩ := s.reach_eq h
  exact s.runTicks_elsewhere n

theorem State.reachElapsed_elsewhere {a b : Nat} (h : s.reachElapsed a b = some t) : s.Elsewhere t := by
  obtain ⟨n, rfl⟩ := s.reachElapsed_eq h
  exact s.runTicks_elsewhere n

theorem State.reachTick_elsewhere {n : Nat} (h : s.reachTick n = some t) : s.Elsewhere t := by
  obtain ⟨k, rfl⟩ := s.reachTick_eq h
  exact s.runTicks_elsewhere k

theorem State.freeTick_elsewhere {b : Bool} (h : s.freeTick b = some t) : s.Elsewhere t := by
  obtain ⟨k, rfl⟩ := s.freeTick_eq h
  exact s.runTicks_elsewhere k

theorem State.hstbLow_elsewhere (h : s.hstbLow = some t) : s.Elsewhere t := by
  unfold State.hstbLow at h
  split at h
  · cases h
    rfl
  · obtain ⟨u, hu, rfl⟩ := Option.map_eq_some_iff.mp h
    exact (State.freeTick_elsewhere hu).trans (u.sampleHstb_elsewhere false)

end Elsewhere

/-! ### Pieces of work, one after another -/

namespace State.Works

variable {s t u : State}

@[refl] theorem refl (s : State) : s.Works s := Relation.ReflTransGen.refl

theorem of_work (h : State.Work s t) : s.Works t := .single h

theorem of_elsewhere (h : s.Elsewhere t) : s.Works t := of_work (.elsewhere h)

@[trans] theorem trans (h : s.Works t) (k : t.Works u) : s.Works u := Relation.ReflTransGen.trans h k

/-- Work after something elsewhere, and something elsewhere after work. -/
theorem around {t' : State} (h : s.Elsewhere t) (k : State.Work t t') (l : t'.Elsewhere u) : s.Works u :=
  ((of_elsewhere h).trans (of_work k)).trans (of_elsewhere l)

/-- What every piece of work keeps is kept. -/
theorem keeps {P : State → Prop} (hP : ∀ x y, State.Work x y → P x → P y) (h : s.Works t) (hs : P s) : P t := by
  induction h with
  | refl => exact hs
  | tail _ m ih => exact hP _ _ m ih

end State.Works

/-! ### The service of a request and the pins -/

section Service

variable (s : State) (r : Req)

theorem State.roll_works (d : Bool) (rec : BitVec 16) : s.Works (s.roll d rec) :=
  (State.Works.of_elsewhere (s.runTicks_elsewhere _)).trans (.of_work (.roll _ d rec))

/-- A judged request leaves what its block left, or, refused, what it found, with the link moved on. -/
theorem State.conclude_works (kb : Byte) {x : Served} (h : s.Works x.state) : s.Works (s.conclude kb r x) := by
  have key : s.Works (if x.result.refuses then s.taken r else x.state) := by
    split
    · exact .of_elsewhere (s.taken_elsewhere r)
    · exact h
  refine key.trans (.of_elsewhere ?_)
  unfold State.conclude
  generalize (if x.result.refuses then s.taken r else x.state) = t
  simp only
  split
  · exact t.setMlc_elsewhere _
  · exact (t.setMlc_elsewhere _).trans (State.setMlc_elsewhere _ _)

theorem State.serve_works {n : Nat} {k : ReqKind} {act : Req → State → Served} (h : catalogue n = some (k, act)) :
    s.Works (s.serve k r act) := by
  rcases s.serve_cases k r act with ⟨-, e⟩ | ⟨-, -, e⟩ | ⟨-, -, -, e⟩ | ⟨-, -, -, -, e⟩ | ⟨-, -, -, -, e⟩ <;> rw [e]
  · exact .of_elsewhere ⟨rfl, rfl, rfl, rfl⟩
  · exact .of_elsewhere ⟨rfl, rfl, rfl, rfl⟩
  · exact .of_elsewhere ⟨rfl, rfl, rfl, rfl⟩
  · have hd : s.Works (s.dropFrame s.mlc.ctr) := .of_elsewhere ⟨rfl, rfl, rfl, rfl⟩
    refine hd.trans (State.conclude_works _ r _ ?_)
    refine .trans (.of_elsewhere (State.taken_elsewhere _ r)) ?_
    split
    · exact .of_work (.request _ r h)
    · exact .refl _

theorem State.serveUnknown_works : s.Works (s.serveUnknown r) := by
  unfold State.serveUnknown State.throughLink State.receive
  split
  · rfl
  · split
    · exact .of_elsewhere ⟨rfl, rfl, rfl, rfl⟩
    · simp only [Bool.false_and, Bool.false_eq_true, if_false]
      split
      · exact .of_elsewhere ⟨rfl, rfl, rfl, rfl⟩
      · refine .trans (.of_elsewhere (s.setMlc_elsewhere _)) (State.conclude_works _ r _ ?_)
        exact .of_elsewhere (State.taken_elsewhere _ r)

theorem State.judgeFrame_works (bs : List Byte) : s.Works (s.judgeFrame bs) := by
  unfold State.judgeFrame
  split
  · exact .of_elsewhere ⟨rfl, rfl, rfl, rfl⟩
  · split
    · exact .of_elsewhere ⟨rfl, rfl, rfl, rfl⟩
    · simp only
      split
      · rename_i h
        exact s.serve_works _ h
      · exact s.serveUnknown_works _

theorem State.goodByte_works (b : Byte) : s.Works (s.goodByte b) := by
  have keep : ∀ ph bs, s.Works (s.keepByte ph bs) := fun _ _ => .of_elsewhere ⟨rfl, rfl, rfl, rfl⟩
  unfold State.goodByte
  simp only
  split
  · split
    · exact keep _ _
    · rfl
  · split
    · exact keep _ _
    · split
      · exact .of_elsewhere ⟨rfl, rfl, rfl, rfl⟩
      · exact keep _ _
  · split
    · exact keep _ _
    · exact s.judgeFrame_works _

theorem State.linkByte_works (b : SerialByte) : s.Works (s.linkByte b) := by
  have h : s.Works (s.setInByte false) := .of_elsewhere ⟨rfl, rfl, rfl, rfl⟩
  unfold State.linkByte
  simp only
  split
  · exact h
  · split
    · exact h.trans (State.goodByte_works _ _)
    · exact h.trans (.of_elsewhere (State.badByte_elsewhere _))

theorem State.sampleLink_works (x : SerialLine) : s.Works (s.sampleLink x) := by
  have h : s.Works (match x.ended with | none => s | some b => s.linkByte b) := by
    split
    · rfl
    · exact s.linkByte_works _
  have start : ∀ t : State, t.Elsewhere (if x.starts then t.setInByte !t.mlc.deaf else t) := by
    intro t
    split
    · exact t.setMlc_elsewhere _
    · rfl
  exact h.trans (.of_elsewhere (start _))

theorem State.samplePins_works (x : Pins) : s.Works (s.samplePins x) := by
  have lines : ∀ (ls : List Line) (t : State),
      t.Elsewhere (ls.foldl (fun s l => s.sampleLine l (x.lines.getLsbD l.val)) t) := by
    intro ls
    induction ls with
    | nil => exact .refl
    | cons l ls ih => exact fun t => (t.sampleLine_elsewhere l _).trans (ih _)
  have noted : s.Elsewhere (s.note .pins) := ⟨rfl, rfl, rfl, rfl⟩
  refine .trans (.of_elsewhere ?_) (State.sampleLink_works _ _)
  exact (((noted.trans (lines _ _)).trans (State.sampleHstb_elsewhere _ _)).trans
    (State.setInput_elsewhere _ _ _)).trans (State.setInput_elsewhere _ _ _)

end Service

/-! ### The commands -/

section Commands

/-- What an outcome leads to, if a state, comes from `s` by pieces of work. -/
def WorksTo (s : State) (o : Host.Outcome State Fault Refusal) : Prop := ∀ t, o = .next t → s.Works t

variable {s t : State}

theorem WorksTo.next (h : s.Works t) : WorksTo s (.next t) := by
  rintro u ⟨⟩
  exact h

theorem WorksTo.work (h : State.Work s t) : WorksTo s (.next t) := .next (.of_work h)

theorem WorksTo.elsewhere (h : s.Elsewhere t) : WorksTo s (.next t) := .next (.of_elsewhere h)

theorem WorksTo.same : WorksTo s (.next s) := .next (.refl s)

theorem WorksTo.ite {c : Prop} [Decidable c] {a b : Host.Outcome State Fault Refusal} (ha : WorksTo s a)
    (hb : WorksTo s b) : WorksTo s (if c then a else b) := by
  split
  · exact ha
  · exact hb

/-- A write of the link alone. -/
theorem WorksTo.link (x : Mlc) : WorksTo s (.next (s.setMlc x)) := .elsewhere (s.setMlc_elsewhere x)

/-- A write of an input alone. -/
theorem WorksTo.input (i : Input) (x : InputRec) : WorksTo s (.next (s.setInput i x)) :=
  .elsewhere (s.setInput_elsewhere i x)

variable (s)

theorem execPinReset_works : WorksTo s (execPinReset s) :=
  .next (.trans (.of_work (.reset s _ _ _)) (.of_elsewhere (State.setMlc_elsewhere _ _)))

theorem execOscillatorTick_works (n : Nat) (x : Pins) : WorksTo s (execOscillatorTick n x s) :=
  .ite .same (.ite (.next (.trans (.of_elsewhere (s.runTicks_elsewhere _)) (State.samplePins_works _ x)))
    (.next (.trans (s.roll_works _ _) (State.samplePins_works _ x))))

theorem execCycleStart_works (sec : RowSec) (k : Nat) : WorksTo s (execCycleStart sec k s) := by
  unfold execCycleStart
  simp only
  split
  · exact .same
  · split
    · exact .same
    · rename_i t ht
      have h : s.Elsewhere t := by
        split at ht
        · cases ht
          rfl
        · exact State.reach_elsewhere ht
      exact .ite .same (.elsewhere (h.trans ⟨rfl, rfl, rfl, rfl⟩))

theorem execReferencePulse_works (i : Input) : WorksTo s (execReferencePulse i s) := by
  unfold execReferencePulse
  simp only
  refine .ite .same (.elsewhere ?_)
  split
  · exact (s.setInput_elsewhere i _).trans (State.raiseNotice_elsewhere _ _ _)
  · exact s.setInput_elsewhere i _

theorem execMessageGapTimeout_works (i : Input) : WorksTo s (execMessageGapTimeout i s) := by
  unfold execMessageGapTimeout
  split
  · exact .same
  · cases h : s.reachTick ((s.input i).lastTick + longestGap + 1) with
    | none => exact .same
    | some t => exact .elsewhere ((State.reachTick_elsewhere h).trans (t.gapTimeout_elsewhere i))

section Expiries

/-! Two expiries are matched on an observation or a latch first. They are taken apart with the wait for their instant a
variable: with `State.reachElapsed` itself there the kernel would evaluate its ticks. -/

variable (f : State → Nat → Nat → Option State)
  (hf : ∀ {s t : State} {a b : Nat}, f s a b = some t → s.Elsewhere t)

include hf in
theorem messageWindow_works (i : Input) :
    WorksTo s (if s.mlc.held then .next s
      else match (s.input i).obs with
        | none => .next s
        | some o =>
          match f s o.stamp 600000000 with
          | none => .next s
          | some t => .next (t.setInput i (t.input i).closeOpen)) := by
  refine .ite .same ?_
  split
  · exact .same
  · split
    · exact .same
    · rename_i t ht
      exact .elsewhere ((hf ht).trans (t.setInput_elsewhere i _))

include hf in
theorem qualification_works (l : Line) :
    WorksTo s (if s.mlc.held then .next s
      else match (s.line l).latch with
        | .qualifying c =>
          match f s c.stamp (s.line l).cfg.width with
          | none => .next s
          | some t => .next (t.setLine l ((t.line l).qualify c))
        | .empty => .next s
        | .held _ => .next s
        | .waitRelease => .next s) := by
  refine .ite .same ?_
  split
  · split
    · exact .same
    · rename_i t ht
      exact .elsewhere ((hf ht).trans ⟨rfl, rfl, rfl, rfl⟩)
  · exact .same
  · exact .same
  · exact .same

end Expiries

theorem execMissingPulseExpiry_works (i : Input) : WorksTo s (execMissingPulseExpiry i s) := by
  unfold execMissingPulseExpiry
  split
  · exact .same
  · split
    · exact .same
    · split
      · split
        · exact .same
        · rename_i t ht
          exact .elsewhere ((State.reachElapsed_elsewhere ht).trans (t.setInput_elsewhere i _))
      · exact .same

theorem execEdgeEmission_works (p : Port) (ix : EntryIx) (sec : RowSec) : WorksTo s (execEdgeEmission p ix sec s) := by
  unfold execEdgeEmission
  simp only
  split
  · exact .same
  · rename_i hc
    have hd : (s.port p).state ≠ .down := by
      rintro h
      simp [h] at hc
    split
    · exact .same
    · rename_i t ht
      have h := State.reach_elsewhere ht
      refine .ite .same (.next (.around h (.emission (p := p) ?_ _ _ _) ⟨rfl, rfl, rfl, rfl⟩))
      rw [h.port]
      exact hd

theorem execTickEmission_works (ix : EntryIx) (sec : RowSec) : WorksTo s (execTickEmission ix sec s) := by
  unfold execTickEmission
  simp only
  split
  · exact .same
  · split
    · exact .same
    · rename_i t ht
      exact .ite .same (.elsewhere ((State.reach_elsewhere ht).trans ⟨rfl, rfl, rfl, rfl⟩))

theorem execCycleCompensatedInstant_works (p : Port) (sec : RowSec) (k : Nat) (b : Bool) :
    WorksTo s (execCycleCompensatedInstant p sec k b s) := by
  unfold execCycleCompensatedInstant
  simp only
  split
  · exact .same
  · rename_i hc
    have hd : (s.port p).state ≠ .down := by
      rintro h
      simp [h] at hc
    split
    · exact .same
    · rename_i t ht
      have h : s.Elsewhere t := by
        split at ht
        · cases ht
          rfl
        · exact State.reach_elsewhere ht
      refine .ite .same (.next (.trans (.of_elsewhere h) (.of_work (.cycle ?_ _ _ _ _ _))))
      rw [h.port]
      exact hd

theorem execReplyWindowExpiry_works (p : Port) (b : Bool) : WorksTo s (execReplyWindowExpiry p b s) := by
  unfold execReplyWindowExpiry
  split
  · exact .same
  · split
    · exact .same
    · split
      · exact .same
      · split
        · exact .same
        · rename_i t ht
          have h : s.Works t := .of_elsewhere (State.reachElapsed_elsewhere ht)
          split
          · rename_i hr
            exact .next (h.trans (.of_work (.deferred (Bool.and_eq_true_iff.mp hr).2 _)))
          · exact .next (h.trans (.of_work (.missed t p)))

theorem execRackReceiverReopen_works (p : Port) : WorksTo s (execRackReceiverReopen p s) := by
  unfold execRackReceiverReopen
  simp only
  split
  · exact .same
  · rename_i hc
    refine .ite (.work (.reopened ?_)) .same
    rintro h
    simp [h] at hc

theorem execLineEdge_works (l : Line) (b : Bool) : WorksTo s (execLineEdge l b s) := by
  unfold execLineEdge
  split
  · exact .same
  · split
    · exact .same
    · rename_i t ht
      exact .elsewhere (((State.freeTick_elsewhere ht).trans (t.sampleLine_elsewhere l b)).trans ⟨rfl, rfl, rfl, rfl⟩)

theorem execStrobeEdge_works : WorksTo s (execStrobeEdge s) := by
  unfold execStrobeEdge
  split
  · exact .same
  · split
    · exact .same
    · rename_i t ht
      obtain ⟨u, hu, hv⟩ := Option.bind_eq_some_iff.mp ht
      exact .elsewhere (((State.hstbLow_elsewhere hu).trans (State.freeTick_elsewhere hv)).trans
        (t.sampleHstb_elsewhere true))

theorem execAdmission_works : WorksTo s (execAdmission s) := by
  unfold execAdmission
  split
  · exact .same
  · split
    · exact .same
    · rename_i t ht
      have h : s.Elsewhere t := State.freeTick_elsewhere ht
      split
      · exact .elsewhere h
      · rename_i u hu
        exact .next (.around h (.admission hu) ⟨rfl, rfl, rfl, rfl⟩)

theorem execInterByteTimeout_works : WorksTo s (execInterByteTimeout s) := by
  unfold execInterByteTimeout
  split
  · exact .same
  · cases h : s.reachTick (s.mlc.rx.lastTick + longestGap + 1) with
    | none => exact .same
    | some t => exact .elsewhere ((State.reachTick_elsewhere h).trans t.linkTimeout_elsewhere)

theorem execReplyStart_works : WorksTo s (execReplyStart s) := by
  unfold execReplyStart
  split
  · exact .ite .same (.link _)
  · exact .same
  · exact .same
  · exact .same
  · exact .same

theorem State.freeTransmitter_elsewhere : s.Elsewhere s.freeTransmitter :=
  (s.setMlc_elsewhere _).trans (State.handOut_elsewhere _)

theorem execReplyCompletion_works : WorksTo s (execReplyCompletion s) := by
  unfold execReplyCompletion
  simp only
  refine .ite .same (.next ?_)
  split
  · exact .around (s.setMlc_elsewhere _) (.restart _) (State.freeTransmitter_elsewhere _)
  · exact .of_elsewhere ((s.setMlc_elsewhere _).trans (State.freeTransmitter_elsewhere _))

theorem execNoticeCompletion_works : WorksTo s (execNoticeCompletion s) := by
  unfold execNoticeCompletion
  simp only
  split
  · exact .same
  · split
    · exact .elsewhere ((s.setMlc_elsewhere _).trans (State.setMlc_elsewhere _ _))
    · exact .elsewhere ((s.setMlc_elsewhere _).trans (State.freeTransmitter_elsewhere _))

/-- Every command leads to a state that comes from the present one by pieces of work. -/
theorem exec_works (c : Instr) : WorksTo s (exec c s) := by
  cases h : requestOf c with
  | some x =>
    obtain ⟨act, ha, he⟩ := exec_of_catalogue (k := x.1) (r := x.2) h
    rw [he]
    exact .next (s.serve_works _ ha)
  | none =>
    cases c <;> simp only [requestOf, reduceCtorEq] at h
    case powerOn st => exact .work (.reset s _ st _)
    case pinReset => exact execPinReset_works s
    case resetnRelease st => exact .ite (.work (.reset s _ st _)) .same
    case secondBoundary x => exact .ite .same (.next (s.roll_works _ _))
    case suppressedRoll => exact .ite .same (.next (s.roll_works _ _))
    case oscillatorTick n x => exact execOscillatorTick_works s n x
    case cycleStart sec k => exact execCycleStart_works s sec k
    case referencePulse i => exact execReferencePulse_works s i
    case messageArrival i b => exact .ite .same (.input i _)
    case messageFramingError i => exact .ite .same (.input i _)
    case messageGapTimeout i => exact execMessageGapTimeout_works s i
    case messageWindowExpiry i => exact messageWindow_works s State.reachElapsed State.reachElapsed_elsewhere i
    case missingPulseExpiry i => exact execMissingPulseExpiry_works s i
    case edgeEmission p ix sec => exact execEdgeEmission_works s p ix sec
    case tickEmission ix sec => exact execTickEmission_works s ix sec
    case cycleCompensatedInstant p sec k b => exact execCycleCompensatedInstant_works s p sec k b
    case echoReceived p f n => exact .ite .same (.work (.frame s p _ n))
    case callReceived p => exact .ite .same (.work (.frame s p _ 0))
    case rackFrameRejected p c => exact .ite .same (.work (.frame s p _ 0))
    case replyWindowExpiry p b => exact execReplyWindowExpiry_works s p b
    case rackReceiverReopen p => exact execRackReceiverReopen_works s p
    case lineEdge l b => exact execLineEdge_works s l b
    case qualificationExpiry l => exact qualification_works s State.reachElapsed State.reachElapsed_elsewhere l
    case strobeEdge => exact execStrobeEdge_works s
    case admission => exact execAdmission_works s
    case linkFramingError => exact .ite .same (.elsewhere s.badByte_elsewhere)
    case lengthError => exact .ite .same (.link _)
    case interByteTimeout => exact execInterByteTimeout_works s
    case crcError => exact .ite .same (.link _)
    case otherFrame => exact .ite .same (.link _)
    case busyDiscard => exact .ite .same (.link _)
    case unknownRequest r => exact .next (s.serveUnknown_works r)
    case broadcastQuery => exact .ite .same (.ite (.link _) (.link _))
    case replyStart => exact execReplyStart_works s
    case replyCompletion => exact execReplyCompletion_works s
    case noticeCompletion => exact execNoticeCompletion_works s
    case linkDeDeassert => exact .ite (.link _) .same

variable {s}

/-- So does every step. -/
theorem step_works (h : step s = .next t) : s.Works t := by
  unfold step at h
  split at h
  · cases h
    rfl
  · rename_i c cs _
    have hp : s.Elsewhere (s.setPending cs) := ⟨rfl, rfl, rfl, rfl⟩
    exact .trans (.of_elsewhere hp) (exec_works _ c t h)

end Commands
end Sys2Proof.Machine
end

section
/-! PROOFS. One rack record: a sample, a second's push and evaluation and a step keep it in its ranges (05 section 5.1). -/
namespace Sys2Proof.Machine

/-! ### Roundings and counts -/

/-- A share of a non-negative difference lies between 0 and the difference. -/
theorem roundDiv_share {x n : Int} (hx : 0 ≤ x) (hn : 1 ≤ n) : 0 ≤ roundDiv x n ∧ roundDiv x n ≤ x := by
  unfold roundDiv
  rw [if_pos hx]
  refine ⟨Int.ediv_nonneg (by omega) (by omega), ?_⟩
  refine Int.lt_add_one_iff.mp (Int.ediv_lt_of_lt_mul (by omega) ?_)
  nlinarith

theorem roundDiv_neg {x : Int} (hx : x < 0) (n : Int) : roundDiv x n = -roundDiv (-x) n := by
  unfold roundDiv
  rw [if_neg (by omega), if_pos (by omega)]

/-- An average that moves from `a` toward `b` by a share stays between bounds of both (05 R86, R91). -/
theorem average_mem {lo hi a b : Int} (ha : lo ≤ a ∧ a ≤ hi) (hb : lo ≤ b ∧ b ≤ hi) (k : Nat) :
    lo ≤ a + roundDiv (b - a) (2 ^ k) ∧ a + roundDiv (b - a) (2 ^ k) ≤ hi := by
  have hk : (1 : Int) ≤ 2 ^ k := one_le_pow₀ (by decide)
  rcases Int.lt_or_le (b - a) 0 with h | h
  · have := roundDiv_share (x := -(b - a)) (by omega) hk
    rw [roundDiv_neg h]
    omega
  · have := roundDiv_share h hk
    omega

theorem raiseBy_le {top k n : Nat} : raiseBy top k n ≤ top := by
  unfold raiseBy
  split <;> omega

/-! ### The ranges of a record -/

/-- One rack record in its ranges (05 section 5.1, R93). -/
structure RackRec.InRange (r : RackRec) : Prop where
  history : r.history.length ≤ 16
  delay : 0 ≤ r.delay ∧ r.delay ≤ 250000
  delayCount : r.delayCount ≤ 8
  offset : -500000000 ≤ r.offset ∧ r.offset ≤ 500000000
  rate : -100000000 ≤ r.rate ∧ r.rate ≤ 100000000
  alarmIn : r.alarmIn ≤ 65535
  outlierRun : r.outlierRun ≤ 4
  stepHold : r.stepHold ≤ 4
  watchRun : r.watchRun ≤ 255
  alarmRun : r.alarmRun ≤ 255
  quietRun : r.quietRun ≤ 255

theorem RackRec.initial_inRange : RackRec.initial.InRange := by constructor <;> decide

namespace RackRec.InRange

variable {r : RackRec} (h : r.InRange)
include h

theorem toSettling : r.toSettling.InRange :=
  { h with
    history := Nat.zero_le _
    delayCount := Nat.zero_le _
    rate := (by decide : (-100000000 : Int) ≤ 0 ∧ (0 : Int) ≤ 100000000)
    alarmIn := le_refl _
    outlierRun := Nat.zero_le _
    watchRun := Nat.zero_le _
    alarmRun := Nat.zero_le _
    quietRun := Nat.zero_le _ }

theorem lowerHold : r.lowerHold.InRange := by
  have := h.stepHold
  unfold RackRec.lowerHold
  split
  · exact { h with }
  · exact { h with stepHold := by simp only; omega }

theorem hold (fresh : Bool) : (r.hold fresh).InRange := by
  unfold RackRec.hold
  split
  · exact h
  · exact { h with stepHold := le_refl _ }

/-! ### A sample (05 section 5.2) -/

theorem offsetStage (cfg : DriftCfg) (x : Sample) (trt d : Int) (c : Outcome6) (path : Option (Int × Int)) :
    (r.offsetStage cfg x trt d c path).record.InRange := by
  unfold RackRec.offsetStage
  simp only [RackRec.note, grossLimit]
  generalize x.rawOffset r.delay = o
  split
  · have ho : -500000000 ≤ (if 0 ≤ o then (500000000 : Int) else -500000000)
        ∧ (if 0 ≤ o then (500000000 : Int) else -500000000) ≤ 500000000 := by
      split <;> omega
    split
    · exact { h with
        offset := ho, watchRun := Nat.zero_le _, alarmRun := Nat.zero_le _, quietRun := Nat.zero_le _ }
    · exact { h with offset := ho }
  · have ho : -500000000 ≤ o ∧ o ≤ 500000000 := by omega
    split
    · exact { h with offset := ho }
    · exact { h with offset := average_mem h.offset ho cfg.ko }

theorem delayStage (cfg : DriftCfg) (x : Sample) {trt : Int} (h0 : 0 ≤ trt) (h1 : trt ≤ 500000) :
    (r.delayStage cfg x trt).record.InRange := by
  have hd : 0 ≤ roundDiv trt 2 ∧ roundDiv trt 2 ≤ 250000 := by
    unfold roundDiv
    rw [if_pos h0]
    omega
  unfold RackRec.delayStage
  simp only
  split
  · refine RackRec.InRange.offsetStage ?_ ..
    exact { h with delay := hd, delayCount := (by decide : 1 ≤ 8), outlierRun := Nat.zero_le _ }
  · split
    · split
      · rename_i hrun
        exact { h with outlierRun := hrun.le }
      · refine RackRec.InRange.offsetStage ?_ ..
        exact { h with delay := hd, delayCount := (by decide : 1 ≤ 8), outlierRun := Nat.zero_le _ }
    · refine RackRec.InRange.offsetStage ?_ ..
      exact { h with
        delay := average_mem h.delay hd cfg.kd, delayCount := Nat.min_le_left _ _, outlierRun := Nat.zero_le _ }

theorem sample {cfg : DriftCfg} (hm : cfg.rtMax ≤ 500000) (gen : Gen) (x : Sample) :
    (r.sample cfg gen x).record.InRange := by
  unfold RackRec.sample
  split
  · exact { h with }
  · simp only
    split
    · exact { h with }
    · rename_i hp
      exact h.delayStage cfg x (by omega) (by omega)

/-! ### Each second (05 sections 5.3, 5.4) -/

omit h in
theorem driftRate_mem (xs : List Int) : -100000000 ≤ driftRate xs ∧ driftRate xs ≤ 100000000 := by
  unfold driftRate
  split
  · omega
  · exact clamp_mem _ (by omega)

omit h in
theorem timeToAlarm_le (o x : Int) (alarm : Nat) : timeToAlarm o x alarm ≤ 65535 := by
  unfold timeToAlarm
  split
  · omega
  · split
    · omega
    · exact (clampNat_le 0 65535 _ (by omega)).2

theorem push (cfg : DriftCfg) : (r.push cfg).InRange :=
  { h with
    history := by
      have := h.history
      simp only [RackRec.push, List.length_drop, List.length_append, List.length_singleton, Config.historyPlaces]
      omega
    rate := driftRate_mem _
    alarmIn := timeToAlarm_le _ _ _ }

theorem evaluate (cfg : DriftCfg) : (r.evaluate cfg).InRange := by
  have run : ∀ (c : Prop) [Decidable c] (n : Nat), (if c then raiseBy 255 1 n else 0) ≤ 255 := by
    intro c _ n
    split
    · exact raiseBy_le
    · omega
  have run' : ∀ (c : Prop) [Decidable c] (n : Nat), (if c then 0 else raiseBy 255 1 n) ≤ 255 := by
    intro c _ n
    split
    · omega
    · exact raiseBy_le
  have hc : (r.countRuns cfg).InRange :=
    { h with watchRun := run _ _, alarmRun := run _ _, quietRun := run' _ _ }
  unfold RackRec.evaluate
  simp only
  split
  · exact hc
  · exact { hc with watchRun := Nat.zero_le _, alarmRun := Nat.zero_le _, quietRun := Nat.zero_le _ }

theorem eachSecond (cfg : DriftCfg) (st : PortState) : (r.eachSecond cfg st).InRange := by
  unfold RackRec.eachSecond
  simp only
  split
  · split
    · exact { (h.push cfg).evaluate cfg with }
    · exact { h.push cfg with }
  · exact { h with }

end RackRec.InRange

/-- An ECHO's marks leave a buffer that is in its bound so (06 R114, R115). -/
theorem PortMarks.takeMarks_length (d : Dating) (ks : List MarkIn) (x : PortMarks) (h : x.buf.length ≤ 24) :
    (PortMarks.takeMarks d ks x).buf.length ≤ 24 := by
  induction ks generalizing x with
  | nil => exact h
  | cons k ks ih =>
    unfold PortMarks.takeMarks
    split
    · exact ih _ h
    · split
      · exact h
      · rename_i hfull
        refine ih _ ?_
        simp only [PortMarks.accept, List.length_append, List.length_singleton, Config.markPlaces] at hfull ⊢
        omega

end Sys2Proof.Machine
end

section
/-! PROOFS. The buffers and the rack records: what each operation on the ports keeps of their bounds (04 R64, 06 R115,
05 R93, 05 section 5.1). -/
namespace Sys2Proof.Machine

/-- Each port's log and mark buffer in its places, each rack record in its ranges, the round-trip maximum in its own. -/
structure State.StoresSound (s : State) : Prop where
  log : ∀ p : Port, (s.port p).log.length ≤ 16
  marks : ∀ p : Port, (s.marks p).buf.length ≤ 24
  rack : ∀ p : Port, (s.rack p).InRange
  roundTrip : s.drm.cfg.rtMax ≤ 500000

namespace State.StoresSound

variable {s t : State}

/-! ### The writes -/

theorem elsewhere (h : s.StoresSound) (e : s.Elsewhere t) : t.StoresSound where
  log p := by rw [e.port]; exact h.log p
  marks p := by rw [e.marks_eq]; exact h.marks p
  rack p := by rw [e.rack]; exact h.rack p
  roundTrip := by rw [e.drm]; exact h.roundTrip

variable (h : s.StoresSound) (p : Port)
include h

theorem setPort {r : PortRec} (hr : r.log.length ≤ 16) : (s.setPort p r).StoresSound :=
  { h with
    log := fun q => by
      rw [State.port_setPort]
      split
      · exact hr
      · exact h.log q }

/-- A write of a port that keeps its log. -/
theorem setPort_kept {r : PortRec} (hr : r.log = (s.port p).log) : (s.setPort p r).StoresSound :=
  h.setPort p (hr ▸ h.log p)

theorem enter (st : PortState) : (s.setPort p ((s.port p).enter st)).StoresSound := h.setPort_kept p (by rfl)

theorem setCounters (c : PortCounters) : (s.setPort p { s.port p with ctr := c }).StoresSound :=
  h.setPort_kept p (by rfl)

theorem setRack {r : RackRec} (hr : r.InRange) : (s.setRack p r).StoresSound :=
  { h with
    rack := fun q => by
      rw [State.rack_setRack]
      split
      · exact hr
      · exact h.rack q }

theorem setMarks {m : PortMarks} (hm : m.buf.length ≤ 24) : (s.setMarks p m).StoresSound :=
  { h with
    marks := fun q => by
      rw [State.marks_setMarks]
      split
      · exact hm
      · exact h.marks q }

theorem setEds (x : Eds) : (s.setEds x).StoresSound := { h with }

theorem setTsu (x : Tsu) : (s.setTsu x).StoresSound := { h with }

theorem setClk (x : Clock) : (s.setClk x).StoresSound := { h with }

theorem note (e : TickEvent) : (s.note e).StoresSound := { h with }

theorem raiseNotice (q : Place) (v : NoticeValue) : (s.raiseNotice q v).StoresSound :=
  h.elsewhere (s.raiseNotice_elsewhere q v)

theorem changeRecord {r : RackRec} (hr : r.InRange) (c : RackCause) : (s.changeRecord p r c).StoresSound := by
  have hm : ((s.setRack p r).raiseMarker s.hdr (.rack p r.state 1)).StoresSound := { h.setRack p hr with }
  exact hm.raiseNotice _ _

/-! ### The rack link -/

theorem portFaulted : (s.portFaulted p).StoresSound :=
  ((h.enter p .faulted).changeRecord p (r := { s.rack p with state := .lost }) { h.rack p with } _).raiseNotice _ _

theorem missEcho : (s.missEcho p).StoresSound := by
  have hm : (s.setPort p (s.port p).miss).StoresSound := h.setPort_kept p (by rfl)
  unfold State.missEcho
  split
  · exact hm.portFaulted p
  · exact hm

theorem closeForDeparture (b : Bool) : (s.closeForDeparture p b).StoresSound := by
  rcases s.closeForDeparture_cases p b with ⟨-, e⟩ | ⟨-, -, e⟩ | ⟨-, -, e⟩ <;> rw [e]
  · exact h
  · exact h.missEcho p
  · exact (h.missEcho p).setCounters p _

theorem depart (sec : RowSec) (k : Nat) (left : Time) (b : Bool) : (s.depart p sec k left b).StoresSound := by
  have hd : ((s.closeForDeparture p b).setPort p ((s.closeForDeparture p b).departPort p sec k left)).StoresSound :=
    (h.closeForDeparture p b).setPort p (List.length_take_le _ _)
  unfold State.depart State.noteOvertaken
  simp only
  split
  · exact hd.note _
  · exact hd

omit h in
theorem log_modesMoved (r : PortRec) (k n : Nat) (b : Bool) : (modesMoved r k n b).log = r.log := by
  unfold modesMoved
  simp only
  split <;> split <;> rfl

theorem cycleWork (sec : RowSec) (k : Nat) (left : Time) (early b : Bool) :
    (s.cycleWork p sec k left early b).StoresSound := by
  have hw : ((s.setPort p (modeWork (s.port p) k s.rle.cycle.divisor s.rle.staged.isSome)).note
      (.departure p sec k)).StoresSound :=
    (h.setPort_kept p (by rw [modeWork_eq, log_modesMoved])).note _
  unfold State.cycleWork
  simp only
  split
  · exact hw.depart p sec k left b
  · exact hw

/-! ### Received frames -/

theorem closeFrame : (s.closeFrame p).StoresSound := by
  unfold State.closeFrame
  split
  · exact h
  · split
    · exact h.missEcho p
    · exact h

omit h in
theorem log_takeCall (r : PortRec) : r.takeCall.log = r.log := by
  unfold PortRec.takeCall
  split <;> rfl

theorem takeCall : (s.setPort p (s.port p).takeCall).StoresSound := h.setPort_kept p (log_takeCall _)

theorem frameOver (rx : RackRx) : (s.frameOver p rx).StoresSound := h.setPort_kept p (by rfl)

theorem receiveCall : (s.receiveCall p).StoresSound := by
  have ht := h.frameOver p .looking
  unfold State.receiveCall
  simp only
  split
  · exact ht.takeCall p
  · split
    · exact (ht.takeCall p).missEcho p
    · split
      · exact (ht.missEcho p).takeCall p
      · exact ht.takeCall p

theorem rejectFrame (c : RackCheck) : (s.rejectFrame p c).StoresSound :=
  ((h.frameOver p .waitIdle).setCounters p _).closeFrame p

theorem portUp : (s.portUp p).StoresSound := by
  have hp : (s.setPort p ((s.port p).enter .up)).StoresSound := h.enter p .up
  unfold State.portUp
  split
  · exact h
  · exact h
  · exact hp.raiseNotice _ _
  · exact (hp.changeRecord p (h.rack p).toSettling _).raiseNotice _ _

theorem takeSample (x : Sample) : (s.takeSample x).StoresSound := by
  have hy := (h.rack x.port).sample h.roundTrip s.tsu.gen x
  have hp : ∀ o : Option (Int × Int), (match o with
      | none => s.setRack x.port ((s.rack x.port).sample s.drm.cfg s.tsu.gen x).record
      | some (new, old) => (s.setRack x.port ((s.rack x.port).sample s.drm.cfg s.tsu.gen x).record).raiseNotice
          (.path x.port) (.path new old)).StoresSound := by
    rintro (_ | ⟨new, old⟩)
    · exact h.setRack _ hy
    · exact (h.setRack _ hy).raiseNotice _ _
  unfold State.takeSample
  simp only
  split
  · exact (hp _).changeRecord _ ((hp _).rack _) _
  · exact hp _

theorem handOn {r : PortRec} (hr : r.log = (s.port p).log) (x : Exchange) (e : Echo) (a : Time) :
    (s.handOn p r x e a).StoresSound := by
  have hu := (h.setPort_kept p hr).portUp p
  exact (hu.setMarks p (PortMarks.takeMarks_length _ _ _ (hu.marks p))).takeSample _

theorem lateEcho : (s.lateEcho p).StoresSound := h.setCounters p _

theorem receiveEcho (e : Echo) (ago : Nat) : (s.receiveEcho p e ago).StoresSound := by
  have ht := h.frameOver p .looking
  unfold State.receiveEcho
  simp only
  split
  · exact ht.lateEcho p
  · split
    · exact h
    · split
      · exact (ht.missEcho p).lateEcho p
      · split
        · exact ht.handOn p (by rfl) _ _ _
        · exact (ht.setCounters p _).closeFrame p

theorem overtakenEcho (x : Option Exchange) (e : Echo) (ago : Nat) : (s.overtakenEcho p x e ago).StoresSound := by
  unfold State.overtakenEcho
  split
  · exact h.lateEcho p
  · split
    · exact h
    · split
      · exact h.lateEcho p
      · split
        · exact h.handOn p (by rfl) _ _ _
        · exact h.setCounters p _

theorem frameEnd (v : RackVerdict) (ago : Nat) : (s.frameEnd p v ago).StoresSound := by
  rcases s.frameEnd_cases p v ago with ⟨-, hv⟩ | ⟨-, -, hv⟩ | ⟨x, -, -, hv⟩ <;> rw [hv]
  · cases v with
    | echo e => exact h.receiveEcho p e ago
    | call => exact h.receiveCall p
    | bad c => exact h.rejectFrame p c
  · exact h
  · have hs : (s.settleOvertaken p).StoresSound := { h with }
    cases v with
    | echo e => exact hs.overtakenEcho p x e ago
    | call => exact hs.takeCall p
    | bad c => exact hs.setCounters p _

/-! ### The roll -/

omit h in
theorem overPorts {f : Port → State → State} (hf : ∀ (p : Port) (s : State), s.StoresSound → (f p s).StoresSound)
    {s : State} (h : s.StoresSound) : (Machine.overPorts f s).StoresSound :=
  overPorts_keeps (P := State.StoresSound) f hf s h

theorem rleEarly (sec : RowSec) (n : Nat) (st : Bool) (rec : BitVec 16) :
    (Machine.rleEarly sec n st rec p s).StoresSound := by
  unfold Machine.rleEarly
  simp only
  split
  · exact h
  · split
    · exact (h.setPort_kept p (by rw [PortRec.modeFirst_eq])).note _
    · exact h.cycleWork p sec 0 _ _ _

theorem rleRoll (sec : RowSec) (c : Port → Nat) (b : Bool) (rec : BitVec 16) :
    (Machine.rleRoll sec c b rec p s).StoresSound := by
  unfold Machine.rleRoll
  split
  · split
    · exact h.note _
    · exact h
  · split
    · refine (h.setPort_kept p ?_).note _
      simp only [PortRec.modeLast_eq, PortRec.modeFirst_eq]
      split <;> split <;> rfl
    · split
      · exact h.note _
      · split
        · exact h.cycleWork p sec 0 _ _ _
        · exact h

omit h in
theorem log_passSecond (b v : Time) (n c : Nat) (r : PortRec) (sec : RowSec) :
    (passSecond b v n c r sec).log = r.log := by
  unfold passSecond
  simp only [PortRec.modeLast_eq, PortRec.modeFirst_eq]
  split <;> split <;> rfl

theorem passModes (b v : Time) : (Machine.passModes b v p s).StoresSound := by
  unfold Machine.passModes
  split
  · exact h
  · exact h.setPort_kept p (by simp only [List.foldl_cons, List.foldl_nil, log_passSecond])

theorem landAgain (sec : RowSec) : (Machine.landAgain sec p s).StoresSound := by
  obtain ⟨xs, e⟩ := landAgain_eq s sec p
  rw [e]
  exact { h with }

theorem drmPort : (Machine.drmPort p s).StoresSound := by
  have hy := (h.rack p).eachSecond s.drm.cfg (s.port p).state
  unfold Machine.drmPort
  simp only
  split
  · exact h.setRack p hy
  · exact h.changeRecord p hy _

theorem takeSpread (sec : RowSec) : (s.takeSpread sec).StoresSound := by
  have hd : (s.setDrm { s.drm with
      spread := s.rowSpread sec
      counted := s.countedPorts.length
      high := spreadHigh (s.rowSpread sec) s.drm.cfg.spreadLimit }).StoresSound := { h with }
  unfold State.takeSpread
  simp only
  split
  · exact hd
  · exact hd.raiseNotice _ _

theorem drmBoundary (sec : RowSec) : (s.drmBoundary sec).StoresSound :=
  (overPorts (fun p _ k => k.drmPort p) (overPorts (fun p _ k => k.setRack p (k.rack p).lowerHold) h)).takeSpread sec

theorem stepHolds (a b : Bool) : (s.stepHolds a b).StoresSound := by
  unfold State.stepHolds
  split
  · exact overPorts (fun p _ k => k.setRack p ((k.rack p).hold b)) h
  · exact h

theorem edsPortBoundary (old : Eds) (k : EdgeTick) : (Machine.edsPortBoundary old k p s).StoresSound := by
  unfold Machine.edsPortBoundary
  split
  · exact h.setEds _
  · simp only
    split <;> exact h.setEds _

theorem edsTicks (old : Eds) (k : EdgeTick) : (Machine.edsTicks old k s).StoresSound := by
  unfold Machine.edsTicks
  generalize allEntries = xs
  induction xs generalizing s with
  | nil => exact h
  | cons x xs ih =>
    rw [List.foldl_cons]
    refine ih ?_
    simp only
    split
    · exact { h with }
    · exact h

theorem edsBoundary (sec : RowSec) (n : Nat) (q st : Bool) : (s.edsBoundary sec n q st).StoresSound :=
  (overPorts (fun p _ k => k.edsPortBoundary p _ _) (h.setEds _)).edsTicks _ _

theorem earlyWork (sec : RowSec) (n : Nat) (rec : BitVec 16) : (s.earlyWork sec n rec).StoresSound := by
  have ha : (s.setRle s.rle.applyCycle).StoresSound :=
    { h with
      log := fun p => by
        rw [State.port, State.setRle_rle, s.rle.applyCycle_eq.2.2]
        exact h.log p }
  exact overPorts (fun p _ k => k.rleEarly p _ _ _ _) ha

theorem movedOver (sec : RowSec) (b : Time) (st : Bool) : (s.movedOver sec b st).StoresSound := by
  unfold State.movedOver
  split
  · exact overPorts (fun p _ k => k.passModes p _ _) h
  · split
    · exact overPorts (fun p _ k => k.landAgain p _) h
    · exact h

theorem portsWork (sec : RowSec) (b : Time) (n : Nat) (q st : Bool) (rec : BitVec 16) :
    (s.portsWork sec b n q st rec).StoresSound := by
  rw [State.portsWork_eq]
  have hc : (s.cycleZeroWork sec n q st rec).StoresSound :=
    overPorts (fun p _ k => k.rleRoll p _ _ _ _) ((h.earlyWork sec n rec).edsBoundary sec n q st)
  exact overPorts (fun p _ k => k.setPort_kept p (by rfl)) (hc.movedOver sec b st)

theorem raisedWork (sec : RowSec) (d : Bool) : (s.raisedWork sec d).StoresSound := by
  have hw : s.Elsewhere (s.timeWork sec).1 := by
    obtain ⟨i, n, e⟩ := s.timeWork_fst sec
    rw [e]
    exact ⟨rfl, rfl, rfl, rfl⟩
  have hr := h.elsewhere (hw.trans (State.raises_elsewhere _ (s.timeWork sec).2))
  unfold State.raisedWork
  simp only
  split
  · exact (hr.drmBoundary sec).stepHolds _ _
  · exact hr.stepHolds _ _

theorem boundaryWork (sec : RowSec) (d : Bool) (rec : BitVec 16) : (s.boundaryWork sec d rec).StoresSound := by
  have hp := (h.raisedWork sec d).portsWork sec s.now s.clk.tickFrom.ns s.tsu.quiet
    ((s.timeWork sec).1.tsu.gen != s.tsu.gen) rec
  rw [State.boundaryWork_eq]
  simp only
  split
  · exact hp
  · exact hp.drmBoundary sec

theorem rollWork (d : Bool) (rec : BitVec 16) : (s.rollWork d rec).StoresSound := by
  have ha : s.atRoll.StoresSound := h.setClk _
  by_cases hm : s.tsu.mark = some s.tsu.ts.sec
  · rw [s.rollWork_of_marked d rec hm]
    exact (overPorts (fun p _ k => k.rleEarly p _ _ _ _) ha).setTsu _
  · rw [s.rollWork_of_unmarked d rec hm]
    exact ha.boundaryWork _ d rec

end State.StoresSound
end Sys2Proof.Machine
end

section
/-! PROOFS. The buffers and the rack records in their bounds: every request, every admission and every reset keeps them, so
every step does (04 R64, 06 R115, 05 R93, 01 R7, R11, 05 section 5.1). -/
namespace Sys2Proof.Machine

namespace State.StoresSound

section Requests

variable {s : State} (h : s.StoresSound) (r : Req)
include h

/-! ### The requests that write ports, records or marks -/

theorem setEmpty (p : Port) : (s.setMarks p (s.marks p).empty).StoresSound := h.setMarks p (Nat.zero_le _)

theorem enablePort (p : Port) (m : Mode) : (s.enablePort p m).StoresSound := by
  have hp := (h.setPort p (r := { (s.port p).enter .seeking with
    mode := m, frozen := none, staged := none, solicited := false, missRun := 0, exch := none, rx := .waitIdle })
    (h.log p)).setEds { s.eds.setComp p (s.port p).initComp with earlyBelow := s.eds.earlyBelow.set p 0 }
  exact ((hp.setEmpty p).changeRecord p ((hp.setEmpty p).rack p).toSettling _).raiseNotice _ _

theorem disablePort (p : Port) : (s.disablePort p).StoresSound := by
  have hp := (h.setPort p (r := { (s.port p).enter .down with
    exch := none, tx := none, rx := .closed, log := [], solicited := false, missRun := 0, lastEcho := none })
    (Nat.zero_le _)).setEds (s.eds.setLevel p false)
  exact ((hp.setEmpty p).changeRecord p (r := (s.rack p).toUnseen) { RackRec.initial_inRange with } _).raiseNotice _ _

theorem applyPort (p : Port) (enable : Bool) (m : Mode) : (s.applyPort p enable m).StoresSound := by
  unfold State.applyPort
  split
  · split
    · exact h.enablePort p m
    · exact h.setPort_kept p (by rfl)
  · split
    · exact h.setPort_kept p (by rfl)
    · exact (h.disablePort p).setPort_kept p (by rfl)

theorem actSetPort : (Machine.actSetPort r s).state.StoresSound := by
  unfold Machine.actSetPort
  simp only
  split
  · split
    · exact h
    · exact State.StoresSound.applyPort (h.setPort_kept _ (by rfl)) _ _ _
  · exact h

theorem actReadPort : (Machine.actReadPort r s).state.StoresSound := by
  unfold Machine.actReadPort
  simp only
  split
  · simp only
    split
    · exact h.setCounters _ _
    · exact h
  · exact h

theorem actReadRack : (Machine.actReadRack r s).state.StoresSound := by
  unfold Machine.actReadRack
  simp only
  split
  · simp only
    split
    · exact h.setRack _ { h.rack _ with }
    · exact h
  · exact h

theorem actSetDrift : (Machine.actSetDrift r s).state.StoresSound :=
  { h with roundTrip := (clampNat_le 1000 500000 _ (by omega)).2 }

theorem actSetCycle : (Machine.actSetCycle r s).state.StoresSound := by
  unfold Machine.actSetCycle
  simp only
  split
  · exact h
  · exact { h with }

omit h in
theorem clearLines_elsewhere : s.Elsewhere s.clearLines := by
  unfold State.clearLines
  generalize allLines = ls
  induction ls generalizing s with
  | nil => rfl
  | cons l ls ih =>
    have hl : ∀ x : LineRec, s.Elsewhere (s.setLine l x) := fun _ => ⟨rfl, rfl, rfl, rfl⟩
    exact (hl _).trans ih

theorem actReadLines : (Machine.actReadLines r s).state.StoresSound := by
  unfold Machine.actReadLines
  simp only
  split
  · simp only
    split
    · exact h.elsewhere clearLines_elsewhere
    · exact h
  · split
    · simp only
      split
      · exact h.setMarks _ (h.marks _)
      · exact h
    · exact h
  · exact h

/-! ### The other requests -/

theorem setMlc (x : Mlc) : (s.setMlc x).StoresSound := { h with }

theorem setRef (x : Ref) : (s.setRef x).StoresSound := { h with }

theorem setSq (x : Sq) : (s.setSq x).StoresSound := { h with }

theorem setLine (l : Line) (x : LineRec) : (s.setLine l x).StoresSound := { h with }

theorem actStatus : (Machine.actStatus r s).state.StoresSound := by
  unfold Machine.actStatus
  simp only
  split
  · exact h.setMlc _
  · exact h

theorem actLatch : (Machine.actLatch r s).state.StoresSound := by
  have hs := h.elsewhere (s.strobe_elsewhere .latch)
  unfold Machine.actLatch
  simp only
  split <;> exact hs

theorem actSetTime : (Machine.actSetTime r s).state.StoresSound := by
  unfold Machine.actSetTime
  split
  · exact h
  · exact h.setTsu _

theorem actAdjust : (Machine.actAdjust r s).state.StoresSound := by
  unfold Machine.actAdjust
  simp only
  split
  · exact h
  · split
    · exact h
    · exact h.setTsu _

theorem actSetLeap : (Machine.actSetLeap r s).state.StoresSound := by
  unfold Machine.actSetLeap
  simp only
  split
  · exact h
  · split
    · exact h
    · exact h.setTsu _

theorem actSetLoop : (Machine.actSetLoop r s).state.StoresSound := by
  unfold Machine.actSetLoop
  simp only
  split
  · exact h
  · exact h.setTsu _

theorem actSetReference : (Machine.actSetReference r s).state.StoresSound := by
  unfold Machine.actSetReference
  simp only
  split
  · exact (h.elsewhere (s.setInput_elsewhere _ _)).setRef _
  · exact h
  · exact h

theorem actReadReference : (Machine.actReadReference r s).state.StoresSound := by
  unfold Machine.actReadReference
  simp only
  split
  · exact h.setRef _
  · exact h

theorem actScheduleEdit : (Machine.actScheduleEdit r s).state.StoresSound := by
  unfold Machine.actScheduleEdit
  simp only
  split
  · split
    · exact h
    · exact h.setEds _
  · exact h

theorem actScheduleCommit : (Machine.actScheduleCommit r s).state.StoresSound := by
  unfold Machine.actScheduleCommit
  split
  · exact h
  · exact h.setEds _

theorem actReadSchedule : (Machine.actReadSchedule r s).state.StoresSound := by
  unfold Machine.actReadSchedule
  simp only
  split
  · exact h
  · split <;> exact h
  · split <;> exact h
  · exact h

theorem actSetLine : (Machine.actSetLine r s).state.StoresSound := by
  unfold Machine.actSetLine
  simp only
  split
  · split
    · exact h
    · split
      · exact h
      · exact h.setLine _ _
  · exact h

theorem actSetQueue : (Machine.actSetQueue r s).state.StoresSound := by
  unfold Machine.actSetQueue
  simp only
  split
  · exact h
  · exact h.setSq _

theorem actSetNotices : (Machine.actSetNotices r s).state.StoresSound := by
  have hn : (s.setNtu (Ntu.settle { s.ntu with masks := readMasks r.payload })).StoresSound := { h with }
  exact hn.elsewhere (State.handOut_elsewhere _)

/-! ### Resets -/

omit h in
theorem initial (c : ResetCause) (st : Straps) (q : List Instr) : (State.initial c st q).StoresSound where
  log p := by simp [State.initial, State.port, Rle.initial, PortRec.initial]
  marks p := by simp [State.initial, State.marks, Ecu.initial, PortMarks.initial]
  rack p := by
    have e : (State.initial c st q).rack p = RackRec.initial := by simp [State.initial, State.rack, Drm.initial]
    rw [e]
    exact RackRec.initial_inRange
  roundTrip := (by decide : Drm.initial.cfg.rtMax ≤ 500000)

omit h in
/-- A RESTART gives RLE, DRM and the mark buffers the values of every reset. -/
theorem restart (s : State) : s.restart.StoresSound := by
  have hr : s.restarted.StoresSound :=
    { initial .request strapsLow [] with }
  exact hr.elsewhere (State.raises_elsewhere _ _)

theorem actRestart : (Machine.actRestart r s).state.StoresSound := by
  unfold Machine.actRestart
  split
  · exact restart s
  · exact h.setMlc _

/-- Every act of the catalogue. -/
theorem catalogue {n : Nat} {k : ReqKind} {act : Req → State → Served} (hc : Machine.catalogue n = some (k, act)) :
    (act r s).state.StoresSound := by
  unfold Machine.catalogue at hc
  split at hc <;> cases hc
  case h_1 => exact h
  case h_2 => exact h.actStatus r
  case h_3 => exact h.actRestart r
  case h_4 => exact h
  case h_5 => exact h.actLatch r
  case h_6 => exact { h with }
  case h_7 => exact h.actSetTime r
  case h_8 => exact h.actAdjust r
  case h_9 => exact h.actSetLeap r
  case h_10 => exact h
  case h_11 => exact h.actSetReference r
  case h_12 => exact h.actReadReference r
  case h_13 => exact h.actSetLoop r
  case h_14 => exact h.actScheduleEdit r
  case h_15 => exact h.actScheduleCommit r
  case h_16 => exact h.setEds _
  case h_17 => exact h.actReadSchedule r
  case h_18 => exact h.actSetCycle r
  case h_19 => exact h.actSetPort r
  case h_20 => exact h.actReadPort r
  case h_21 => exact h.actSetDrift r
  case h_22 => exact h.actReadRack r
  case h_23 => exact h
  case h_24 => exact h.actSetLine r
  case h_25 => exact h.actReadLines r
  case h_26 => exact h.actSetQueue r
  case h_27 => exact h.setSq _
  case h_28 => exact h.actSetNotices r
  case h_29 => exact { h with }

end Requests

/-! ### The stamp queue -/

section Queue

variable {s t : State} (h : s.StoresSound)
include h

theorem raiseMarker (x : Hdr) (m : Marker) : (s.raiseMarker x m).StoresSound := h.setSq _

theorem countLoss : s.countLoss.StoresSound := by
  unfold State.countLoss
  simp only
  split
  · exact (h.raiseMarker _ _).raiseNotice _ _
  · exact h.raiseMarker _ _

theorem discardHead : s.discardHead.StoresSound := (h.setSq _).countLoss

theorem discardHeads (n : Nat) : (s.discardHeads n).StoresSound := by
  induction n generalizing s with
  | zero => exact h
  | succ n ih => exact ih h.discardHead

theorem checkLevel (n : Nat) : (s.checkLevel n).StoresSound := by
  unfold State.checkLevel
  split
  · exact h.raiseNotice _ _
  · exact h

theorem joinMarker : s.joinMarker.StoresSound := by
  unfold State.joinMarker
  split
  · exact h
  · exact h.setSq _

theorem joinGap : s.joinGap.StoresSound := by
  unfold State.joinGap
  split
  · exact h
  · exact h.setSq _

theorem releaseSource (x : Source) : (s.releaseSource x).StoresSound := by
  cases x with
  | line l => exact h.setLine l _
  | port p =>
    refine h.setMarks p ?_
    have := h.marks p
    simp only [List.length_drop]
    omega

theorem refuseLine (l : Line) : (s.refuseLine l).StoresSound := (h.setLine l _).countLoss

theorem serveSource (i : Fin 24) (x : Hdr) (b : Body) : (s.serveSource i x b).StoresSound := by
  unfold State.serveSource
  simp only
  split
  · exact (((h.joinGap.releaseSource _).setSq _).setSq _).checkLevel _
  · split
    · exact ((((h.releaseSource _).discardHeads _).setSq _).setSq _).checkLevel _
    · split
      · exact (h.refuseLine _).setSq _
      · exact h

theorem arbiter (ha : s.arbiter = some t) : t.StoresSound := by
  unfold State.arbiter at ha
  split at ha
  · cases ha
    exact h.joinMarker.checkLevel _
  · split at ha
    · cases ha
      exact h.discardHead.joinMarker.checkLevel _
    · split at ha
      · cases ha
      · split at ha
        · cases ha
        · cases ha
          exact h.serveSource _ _ _

end Queue

/-! ### Every step -/

theorem work {s t : State} (hw : State.Work s t) (h : s.StoresSound) : t.StoresSound := by
  cases hw with
  | elsewhere e => exact h.elsewhere e
  | roll d rec => exact h.rollWork d rec
  | emission _ a i sec =>
    unfold State.emit
    split
    · exact h.note _
    · exact (h.setEds _).note _
  | cycle _ sec k left early receiving => exact h.cycleWork _ sec k left early receiving
  | frame p v ago => exact h.frameEnd p v ago
  | missed p => exact h.missEcho p
  | deferred _ x => exact h.setPort_kept _ (by rfl)
  | reopened _ => exact h.setPort_kept _ (by rfl)
  | admission ha => exact h.arbiter ha
  | request r hc => exact h.catalogue r hc
  | restart => exact restart s
  | reset c st q => exact initial c st q

theorem step {s t : State} (h : s.StoresSound) (hst : Machine.step s = .next t) : t.StoresSound :=
  (step_works hst).keeps (fun _ _ => work) h

end State.StoresSound

/-! ### TSU's two lists (01 R7, R11) -/

/-- The holdover ring and the step history in their places. -/
structure Tsu.ListsBounded (t : Tsu) : Prop where
  ring : t.ring.length ≤ 64
  hist : t.hist.length ≤ 4

namespace Tsu.ListsBounded

variable {t : Tsu} (h : t.ListsBounded)
include h

theorem takeSelection (b : Bool) : (t.takeSelection b).ListsBounded := by
  unfold Tsu.takeSelection
  split
  · exact { h with }
  · exact { h with }
  · split <;> exact { h with }
  · exact { h with }
  · exact h
  · exact h
  · exact h
  · exact h

theorem pushRing : t.pushRing.ListsBounded := by
  unfold Tsu.pushRing
  split
  · refine { h with ring := ?_ }
    have := h.ring
    simp only [List.length_drop, List.length_append, List.length_singleton, Config.ringPlaces]
    omega
  · exact h

theorem loopUpdate (e : PhaseErr) : (t.loopUpdate e).1.ListsBounded := by
  rcases t.loopUpdate_cases e with ⟨-, hu⟩ | ⟨-, hu⟩ <;> rw [hu]
  · exact { h with }
  · obtain ⟨st, since, lock, unlock, hc, -⟩ := (t.filter e).countLock_eq e
    have hl : ((t.filter e).countLock e).ListsBounded := by
      rw [hc]
      exact { h with }
    exact hl.pushRing

theorem updated (rep : Report) : (t.updated rep).1.ListsBounded := by
  have hs : (t.selected rep).ListsBounded := ListsBounded.takeSelection (t := { t with quiet := false }) { h with } _
  unfold Tsu.updated
  split
  · split
    · exact hs.loopUpdate _
    · exact hs
  · exact hs

theorem boundary (rep : Report) : (t.boundary rep).1.ListsBounded := by
  have hs : (t.slewed rep).ListsBounded := by
    obtain ⟨n, b, utc, l, e⟩ := t.leapt_eq rep
    unfold Tsu.slewed
    rw [e]
    exact { h.updated rep with }
  rw [Tsu.boundary_fst]
  rcases (t.slewed rep).step_cases (t.updated rep).2 with ⟨v, a, e, -⟩ | ⟨-, -, e⟩ <;> rw [e]
  · exact { hs with hist := List.length_take_le _ _ }
  · exact hs

theorem restart : t.restart.ListsBounded := by
  unfold Tsu.restart
  simp only
  split <;> exact { h with }

end Tsu.ListsBounded

theorem Settings.Move.keeps_lists {x y : Settings} (m : Settings.Move x y) (h : x.tsu.ListsBounded) :
    y.tsu.ListsBounded := by
  cases m with
  | ticks v hv => exact { h with }
  | cycleStart c => exact { h with }
  | boundary rep => exact Tsu.ListsBounded.boundary (t := { x.tsu with mark := none }) { h with } rep
  | clearMark => exact { h with }
  | setTime T hr => exact { h with }
  | adjust w hr hw => exact { h with }
  | setLeap utc l => exact { h with }
  | setLoop q p => exact { h with }
  | restart => exact h.restart
  | reset => exact ⟨Nat.zero_le _, Nat.zero_le _⟩
  | _ => exact h

/-! ### The statement -/

/-- The statement's two invariants in the words above. -/
theorem State.bounded_iff (s : State) :
    s.BuffersBounded ∧ s.RecordsInRange ↔ s.StoresSound ∧ s.tsu.ListsBounded := by
  constructor
  · rintro ⟨⟨logs, marks, histories, ring, steps⟩, ⟨roundTrip, delay, offset, rate, runs⟩⟩
    refine ⟨⟨logs, marks, fun p => ?_, roundTrip⟩, ring, steps⟩
    obtain ⟨hd0, hd1, hc⟩ := delay p
    obtain ⟨hr0, hr1, ha⟩ := rate p
    obtain ⟨ho, hh, hw, hal, hq⟩ := runs p
    exact ⟨histories p, ⟨hd0, hd1⟩, hc, offset p, ⟨hr0, hr1⟩, ha, ho, hh, hw, hal, hq⟩
  · rintro ⟨⟨log, marks, rack, roundTrip⟩, ring, hist⟩
    exact ⟨⟨log, marks, fun p => (rack p).history, ring, hist⟩, roundTrip,
      fun p => ⟨(rack p).delay.1, (rack p).delay.2, (rack p).delayCount⟩, fun p => (rack p).offset,
      fun p => ⟨(rack p).rate.1, (rack p).rate.2, (rack p).alarmIn⟩,
      fun p => ⟨(rack p).outlierRun, (rack p).stepHold, (rack p).watchRun, (rack p).alarmRun, (rack p).quietRun⟩⟩

/-- Settles O59: every piece of a step's work keeps the ports' buffers and records in their bounds, and every move of the
settings keeps TSU's two lists in theirs. -/
theorem stepKeepsBuffersAndRecordsInRange : Obligations.StepKeepsBuffersAndRecordsInRange := by
  intro s t hb hr hst
  obtain ⟨hs, hl⟩ := s.bounded_iff.mp ⟨hb, hr⟩
  have hlists : t.tsu.ListsBounded :=
    (step_reaches s hst).keeps (P := fun x => x.tsu.ListsBounded) (fun _ _ m => m.keeps_lists) hl
  exact t.bounded_iff.mpr ⟨hs.step hst, hlists⟩

end Sys2Proof.Machine
end

section
/-! PROOFS. The compensated instant of a cycle: what is taken, what is done there, and where nothing is (04 R60 to R66, R74,
R76). -/
namespace Sys2Proof.Machine

section Departures

variable {s t : State} {p : Port} {sec : RowSec} {k : Nat} {receiving : Bool}

theorem PortRec.canReceive_iff (r : PortRec) :
    r.canReceive = true ↔ r.state ≠ .down ∧ (r.rx = .looking ∨ r.rx = .receiving) := by
  simp [PortRec.canReceive]

theorem PortRec.due_iff (r : PortRec) (k : Nat) : r.due k = true ↔ r.mode = .polled ∨ k = 0 ∨ r.solicited = true := by
  simp [PortRec.due, or_assoc]

theorem departureInstant_early (sec : RowSec) (k n c : Nat) :
    (departureInstant sec k n c).2 = decide (k = 0 ∧ 0 < c) := by
  unfold departureInstant
  split
  · exact (decide_eq_true ‹_›).symm
  · exact (decide_eq_false ‹_›).symm

/-- Cycle 0 of `sec` is taken at the roll that began it: it is not compensated. -/
abbrev State.RolledInto (s : State) (p : Port) (sec : RowSec) (k : Nat) : Prop :=
  k = 0 ∧ s.comp p = 0 ∧ s.clk.rolled = some sec

/-- The tick that a compensated instant waits for (log entries 4, 30). -/
def State.DepartureTick (s t : State) (p : Port) (sec : RowSec) (k : Nat) : Prop :=
  let left := compensatedInstant sec k s.rle.cycle.divisor (s.comp p)
  s.RolledInto p sec k ∧ t = s ∨ ¬s.RolledInto p sec k ∧ s.reach left = some t ∧ left.sec = t.now.sec

/-- The compensated instant on a port that is not DOWN, of a cycle that the divisor has. -/
theorem execCycleCompensatedInstant_eq (hh : s.mlc.held = false) (hd : (s.port p).state ≠ .down)
    (hk : k < s.rle.cycle.divisor) : exec (.cycleCompensatedInstant p sec k receiving) s =
      match (if s.RolledInto p sec k then some s
        else s.reach (compensatedInstant sec k s.rle.cycle.divisor (s.comp p))) with
      | none => .next s
      | some t =>
        if (¬s.RolledInto p sec k ∧ (compensatedInstant sec k s.rle.cycle.divisor (s.comp p)).sec ≠ t.now.sec)
            ∨ t.hasTaken (.departure p sec k) = true then .next s
        else .next (t.cycleWork p sec k (compensatedInstant sec k s.rle.cycle.divisor (s.comp p))
          (decide (k = 0 ∧ 0 < s.comp p)) receiving) := by
  have hc : ¬(s.mlc.held || (s.port p).state == .down || decide (s.rle.cycle.divisor ≤ k)) = true := by
    simp [hh, hd, hk]
  rw [← departureInstant_eq, ← departureInstant_early sec k s.rle.cycle.divisor]
  exact if_neg (by simpa using hc)

theorem exec_cycleCompensatedInstant_reached (hh : s.mlc.held = false) (hd : (s.port p).state ≠ .down)
    (hk : k < s.rle.cycle.divisor) (ht : s.DepartureTick t p sec k) :
    exec (.cycleCompensatedInstant p sec k receiving) s =
      if TickEvent.departure p sec k ∈ t.clk.taken then .next s
      else .next (t.cycleWork p sec k (compensatedInstant sec k s.rle.cycle.divisor (s.comp p))
        (decide (k = 0 ∧ 0 < s.comp p)) receiving) := by
  rw [execCycleCompensatedInstant_eq hh hd hk]
  rcases ht with ⟨hr, rfl⟩ | ⟨hr, hreach, hsec⟩
  · rw [if_pos hr]
    exact if_congr (by simp [hr, State.hasTaken_iff]) rfl rfl
  · rw [if_neg hr, hreach]
    exact if_congr (by simp [hsec, State.hasTaken_iff]) rfl rfl

theorem exec_cycleCompensatedInstant_of_rest (h : (s.port p).state = .down ∨ s.rle.cycle.divisor ≤ k) :
    exec (.cycleCompensatedInstant p sec k receiving) s = .next s := by
  refine if_pos ?_
  rcases h with h | h <;> simp [h]

theorem exec_cycleCompensatedInstant_unreached (hh : s.mlc.held = false) (hr : ¬s.RolledInto p sec k)
    (h : s.reach (compensatedInstant sec k s.rle.cycle.divisor (s.comp p)) = none
      ∨ ∃ t, s.reach (compensatedInstant sec k s.rle.cycle.divisor (s.comp p)) = some t
        ∧ (compensatedInstant sec k s.rle.cycle.divisor (s.comp p)).sec ≠ t.now.sec) :
    exec (.cycleCompensatedInstant p sec k receiving) s = .next s := by
  by_cases hrest : (s.port p).state = .down ∨ s.rle.cycle.divisor ≤ k
  · exact exec_cycleCompensatedInstant_of_rest hrest
  · obtain ⟨hd, hk⟩ := not_or.mp hrest
    rw [execCycleCompensatedInstant_eq hh hd (not_le.mp hk), if_neg hr]
    rcases h with hn | ⟨t, ht, hsec⟩
    · rw [hn]
    · rw [ht]
      exact if_pos (.inl ⟨hr, hsec⟩)

/-! ### What is done there -/

/-- The port after the mode work, with the instant noted (04 R74). -/
def State.modeMoved (t : State) (p : Port) (sec : RowSec) (k : Nat) : State :=
  (t.setPort p (modesMoved (t.port p) k t.rle.cycle.divisor t.rle.staged.isSome)).note (.departure p sec k)

/-- A departure is made (04 R60, R61, R65). -/
def State.Departs (t : State) (r : PortRec) (sec : RowSec) (k : Nat) (early : Bool) : Prop :=
  (r.mode = .polled ∨ k = 0 ∨ r.solicited = true)
    ∧ ¬(t.tsu.quiet = true ∧ (sec = t.tsu.ts.sec + 1 → t.tsu.mark = some sec))
    ∧ (early = true → t.rle.staged = none)

theorem State.cycleWork_cases (left : Time) (early : Bool) :
    (t.Departs ((t.modeMoved p sec k).port p) sec k early
      ∧ t.cycleWork p sec k left early receiving = (t.modeMoved p sec k).depart p sec k left receiving)
    ∨ (¬t.Departs ((t.modeMoved p sec k).port p) sec k early
      ∧ t.cycleWork p sec k left early receiving = t.modeMoved p sec k) := by
  have hw : t.cycleWork p sec k left early receiving =
      if (((t.modeMoved p sec k).port p).due k && !(t.modeMoved p sec k).suppressed sec
          && !(early && (t.modeMoved p sec k).rle.staged.isSome)) = true then
        (t.modeMoved p sec k).depart p sec k left receiving
      else t.modeMoved p sec k := by
    rw [State.modeMoved, ← modeWork_eq]
    rfl
  have hdue : (((t.modeMoved p sec k).port p).due k && !(t.modeMoved p sec k).suppressed sec
      && !(early && (t.modeMoved p sec k).rle.staged.isSome)) = true
        ↔ t.Departs ((t.modeMoved p sec k).port p) sec k early := by
    have hsup : (t.modeMoved p sec k).suppressed sec = t.suppressed sec := rfl
    have hst : (t.modeMoved p sec k).rle.staged = t.rle.staged := rfl
    rw [hsup, hst, Bool.and_eq_true, Bool.and_eq_true, PortRec.due_iff, Bool.not_eq_true', ← Bool.not_eq_true,
      State.suppressed_iff, State.Departs, and_assoc]
    cases early <;> cases t.rle.staged <;> simp
  by_cases h : t.Departs ((t.modeMoved p sec k).port p) sec k early
  · exact .inl ⟨h, hw.trans (if_pos (hdue.mpr h))⟩
  · exact .inr ⟨h, hw.trans (if_neg (hdue.not.mpr h))⟩

/-- A departure in the words of the statement: with the receiver open and no frame going on past the tick, it leaves the
note that one may end there (06 R114). -/
theorem State.depart_eq (left : Time) (hd : (s.port p).state ≠ .down) :
    s.depart p sec k left receiving =
      let v := (overtakenClosed s p receiving).setPort p (departureMade (overtakenClosed s p receiving) p sec k left)
      if ((s.port p).rx = .looking ∨ (s.port p).rx = .receiving) ∧ receiving = false then
        v.note (.overtaken p (s.port p).exch) else v := by
  rw [overtakenClosed_eq s p receiving hd, departureMade_eq]
  refine if_congr ?_ rfl rfl
  rw [Bool.and_eq_true, PortRec.canReceive_iff, Bool.not_eq_true']
  simp only [ne_eq, hd, not_false_eq_true, true_and]

/-! ### The statement -/

theorem State.DepartureTick.rle (h : s.DepartureTick t p sec k) : t.rle = s.rle := by
  rcases h with ⟨-, rfl⟩ | ⟨-, hreach, -⟩
  · rfl
  · exact (State.reach_elsewhere hreach).rle

/-- Settles O33: the command waits for the instant's tick, the mode work is done and noted there, and a departure that is due
is made as the statement writes it. -/
theorem departureOpensItsExchange : Obligations.DepartureOpensItsExchange := by
  refine ⟨?_, ?_⟩
  · intro s t p sec k receiving hh hd hk n c early left htick
    have ht : s.DepartureTick t p sec k := htick.imp (fun ⟨hk0, hc, hr, e⟩ => ⟨⟨hk0, hc, hr⟩, e⟩) id
    have hexec := exec_cycleCompensatedInstant_reached (receiving := receiving) hh hd hk ht
    refine ⟨fun hin => hexec.trans (if_pos hin), fun hout => ?_⟩
    rw [hexec, if_neg hout]
    intro r u quiet due hears departs noted
    have hu : t.modeMoved p sec k = u := by
      have hn : t.rle.cycle.divisor = n := by rw [ht.rle]
      unfold State.modeMoved
      rw [hn]
      rfl
    have hr : u.port p = r := State.port_setPort_same ..
    have hstate : (u.port p).state ≠ .down := by
      rw [hr, PortRec.modesMoved_state, State.port_of_rle ht.rle]
      exact hd
    have hwork := t.cycleWork_cases (p := p) (sec := sec) (k := k) (receiving := receiving) left early
    rw [hu, hr] at hwork
    have hidle : ¬due → t.cycleWork p sec k left early receiving = u := fun hno =>
      hwork.elim (fun h => absurd h.1 hno) And.right
    have hmade : due → t.cycleWork p sec k left early receiving = u.depart p sec k left receiving := fun hyes =>
      hwork.elim And.right fun h => absurd hyes h.1
    rw [State.depart_eq left hstate, hr] at hmade
    exact ⟨fun hno => congrArg _ (hidle hno), fun hyes hclosed => congrArg _ ((hmade hyes).trans (if_neg hclosed)),
      fun hyes hopen hends => congrArg _ ((hmade hyes).trans (if_pos ⟨hopen, hends⟩))⟩
  · intro s p sec k receiving hh left h
    rcases h with h | h | ⟨hr, h⟩
    · exact exec_cycleCompensatedInstant_of_rest (.inl h)
    · exact exec_cycleCompensatedInstant_of_rest (.inr h)
    · exact exec_cycleCompensatedInstant_unreached hh hr h

end Departures
end Sys2Proof.Machine
end

section
/-! PROOFS. The expiry of a reply window (04 R69), and frames of the rack link that are no valid ECHO (04 R58, R59, R67, R68,
R75; 06 R114). -/
namespace Sys2Proof.Machine

/-! ### The expiry of a reply window -/

section Expiry

variable {s t : State} {p : Port} {receiving : Bool} {x : Exchange}

/-- A window's expiry at the tick it waits for. The wait is a variable here: with `State.reachElapsed` itself the kernel
would evaluate its ticks. -/
theorem replyWindow_reached (f : State → Nat → Nat → Option State) (hx : (s.port p).exch = some x)
    (hf : f s x.stamp x.window = some t) (hdef : x.deferred = false) :
    (match (s.port p).exch with
      | none => Host.Outcome.next s
      | some x =>
        if x.deferred then .next s
        else match f s x.stamp x.window with
          | none => .next s
          | some t =>
            if receiving && (t.port p).canReceive then
              .next (t.setPort p { t.port p with exch := some { x with deferred := true }, rx := .receiving })
            else .next (t.missEcho p) : Host.Outcome State Fault Refusal) =
    if (receiving && (t.port p).canReceive) = true then
      .next (t.setPort p { t.port p with exch := some { x with deferred := true }, rx := .receiving })
    else .next (t.missEcho p) := by
  rw [hx]
  simp only [hdef, hf, Bool.false_eq_true, if_false]

theorem exec_replyWindowExpiry (hh : s.mlc.held = false) (hx : (s.port p).exch = some x) (hdef : x.deferred = false)
    (ht : s.reachElapsed x.stamp x.window = some t) : exec (.replyWindowExpiry p receiving) s =
      if (receiving && (t.port p).canReceive) = true then
        .next (t.setPort p { t.port p with exch := some { x with deferred := true }, rx := .receiving })
      else .next (t.missEcho p) :=
  (if_neg (by simp [hh])).trans (replyWindow_reached State.reachElapsed hx ht hdef)

/-- Settles O36: ticks leave the ports alone, so the expiry finds at its tick the receiver it finds now. -/
theorem windowExpiryCountsAMissingEcho : Obligations.WindowExpiryCountsAMissingEcho := by
  intro s t p receiving x hh hx hdef ht r
  have hr : t.port p = r := (State.reachElapsed_elsewhere ht).port p
  rw [exec_replyWindowExpiry hh hx hdef ht, hr, echoMissed_eq]
  exact ⟨fun h => if_pos (Bool.and_eq_true_iff.mpr h), fun h => if_neg (h ∘ Bool.and_eq_true_iff.mp)⟩

end Expiry

/-! ### A frame's end -/

/-- An expiry has been deferred to a frame being received, or the window has run out in its course (04 R69; log entries 24
and 36). -/
def Exchange.Due (x : Exchange) (elapsed : Nat) : Prop := x.deferred = true ∨ x.stamp + x.window * 4294967296 ≤ elapsed

/-- A departure of this tick closed the receiver of port `p`, and with it the exchange `x` (06 R114; log entry 50). -/
def State.Tells (s : State) (p : Port) (x : Option Exchange) : Prop :=
  (s.port p).state ≠ .down ∧ (s.port p).rx = .closed ∧ TickEvent.overtaken p x ∈ s.clk.taken
    ∧ ∀ y : Option Exchange, TickEvent.overtaken p y ∈ s.clk.taken → y = x

theorem Exchange.due_iff {x : Exchange} {n : Nat} : (x.deferred || x.overdue n) = true ↔ x.Due n := by
  simp [Exchange.Due, Exchange.overdue, unitsPerNs]

theorem TickEvent.overtakenOn_eq_some {p : Port} {e : TickEvent} {x : Option Exchange} :
    e.overtakenOn p = some x ↔ e = .overtaken p x := by
  cases e with
  | overtaken q y =>
    by_cases hq : q = p
    · simp [TickEvent.overtakenOn, hq]
    · simp [TickEvent.overtakenOn, hq]
  | _ => simp [TickEvent.overtakenOn]

section FrameEnd

variable {s : State} {p : Port} {frame : List Byte} {ago : Nat} {v : RackVerdict} {e : Echo} {c : RackCheck} {x : Exchange}

theorem exec_echoReceived (hh : s.mlc.held = false) (frame : List Byte) (ago : Nat) :
    exec (.echoReceived p frame ago) s = .next (s.frameEnd p (judgeRack frame) ago) := if_neg (by simp [hh])

theorem exec_callReceived (hh : s.mlc.held = false) : exec (.callReceived p) s = .next (s.frameEnd p .call 0) :=
  if_neg (by simp [hh])

theorem exec_rackFrameRejected (hh : s.mlc.held = false) (c : RackCheck) :
    exec (.rackFrameRejected p c) s = .next (s.frameEnd p (.bad c) 0) := if_neg (by simp [hh])

theorem exec_rackReceiverReopen (hh : s.mlc.held = false) (hd : (s.port p).state ≠ .down) :
    exec (.rackReceiverReopen p) s = if (s.port p).rx = .closed ∨ (s.port p).rx = .waitIdle then
      .next (s.setPort p { s.port p with rx := .looking, tx := none }) else .next s := if_neg (by simp [hh, hd])

theorem State.overtaken_of_tells {z : Option Exchange} (h : s.Tells p z) : s.overtaken p = some z := by
  obtain ⟨hd, hr, hz, hu⟩ := h
  rw [State.overtaken, if_pos (by simp [hd, hr])]
  cases hf : s.clk.taken.findSome? (TickEvent.overtakenOn p) with
  | none => exact absurd (List.findSome?_eq_none_iff.mp hf _ hz) (by simp [TickEvent.overtakenOn])
  | some y =>
    obtain ⟨e, he, hy⟩ := List.exists_of_findSome?_eq_some hf
    rw [hu y (TickEvent.overtakenOn_eq_some.mp hy ▸ he)]

theorem State.overtaken_eq_none
    (h : ∀ z : Option Exchange, (s.port p).state = .down ∨ (s.port p).rx ≠ .closed ∨ TickEvent.overtaken p z ∉ s.clk.taken) :
    s.overtaken p = none := by
  by_cases hr : (s.port p).state ≠ .down ∧ (s.port p).rx = .closed
  · rw [State.overtaken, if_pos (by simp [hr]), List.findSome?_eq_none_iff]
    intro e he
    rw [Option.eq_none_iff_forall_ne_some]
    intro z hz
    have hout := ((h z).resolve_left hr.1).resolve_left (not_not.mpr hr.2)
    exact hout (TickEvent.overtakenOn_eq_some.mp hz ▸ he)
  · exact if_neg (by simpa using hr)

theorem State.frameEnd_of_none (hc : (s.port p).canReceive = false) (ho : s.overtaken p = none) (v : RackVerdict)
    (ago : Nat) : s.frameEnd p v ago = s := by
  rw [State.frameEnd.eq_def, if_neg (by simp [hc]), ho]

theorem State.frameEnd_of_tells {z : Option Exchange} (hc : (s.port p).canReceive = false) (h : s.Tells p z)
    (v : RackVerdict) (ago : Nat) : s.frameEnd p v ago = (s.settleOvertaken p).takeOvertaken p z v ago := by
  rw [State.frameEnd.eq_def, if_neg (by simp [hc]), State.overtaken_of_tells h]

theorem State.frameEnd_echo (hc : (s.port p).canReceive = true) : s.frameEnd p (.echo e) ago = s.receiveEcho p e ago :=
  if_pos hc

theorem State.frameEnd_call (hc : (s.port p).canReceive = true) : s.frameEnd p .call ago = s.receiveCall p := if_pos hc

theorem State.frameEnd_bad (hc : (s.port p).canReceive = true) : s.frameEnd p (.bad c) ago = s.rejectFrame p c := if_pos hc

/-! ### The expiry that a frame's end takes up -/

theorem State.closeFrame_of_none (hx : (s.port p).exch = none) : s.closeFrame p = s := by
  rw [State.closeFrame, hx]

theorem State.closeFrame_of_due (hx : (s.port p).exch = some x) (hd : x.Due s.clk.elapsed) :
    s.closeFrame p = s.missEcho p := by
  rw [State.closeFrame, hx]
  exact if_pos (Exchange.due_iff.mpr hd)

theorem State.closeFrame_of_not_due (hx : (s.port p).exch = some x) (hd : ¬x.Due s.clk.elapsed) : s.closeFrame p = s := by
  rw [State.closeFrame, hx]
  exact if_neg (hd ∘ Exchange.due_iff.mp)

/-- A frame that was counted, its counters now `c`: what it leaves of the port, and the expiry after it. -/
theorem State.closeFrame_setPort {r : PortRec} (hx : r.exch = (s.port p).exch) :
    ((s.port p).exch = none → (s.setPort p r).closeFrame p = s.setPort p r)
    ∧ ∀ x : Exchange, (s.port p).exch = some x →
      (¬x.Due s.clk.elapsed → (s.setPort p r).closeFrame p = s.setPort p r)
      ∧ (x.Due s.clk.elapsed → (s.setPort p r).closeFrame p = echoMissed (s.setPort p r) p) := by
  have hr : ((s.setPort p r).port p).exch = (s.port p).exch := by rw [State.port_setPort_same, hx]
  refine ⟨fun h => State.closeFrame_of_none (hr.trans h),
    fun x h => ⟨State.closeFrame_of_not_due (hr.trans h), fun hd => ?_⟩⟩
  rw [echoMissed_eq]
  exact State.closeFrame_of_due (hr.trans h) hd

/-! ### A frame by an open receiver -/

theorem State.rejectFrame_eq (p : Port) (c : RackCheck) : s.rejectFrame p c =
    (s.setPort p { s.port p with rx := .waitIdle, ctr := (s.port p).ctr.reject c }).closeFrame p := by
  unfold State.rejectFrame State.frameOver
  simp only [State.port_setPort_same, State.setPort_setPort]

theorem State.receiveCall_of_none (hx : (s.port p).exch = none) : s.receiveCall p =
    (s.frameOver p .looking).setPort p ((s.frameOver p .looking).port p).takeCall := by
  have h : ((s.frameOver p .looking).port p).exch = none := by rw [State.frameOver, State.port_setPort_same]; exact hx
  simp only [State.receiveCall, h]

theorem State.receiveCall_of_some (hx : (s.port p).exch = some x) : s.receiveCall p =
    if x.deferred then
      ((s.frameOver p .looking).setPort p ((s.frameOver p .looking).port p).takeCall).missEcho p
    else if x.overdue s.clk.elapsed then
      ((s.frameOver p .looking).missEcho p).setPort p (((s.frameOver p .looking).missEcho p).port p).takeCall
    else (s.frameOver p .looking).setPort p ((s.frameOver p .looking).port p).takeCall := by
  have h : ((s.frameOver p .looking).port p).exch = some x := by rw [State.frameOver, State.port_setPort_same]; exact hx
  have hk : (s.frameOver p .looking).clk = s.clk := rfl
  simp only [State.receiveCall, h, hk]

theorem State.receiveEcho_of_none (hx : (s.port p).exch = none) : s.receiveEcho p e ago =
    s.setPort p { s.port p with rx := .looking, ctr := { (s.port p).ctr with late := bump (s.port p).ctr.late } } := by
  have h : ((s.frameOver p .looking).port p).exch = none := by rw [State.frameOver, State.port_setPort_same]; exact hx
  simp only [State.receiveEcho, h]
  simp only [State.lateEcho, State.frameOver, State.port_setPort_same, State.setPort_setPort]

/-- An ECHO beside an open exchange, by where its leading edge lies and by its tag (04 R67, R68; log entry 25). -/
theorem State.receiveEcho_of_some (hx : (s.port p).exch = some x) : s.receiveEcho p e ago =
    if s.edgeElapsed ago < x.stamp then s
    else if (x.stamp + x.window * unitsPerNs : Nat) < s.edgeElapsed ago then
      ((s.frameOver p .looking).missEcho p).lateEcho p
    else if e.tag = x.entry.tag then (s.frameOver p .looking).validEcho p x e (s.edgeTime ago)
    else (s.setPort p { s.port p with
      rx := .looking, ctr := { (s.port p).ctr with tag := bump (s.port p).ctr.tag } }).closeFrame p := by
  have h : ((s.frameOver p .looking).port p).exch = some x := by rw [State.frameOver, State.port_setPort_same]; exact hx
  simp only [State.receiveEcho, h]
  simp only [State.frameOver, State.port_setPort_same, State.setPort_setPort, hx]
  rfl

theorem State.edgeElapsed_eq (ago : Nat) : s.edgeElapsed ago = (s.clk.elapsed : Int) - ago * 4294967296 := by
  simp [State.edgeElapsed, unitsPerNs]

theorem Exchange.closes_eq (x : Exchange) :
    ((x.stamp + x.window * unitsPerNs : Nat) : Int) = (x.stamp : Int) + x.window * 4294967296 := by
  simp [unitsPerNs]

section Edge

variable (hle : (x.stamp : Int) ≤ s.clk.elapsed - ago * 4294967296)
  (hin : s.clk.elapsed - ago * 4294967296 ≤ (x.stamp : Int) + x.window * 4294967296)

theorem State.receiveEcho_before (hx : (s.port p).exch = some x) (h : (s.clk.elapsed : Int) - ago * 4294967296 < x.stamp) :
    s.receiveEcho p e ago = s := by
  rw [State.receiveEcho_of_some hx, State.edgeElapsed_eq, if_pos h]

include hle in
theorem State.receiveEcho_after (hx : (s.port p).exch = some x)
    (h : (x.stamp : Int) + x.window * 4294967296 < s.clk.elapsed - ago * 4294967296) :
    s.receiveEcho p e ago = ((s.frameOver p .looking).missEcho p).lateEcho p := by
  rw [State.receiveEcho_of_some hx, State.edgeElapsed_eq, Exchange.closes_eq, if_neg (not_lt.mpr hle), if_pos h]

include hle hin in
theorem State.receiveEcho_otherTag (hx : (s.port p).exch = some x) (h : e.tag ≠ x.entry.tag) :
    s.receiveEcho p e ago = (s.setPort p { s.port p with
      rx := .looking, ctr := { (s.port p).ctr with tag := bump (s.port p).ctr.tag } }).closeFrame p := by
  rw [State.receiveEcho_of_some hx, State.edgeElapsed_eq, Exchange.closes_eq, if_neg (not_lt.mpr hle),
    if_neg (not_lt.mpr hin), if_neg h]

include hle hin in
theorem State.receiveEcho_valid (hx : (s.port p).exch = some x) (h : e.tag = x.entry.tag) :
    s.receiveEcho p e ago = (s.frameOver p .looking).validEcho p x e (s.edgeTime ago) := by
  rw [State.receiveEcho_of_some hx, State.edgeElapsed_eq, Exchange.closes_eq, if_neg (not_lt.mpr hle),
    if_neg (not_lt.mpr hin), if_pos h]

/-! ### A frame that a departure of its tick overtook -/

theorem State.overtakenEcho_before (h : (s.clk.elapsed : Int) - ago * 4294967296 < x.stamp) :
    s.overtakenEcho p (some x) e ago = s := by
  rw [State.overtakenEcho, State.edgeElapsed_eq, if_pos h]

include hle in
theorem State.overtakenEcho_after (h : (x.stamp : Int) + x.window * 4294967296 < s.clk.elapsed - ago * 4294967296) :
    s.overtakenEcho p (some x) e ago = s.lateEcho p := by
  rw [State.overtakenEcho, State.edgeElapsed_eq, Exchange.closes_eq, if_neg (not_lt.mpr hle), if_pos h]

include hle hin in
theorem State.overtakenEcho_otherTag (h : e.tag ≠ x.entry.tag) : s.overtakenEcho p (some x) e ago =
    s.setPort p { s.port p with ctr := { (s.port p).ctr with tag := bump (s.port p).ctr.tag } } := by
  rw [State.overtakenEcho, State.edgeElapsed_eq, Exchange.closes_eq, if_neg (not_lt.mpr hle), if_neg (not_lt.mpr hin),
    if_neg h]

include hle hin in
theorem State.overtakenEcho_valid (h : e.tag = x.entry.tag) : s.overtakenEcho p (some x) e ago =
    s.handOn p { (s.port p).takeEcho e (s.edgeTime ago) with exch := (s.port p).exch } x e (s.edgeTime ago) := by
  rw [State.overtakenEcho, State.edgeElapsed_eq, Exchange.closes_eq, if_neg (not_lt.mpr hle), if_neg (not_lt.mpr hin),
    if_pos h]

end Edge

/-- A CALL in POLLED mode, or beside an open exchange, is a protocol error (04 R75). -/
theorem PortRec.takeCall_of_protocol {r : PortRec} (h : r.mode = .polled ∨ r.exch ≠ none) :
    r.takeCall = { r with ctr := { r.ctr with protocol := bump r.ctr.protocol } } :=
  if_neg (by rcases h with h | h <;> simp [h])

/-! ### O37 -/

/-- What a frame's end does at an open receiver, once the frame has been judged (04 R59, R67, R68, R75). -/
theorem exec_frame_of_open (hh : s.mlc.held = false) (hc : (s.port p).canReceive = true) :
    (∀ e : Echo, judgeRack frame = .echo e → exec (.echoReceived p frame ago) s = .next (s.receiveEcho p e ago))
    ∧ exec (.callReceived p) s = .next (s.receiveCall p)
    ∧ (judgeRack frame = .call → exec (.echoReceived p frame ago) s = exec (.callReceived p) s)
    ∧ ∀ c : RackCheck, exec (.rackFrameRejected p c) s = .next (s.rejectFrame p c)
      ∧ (judgeRack frame = .bad c → exec (.echoReceived p frame ago) s = exec (.rackFrameRejected p c) s) := by
  refine ⟨fun e he => ?_, ?_, fun he => ?_, fun c => ⟨?_, fun he => ?_⟩⟩
  · rw [exec_echoReceived hh, he, State.frameEnd_echo hc]
  · rw [exec_callReceived hh, State.frameEnd_call hc]
  · rw [exec_echoReceived hh, exec_callReceived hh, he, State.frameEnd_call hc, State.frameEnd_call hc]
  · rw [exec_rackFrameRejected hh, State.frameEnd_bad hc]
  · rw [exec_echoReceived hh, exec_rackFrameRejected hh, he, State.frameEnd_bad hc, State.frameEnd_bad hc]

/-- What a frame's end does at a receiver which a departure of the tick closed (06 R114; log entry 50). -/
theorem exec_frame_of_tells {z : Option Exchange} (hh : s.mlc.held = false) (hc : (s.port p).canReceive = false)
    (hz : s.Tells p z) :
    (∀ e : Echo, judgeRack frame = .echo e →
      exec (.echoReceived p frame ago) s = .next ((s.settleOvertaken p).overtakenEcho p z e ago))
    ∧ exec (.callReceived p) s = .next ((s.settleOvertaken p).setPort p (s.port p).takeCall)
    ∧ (judgeRack frame = .call → exec (.echoReceived p frame ago) s = exec (.callReceived p) s)
    ∧ ∀ c : RackCheck, exec (.rackFrameRejected p c) s =
        .next ((s.settleOvertaken p).setPort p { s.port p with ctr := (s.port p).ctr.reject c })
      ∧ (judgeRack frame = .bad c → exec (.echoReceived p frame ago) s = exec (.rackFrameRejected p c) s) := by
  have key := fun v ago => State.frameEnd_of_tells hc hz v ago
  refine ⟨fun e he => ?_, ?_, fun he => ?_, fun c => ⟨?_, fun he => ?_⟩⟩
  · rw [exec_echoReceived hh, he, key]; rfl
  · rw [exec_callReceived hh, key]; rfl
  · rw [exec_echoReceived hh, exec_callReceived hh, he, key, key]; rfl
  · rw [exec_rackFrameRejected hh, key]; rfl
  · rw [exec_echoReceived hh, exec_rackFrameRejected hh, he, key, key]; rfl

end FrameEnd

/-- Settles O37, by where the receiver stands: open, closed by a departure of the tick, or taking no frame. -/
theorem otherRackFramesAreCounted : Obligations.OtherRackFramesAreCounted := by
  refine ⟨?_, ?_, ?_⟩
  · intro s p frame ago hh hc r ctr edge heard dropped called failed due
    obtain ⟨hecho, hcall, hsame, hbad⟩ := exec_frame_of_open (frame := frame) (ago := ago) hh hc
    have hfailed : ∀ c, failed c = ctr.reject c := fun c => by cases c <;> rfl
    refine ⟨fun e he => ?_, fun hx => ?_, fun x hx => ?_, hsame, fun c => ?_⟩
    · rw [hecho e he]
      refine ⟨fun hx => by rw [State.receiveEcho_of_none hx], fun x hx => ?_⟩
      have hcount := (State.closeFrame_setPort (r := { r with rx := .looking, ctr := { ctr with tag := bump ctr.tag } })
        (s := s) (p := p) rfl).2 x hx
      refine ⟨fun h => by rw [State.receiveEcho_before hx h], fun h hle => ?_, fun hle hin htag => ?_⟩
      · rw [State.receiveEcho_after hle hx h, ← echoMissed_eq]
        rfl
      · rw [State.receiveEcho_otherTag hle hin hx htag]
        exact ⟨fun hd => by rw [hcount.1 hd], fun hd => by rw [hcount.2 hd]⟩
    · rw [hcall, State.receiveCall_of_none hx]
      rfl
    · rw [hcall, State.receiveCall_of_some hx]
      refine ⟨fun hd => ?_, fun hd => ?_, fun hn hd => ?_⟩
      · rw [if_neg (fun k => hd (.inl k)), if_neg (fun k => hd (Exchange.due_iff.mp (by simp [k])))]
        rfl
      · rw [if_pos hd, ← echoMissed_eq]
        rfl
      · have ho : x.overdue s.clk.elapsed = true := by simpa [hn] using Exchange.due_iff.mpr hd
        rw [if_neg (by simp [hn]), if_pos ho, ← echoMissed_eq]
        rfl
    · obtain ⟨hrej, hsame⟩ := hbad c
      rw [hrej, State.rejectFrame_eq, hfailed]
      obtain ⟨hnone, hsome⟩ := State.closeFrame_setPort (r := { r with rx := .waitIdle, ctr := ctr.reject c })
        (s := s) (p := p) rfl
      refine ⟨fun hx => by rw [hnone hx], fun x hx => ⟨fun hd => ?_, fun hd => ?_⟩, fun h => (hsame h).trans ?_⟩
      · rw [(hsome x hx).1 hd]
      · rw [(hsome x hx).2 hd]
      · rw [hrej, State.rejectFrame_eq]
  · intro s p frame ago hh hc r ctr edge told taken
    refine ⟨fun h => ?_, fun z e hz he => ?_, fun z hz => ?_⟩
    · have ho := State.overtaken_eq_none h
      rw [exec_echoReceived hh, exec_callReceived hh, State.frameEnd_of_none hc ho, State.frameEnd_of_none hc ho]
      exact ⟨rfl, rfl, fun c => by rw [exec_rackFrameRejected hh, State.frameEnd_of_none hc ho]⟩
    · rw [(exec_frame_of_tells hh hc hz).1 e he]
      refine ⟨fun hn => by subst hn; rfl, fun y hy => ?_⟩
      subst hy
      refine ⟨fun h => ?_, fun hle h => ?_, fun hle hin htag => ?_⟩
      · rw [State.overtakenEcho_before (s := s.settleOvertaken p) h]
      · rw [State.overtakenEcho_after (s := s.settleOvertaken p) hle h]
        rfl
      · rw [State.overtakenEcho_otherTag (s := s.settleOvertaken p) hle hin htag]
        rfl
    · obtain ⟨-, hcall, hsame, hbad⟩ := exec_frame_of_tells (frame := frame) (ago := ago) hh hc hz
      refine ⟨fun h => ?_, hsame, (hbad .framing).1, (hbad .kind).1, (hbad .count).1, (hbad .crc).1, fun c => (hbad c).2⟩
      rw [hcall, PortRec.takeCall_of_protocol h]
  · intro s p hh hd
    rw [exec_rackReceiverReopen hh hd]
    exact ⟨fun h => if_pos h, fun h => if_neg (by rcases h with h | h <;> simp [h])⟩

end Sys2Proof.Machine
end

section
/-! PROOFS. The requests of the rack link: SET CYCLE, SET DRIFT and SET QUEUE (04 R77, 05 R104, 07 R139). -/
namespace Sys2Proof.Machine

section Requests

variable {s : State} {r : Req}

/-- A request that the hub takes and its block carries out by an update of other units than the link leaves that update and
the link concluded. -/
theorem State.serve_update {k : ReqKind} (h : s.Takes k r) (hk : k.length ≤ 248) {act : Req → State → Served}
    (f : State → State) (hf : ∀ (s : State) (m : Mlc), f (s.setMlc m) = (f s).setMlc m) {res : Result} {body : List Byte}
    (hr : res.refuses = false)
    (ha : act r ((s.dropFrame s.mlc.ctr).taken r) = ⟨f ((s.dropFrame s.mlc.ctr).taken r), res, body⟩) :
    s.serve k r act = (f s).concluded (k.code + 0x80) r res body := by
  rw [State.serve_of_takes h hk, ha]
  exact State.conclude_of_update f hf hr h.idle

/-! ### SET CYCLE (04 R77) -/

theorem validDivisor_iff (n : Nat) :
    validDivisor n = true ↔ n = 1 ∨ n = 2 ∨ n = 4 ∨ n = 8 ∨ n = 16 ∨ n = 32 ∨ n = 64 := by
  simp [validDivisor]

theorem actSetCycle_invalid (t : State) (h : ¬validDivisor (CycleReq.read r.payload).divisor = true) :
    actSetCycle r t = .refuse t .invalid := if_pos (by simpa using h)

theorem actSetCycle_accepted (t : State) (h : validDivisor (CycleReq.read r.payload).divisor = true) :
    actSetCycle r t =
      let q := CycleReq.read r.payload
      ⟨t.setRle { t.rle with staged := some ⟨q.divisor, q.windowInForce⟩ },
        if q.windowInForce = q.window then .done else .doneClamped, []⟩ := by
  simp only [actSetCycle, h, Result.ofClamp_ne, Bool.not_true, Bool.false_eq_true, if_false]

/-! ### SET DRIFT (05 R104, 03 R54) -/

theorem actSetDrift_eq (t : State) : actSetDrift r t =
    let q := DriftReq.read r.payload
    ⟨(t.setDrm { t.drm with cfg := q.clamped.cfg }).setEds { t.eds with compStep := q.clamped.compStep },
      if q.clamped = q then .done else .doneClamped, q.clamped.bytes⟩ := by
  simp only [actSetDrift, Result.ofClamp_ne]
  rfl

/-! ### SET QUEUE (07 R139) -/

theorem Policy.ofCode_eq_some {k : Nat} {p : Policy} (h : p.code = k) : Policy.ofCode k = some p := by
  subst h
  cases p <;> rfl

theorem Policy.ofCode_eq_none {k : Nat} (h : 1 < k) : Policy.ofCode k = none := by
  match k, h with
  | k + 2, _ => rfl

/-- The stamp queue that a SET QUEUE leaves: it keeps the policy that still governs the tick. -/
def State.queueSet (s : State) (p : Policy) (w : Nat) : Sq :=
  { s.sq with policy := p, prior := some (s.policyNow, s.clk.ticks), watermark := w }

theorem actSetQueue_invalid (t : State) (h : 1 < (QueueReq.read r.payload).policy) :
    actSetQueue r t = .refuse t .invalid := by
  unfold actSetQueue
  simp only [Policy.ofCode_eq_none h]

theorem actSetQueue_accepted (t : State) {p : Policy} (h : p.code = (QueueReq.read r.payload).policy) :
    actSetQueue r t =
      let q := QueueReq.read r.payload
      ⟨t.setSq (t.queueSet p (clampNat 1 1008 q.watermark)),
        if clampNat 1 1008 q.watermark = q.watermark then .done else .doneClamped, []⟩ := by
  unfold actSetQueue
  simp only [Policy.ofCode_eq_some h, Result.ofClamp_ne]
  rfl

theorem State.policyNow_queueSet (p : Policy) (w : Nat) : (s.setSq (s.queueSet p w)).policyNow = s.policyNow := if_pos rfl

theorem State.policyNow_queueSet_later (p : Policy) (w : Nat) {c : Clock} (h : c.ticks ≠ s.clk.ticks) :
    ((s.setSq (s.queueSet p w)).setClk c).policyNow = p := if_neg (Ne.symm h)

/-- Settles O39: each of the three is an update of its own units, SET DRIFT's being two. -/
theorem setCycleSetDriftSetQueueTakeClampedFields : Obligations.SetCycleSetDriftSetQueueTakeClampedFields := by
  intro s r
  refine ⟨fun h => ⟨fun hv => ?_, fun hv => ?_⟩, fun h => ?_, fun h => ⟨fun hp => ?_, fun p hp => ?_⟩⟩
  · exact congrArg _ (State.serve_refused h (by decide) (actSetCycle_invalid _ ((validDivisor_iff _).not.mpr hv)))
  · exact congrArg _ (State.serve_update h (by decide)
      (fun t => t.setRle { t.rle with
        staged := some ⟨(CycleReq.read r.payload).divisor, (CycleReq.read r.payload).windowInForce⟩ })
      (fun _ _ => rfl) (Result.ite_refuses _) (actSetCycle_accepted _ ((validDivisor_iff _).mpr hv)))
  · exact congrArg _ (State.serve_update h (by decide)
      (fun t => (t.setDrm { t.drm with cfg := (DriftReq.read r.payload).clamped.cfg }).setEds
        { t.eds with compStep := (DriftReq.read r.payload).clamped.compStep })
      (fun _ _ => rfl) (Result.ite_refuses _) (actSetDrift_eq _))
  · exact congrArg _ (State.serve_refused h (by decide) (actSetQueue_invalid _ hp))
  · exact ⟨_, congrArg _ (State.serve_update h (by decide)
        (fun t => t.setSq (t.queueSet p (clampNat 1 1008 (QueueReq.read r.payload).watermark))) (fun _ _ => rfl)
        (Result.ite_refuses _) (actSetQueue_accepted _ hp)),
      rfl, State.policyNow_queueSet p _, fun c hc => State.policyNow_queueSet_later p _ hc⟩

end Requests
end Sys2Proof.Machine
end

section
/-! PROOFS. SET PORT, whose enable and disable raise notices while its own reply is pending (04 R71, R72, R78). -/
namespace Sys2Proof.Machine

section SetPort

variable {s : State} {r : Req} {p : Port}

/-! ### A request whose block raises notices -/

/-- A broadcast request is served with the transmitter as it was. -/
theorem State.taken_of_broadcast (hb : r.broadcast = true) {res : Result} (hr : res.refuses = false) :
    (s.dropFrame s.mlc.ctr).taken r = s.setMlc (s.mlc.counted res) := by
  rw [State.taken, if_pos hb, Mlc.counted, hr]
  rfl

theorem State.conclude_of_broadcast (hb : r.broadcast = true) {res : Result} (hr : res.refuses = false) (kb : Byte)
    (t : State) (body : List Byte) : s.conclude kb r ⟨t, res, body⟩ = t := by
  simp only [State.conclude, hr, hb, LinkCounters.takeRefusal, if_true, Bool.false_eq_true, if_false]
  rfl

/-- An addressed request has the transmitter before any notice of its own raising (09 R155, R159; log entry 40). -/
theorem State.taken_waits (hb : r.broadcast = false) : ((s.dropFrame s.mlc.ctr).taken r).mlc.Waits := by
  refine .inr ?_
  rw [State.taken, if_neg (by simp [hb])]
  change (if _ then _ else _) ≠ _
  split <;> decide

theorem State.raiseNotice_two_of_waits (h : s.mlc.Waits) (p q : Place) (v w : NoticeValue) :
    (s.raiseNotice p v).raiseNotice q w = s.setNtu ((s.ntu.raise p v s.now.sec).raise q w s.now.sec) := by
  rw [State.raiseNotice_of_waits h]
  exact State.raiseNotice_of_waits (s := s.setNtu (s.ntu.raise p v s.now.sec)) h q w

/-- A request that the hub takes and its block carries out by an update of other units than the link, after which it raises
two notices. -/
theorem State.serve_raising {k : ReqKind} (h : s.Takes k r) (hk : k.length ≤ 248) {act : Req → State → Served}
    (f : State → State) (hf : ∀ (s : State) (m : Mlc), f (s.setMlc m) = (f s).setMlc m) {res : Result} {body : List Byte}
    (hr : res.refuses = false) {p q : Place} {v w : NoticeValue}
    (ha : act r ((s.dropFrame s.mlc.ctr).taken r) =
      ⟨((f ((s.dropFrame s.mlc.ctr).taken r)).raiseNotice p v).raiseNotice q w, res, body⟩) :
    s.serve k r act =
      if r.broadcast then (((f s).setMlc (s.mlc.counted res)).raiseNotice p v).raiseNotice q w
      else ((f s).setNtu (((f s).ntu.raise p v (f s).now.sec).raise q w (f s).now.sec)).concluded (k.code + 0x80) r res
        body := by
  cases hb : r.broadcast with
  | true =>
    rw [State.serve_of_takes h hk, ha, State.conclude_of_broadcast hb hr, State.taken_of_broadcast hb hr, hf, if_pos rfl]
  | false =>
    rw [if_neg Bool.false_ne_true]
    have hmlc := congrArg State.mlc (hf ((s.dropFrame s.mlc.ctr).taken r) ((s.dropFrame s.mlc.ctr).taken r).mlc)
    have hw : (f ((s.dropFrame s.mlc.ctr).taken r)).mlc.Waits := cast (congrArg Mlc.Waits hmlc.symm) (State.taken_waits hb)
    refine State.serve_update h hk
      (fun t => (f t).setNtu (((f t).ntu.raise p v (f t).now.sec).raise q w (f t).now.sec)) (fun t m => by
        simp only [hf]; rfl) hr ?_
    rw [ha, State.raiseNotice_two_of_waits hw]

/-! ### Occurrences raised beside writes to a port, a record or marks -/

/-- An update of units that no occurrence looks at: it neither changes nor reads the link, the pending set, the backlog and
the present tick. -/
structure RaiseBlind (f : State → State) : Prop where
  setNtu : ∀ (s : State) (n : Ntu), f (s.setNtu n) = (f s).setNtu n
  setMlc : ∀ (s : State) (m : Mlc), f (s.setMlc m) = (f s).setMlc m
  setSq : ∀ (s : State) (q : Sq), f (s.setSq q) = (f s).setSq q
  ntu : ∀ s : State, (f s).ntu = s.ntu
  mlc : ∀ s : State, (f s).mlc = s.mlc
  sq : ∀ s : State, (f s).sq = s.sq
  tsu : ∀ s : State, (f s).tsu = s.tsu

theorem RaiseBlind.setPort (p : Port) (r : PortRec) : RaiseBlind (·.setPort p r) :=
  ⟨fun _ _ => rfl, fun _ _ => rfl, fun _ _ => rfl, fun _ => rfl, fun _ => rfl, fun _ => rfl, fun _ => rfl⟩

theorem RaiseBlind.setRack (p : Port) (r : RackRec) : RaiseBlind (·.setRack p r) :=
  ⟨fun _ _ => rfl, fun _ _ => rfl, fun _ _ => rfl, fun _ => rfl, fun _ => rfl, fun _ => rfl, fun _ => rfl⟩

theorem RaiseBlind.setMarks (p : Port) (m : PortMarks) : RaiseBlind (·.setMarks p m) :=
  ⟨fun _ _ => rfl, fun _ _ => rfl, fun _ _ => rfl, fun _ => rfl, fun _ => rfl, fun _ => rfl, fun _ => rfl⟩

theorem RaiseBlind.raiseOne {f : State → State} (hf : RaiseBlind f) (s : State) (x : Raise) :
    f (s.raiseOne x) = (f s).raiseOne x := by
  have handOut : ∀ t : State, f t.handOut = (f t).handOut := by
    intro t
    simp only [State.handOut, hf.mlc, hf.ntu]
    split
    · split
      · rfl
      · rw [hf.setMlc, hf.setNtu]
    · rfl
  have hhdr : (f s).hdr = s.hdr ∧ (f s).now = s.now := State.hdr_congr (hf.tsu s)
  cases x with
  | notice q v => simp only [State.raiseOne, State.raiseNotice, handOut, hf.setNtu, hf.ntu, hhdr]
  | marker m => simp only [State.raiseOne, State.raiseMarker, hf.setSq, hf.sq, hhdr]

theorem RaiseBlind.raises {f : State → State} (hf : RaiseBlind f) (s : State) (xs : List Raise) :
    f (xs.foldl State.raiseOne s) = xs.foldl State.raiseOne (f s) := by
  induction xs generalizing s with
  | nil => rfl
  | cons x xs ih => rw [List.foldl_cons, List.foldl_cons, ih, hf.raiseOne]

theorem State.raiseNotice_setPort (q : Place) (v : NoticeValue) (x : PortRec) :
    (s.raiseNotice q v).setPort p x = (s.setPort p x).raiseNotice q v :=
  (RaiseBlind.setPort p x).raiseOne s (.notice q v)

theorem State.raiseNotice_port (q : Place) (v : NoticeValue) : (s.raiseNotice q v).port p = s.port p :=
  congrArg (fun x : Rle => x.ports[p]) (s.raiseNotice_fields q v).1

/-! ### The record's change (05 R83) -/

theorem Backlog.raise_rack (b : Backlog) (h : Hdr) (p : Port) (st : RackState) (k : Nat) (hk : k ≠ 0) :
    b.raise h (.rack p st k) = { b with rack := b.rack.set p (rackWaiting k h st b.rack[p]) } := by
  unfold rackWaiting
  rw [if_neg hk, Backlog.raise]
  cases ho : b.rack[p] <;> rfl

/-- A record's new state with its RACK marker, before its RACK notice. -/
def State.recordMoved (s : State) (p : Port) (x : RackRec) : State :=
  (s.setRack p x).raiseMarker s.hdr (.rack p x.state 1)

theorem State.recordMoved_eq (x : RackRec) : s.recordMoved p x =
    (s.setRack p x).setSq { s.sq with backlog :=
      { s.sq.backlog with rack := s.sq.backlog.rack.set p (rackWaiting 1 s.hdr x.state s.sq.backlog.rack[p]) } } := by
  rw [State.recordMoved, State.raiseMarker_eq, Backlog.raise_rack _ _ _ _ _ one_ne_zero]
  rfl

/-! ### The parts of a SET PORT (04 R71, R72, R78) -/

/-- A port enabled, before its notices (04 R71). -/
def State.portEnabled (s : State) (p : Port) (m : Mode) : State :=
  State.recordMoved (((s.setPort p { (s.port p).enter .seeking with
    mode := m, frozen := none, staged := none, solicited := false, missRun := 0, exch := none, rx := .waitIdle }).setEds
      { s.eds.setComp p (s.port p).initComp with earlyBelow := s.eds.earlyBelow.set p 0 }).setMarks p (s.marks p).empty)
    p (s.rack p).toSettling

/-- What a port's entry to DOWN does beside its port record, before its notices (04 R72). -/
def State.closeDown (s : State) (p : Port) : State :=
  State.recordMoved ((s.setEds (s.eds.setLevel p false)).setMarks p (s.marks p).empty) p (s.rack p).toUnseen

/-- A port disabled and its mode set, before its notices (04 R72, R78). -/
def State.portDisabled (s : State) (p : Port) (m : Mode) : State :=
  (s.setPort p { (s.port p).enter .down with
    exch := none, tx := none, rx := .closed, log := [], solicited := false, missRun := 0, lastEcho := none, mode := m,
    staged := none, frozen := none }).closeDown p

/-- The notices of an enable or a disable, the RACK notice first (log entries 32 and 57). -/
def State.portNotices (s : State) (p : Port) (x : RackRec) (c : RackCause) (st : PortState) (why : PortCause) : State :=
  (s.raiseNotice (.rack p) (.rack x.state c x.offset x.rate)).raiseNotice (.port p) (.port st why)

theorem State.applyPort_enable (hd : (s.port p).state = .down) (m : Mode) :
    s.applyPort p true m = (s.portEnabled p m).portNotices p (s.rack p).toSettling .enable .seeking .enable := by
  rw [State.applyPort, if_pos hd, if_pos rfl]
  simp only [State.enablePort]
  rfl

theorem State.portNotices_setPort (x : RackRec) (c : RackCause) (st : PortState) (why : PortCause) (y : PortRec) :
    (s.portNotices p x c st why).setPort p y = (s.setPort p y).portNotices p x c st why := by
  unfold State.portNotices
  rw [State.raiseNotice_setPort, State.raiseNotice_setPort]

theorem State.portNotices_port (x : RackRec) (c : RackCause) (st : PortState) (why : PortCause) :
    (s.portNotices p x c st why).port p = s.port p := by
  unfold State.portNotices
  rw [State.raiseNotice_port, State.raiseNotice_port]

theorem State.closeDown_setPort (x y : PortRec) :
    ((s.setPort p x).closeDown p).setPort p y = (s.setPort p y).closeDown p := by
  rw [← s.setPort_setPort p x y]
  rfl

theorem State.closeDown_port (x : PortRec) : ((s.setPort p x).closeDown p).port p = x := State.port_setPort_same ..

theorem State.disablePort_eq : s.disablePort p = ((s.setPort p { (s.port p).enter .down with
    exch := none, tx := none, rx := .closed, log := [], solicited := false, missRun := 0, lastEcho := none }).closeDown
      p).portNotices p (s.rack p).toUnseen .disable .down .disable := rfl

theorem State.applyPort_disable (hd : (s.port p).state ≠ .down) (m : Mode) :
    s.applyPort p false m = (s.portDisabled p m).portNotices p (s.rack p).toUnseen .disable .down .disable := by
  rw [State.applyPort, if_neg hd, if_neg Bool.false_ne_true]
  simp only [State.disablePort_eq, State.portNotices_setPort, State.portNotices_port, State.closeDown_setPort,
    State.closeDown_port]
  rfl

theorem State.applyPort_configure (hd : (s.port p).state = .down) (m : Mode) :
    s.applyPort p false m = s.setPort p { s.port p with mode := m, staged := none, frozen := none } := by
  rw [State.applyPort, if_pos hd, if_neg Bool.false_ne_true]

theorem State.applyPort_stage (hd : (s.port p).state ≠ .down) (m : Mode) :
    s.applyPort p true m = s.setPort p { s.port p with staged := some m } := by
  rw [State.applyPort, if_neg hd, if_pos rfl]

theorem Mode.ofCode_eq_some {k : Nat} {m : Mode} (h : m.code = k) : Mode.ofCode k = some m := by
  subst h
  cases m <;> rfl

theorem Mode.ofCode_eq_none {k : Nat} (h : 1 < k) : Mode.ofCode k = none := by
  match k, h with
  | k + 2, _ => rfl

theorem actSetPort_invalid (t : State) (h : 16 ≤ (PortReq.read r.payload).port ∨ 1 < (PortReq.read r.payload).mode) :
    actSetPort r t = .refuse t .invalid := by
  unfold actSetPort
  simp only
  split
  · next hp => rw [Mode.ofCode_eq_none (h.resolve_left (by omega))]
  · rfl

/-- The port that a SET PORT with these fields configures. -/
def State.portConfigured (s : State) (p : Port) (q : PortReq) : State :=
  s.setPort p { s.port p with loss := clampNat 2 255 q.loss, initComp := clampNat 0 20000 q.comp }

theorem actSetPort_accepted (t : State) {m : Mode} (hp : p.val = (PortReq.read r.payload).port)
    (hm : m.code = (PortReq.read r.payload).mode) :
    actSetPort r t =
      let q := PortReq.read r.payload
      ⟨(t.portConfigured p q).applyPort p q.enable m,
        if clampNat 2 255 q.loss = q.loss ∧ clampNat 0 20000 q.comp = q.comp then .done else .doneClamped, []⟩ := by
  have hres : ∀ a b : Prop, [Decidable a] → [Decidable b] →
      Result.ofClamp (decide (¬a) || decide (¬b)) = if a ∧ b then .done else .doneClamped := by
    intro a b _ _
    by_cases ha : a <;> by_cases hb : b <;> simp [Result.ofClamp, ha, hb]
  unfold actSetPort
  simp only [Mode.ofCode_eq_some hm, ← hp, p.isLt, dite_true]
  rw [← hres]
  rfl

theorem State.taken_port : ((s.dropFrame s.mlc.ctr).taken r).port p = s.port p
    ∧ ((s.dropFrame s.mlc.ctr).taken r).rack p = s.rack p := by
  obtain ⟨m, hm, -⟩ := State.taken_eq (s := s) (r := r)
  rw [hm]
  exact ⟨rfl, rfl⟩

/-- A record moved with its marker: its port's place in the backlog. -/
def State.rackWaits (s : State) (p : Port) (st : RackState) : Sq :=
  { s.sq with backlog :=
    { s.sq.backlog with rack := s.sq.backlog.rack.set p (rackWaiting 1 s.hdr st s.sq.backlog.rack[p]) } }

theorem State.portEnabled_configured (q : PortReq) (m : Mode) : (s.portConfigured p q).portEnabled p m =
    ((((s.setPort p { s.port p with
      loss := clampNat 2 255 q.loss, initComp := clampNat 0 20000 q.comp, state := .seeking, secs := 0, mode := m,
      staged := none, frozen := none, solicited := false, missRun := 0, exch := none, rx := .waitIdle }).setEds
        { s.eds with
          comp := s.eds.comp.set p (clampNat 0 20000 q.comp), earlyBelow := s.eds.earlyBelow.set p 0 }).setMarks p
      ⟨[], none, (s.marks p).ctr⟩).setRack p (s.rack p).toSettling).setSq (s.rackWaits p .settling) := by
  rw [State.portEnabled, State.recordMoved_eq]
  simp only [State.portConfigured, State.port_setPort_same, State.setPort_setPort]
  rfl

theorem State.portDisabled_configured (q : PortReq) (m : Mode) : (s.portConfigured p q).portDisabled p m =
    ((((s.setPort p { s.port p with
      loss := clampNat 2 255 q.loss, initComp := clampNat 0 20000 q.comp, state := .down, secs := 0, mode := m,
      staged := none, frozen := none, solicited := false, missRun := 0, exch := none, log := [], lastEcho := none,
      tx := none, rx := .closed }).setEds { s.eds with level := s.eds.level.set p false }).setMarks p
      ⟨[], none, (s.marks p).ctr⟩).setRack p (s.rack p).toUnseen).setSq (s.rackWaits p .unseen) := by
  rw [State.portDisabled, State.closeDown, State.recordMoved_eq]
  simp only [State.portConfigured, State.port_setPort_same, State.setPort_setPort]
  rfl

/-- Settles O38: what is configured, and then by the port's state and the request's enable flag. An addressed request holds
the transmitter while its notices are raised. -/
theorem setPortEnablesDisablesAndStages : Obligations.SetPortEnablesDisablesAndStages := by
  intro s r h q loss comp res
  refine ⟨fun hv => congrArg _ (State.serve_refused h (by decide) (actSetPort_invalid _ hv)), ?_⟩
  intro p m hp hm x marks leaves
  obtain ⟨hport, hrack⟩ := State.taken_port (s := s) (r := r) (p := p)
  have hact := fun t happ => (actSetPort_accepted ((s.dropFrame s.mlc.ctr).taken r) hp hm).trans
    (congrArg (fun t => Served.mk t res []) (show _ = t from happ))
  have hstate : ((((s.dropFrame s.mlc.ctr).taken r).portConfigured p q).port p).state = (s.port p).state := by
    rw [State.portConfigured, State.port_setPort_same, ← hport]
  have hracks : (((s.dropFrame s.mlc.ctr).taken r).portConfigured p q).rack p = s.rack p := hrack
  have hres : res.refuses = false := Result.ite_refuses _
  refine ⟨fun hd he => ?_, fun hd he => ?_, fun hd he => ?_, fun hd he => ?_⟩
  · refine congrArg _ (State.serve_update h (by decide) (fun t => t.setPort p { t.port p with
      loss := loss, initComp := comp, mode := m, staged := none, frozen := none }) (fun _ _ => rfl) hres (hact _ ?_))
    rw [show (PortReq.read r.payload).enable = false from he, State.applyPort_configure (hstate.trans hd)]
    simp only [State.portConfigured, State.port_setPort_same, State.setPort_setPort]
    rfl
  · refine congrArg _ (State.serve_update h (by decide) (fun t => t.setPort p { t.port p with
      loss := loss, initComp := comp, staged := some m }) (fun _ _ => rfl) hres (hact _ ?_))
    rw [show (PortReq.read r.payload).enable = true from he, State.applyPort_stage (fun k => hd (hstate.symm.trans k))]
    simp only [State.portConfigured, State.port_setPort_same, State.setPort_setPort]
    rfl
  · have happ := State.applyPort_enable (hstate.trans hd) m
    rw [hracks, ← show (PortReq.read r.payload).enable = true from he] at happ
    refine congrArg _ ((State.serve_raising h (by decide) (fun t => (t.portConfigured p q).portEnabled p m)
      (fun _ _ => rfl) hres (hact _ happ)).trans ?_)
    rw [State.portEnabled_configured]
    rfl
  · have happ := State.applyPort_disable (fun k => hd (hstate.symm.trans k)) m
    rw [hracks, ← show (PortReq.read r.payload).enable = false from he] at happ
    refine congrArg _ ((State.serve_raising h (by decide) (fun t => (t.portConfigured p q).portDisabled p m)
      (fun _ _ => rfl) hres (hact _ happ)).trans ?_)
    rw [State.portDisabled_configured]
    rfl

end SetPort
end Sys2Proof.Machine
end

section
/-! PROOFS. The rack link's frames, byte by byte (04 R59, R63; 11 section 11.4). -/
namespace Sys2Proof.Machine

/-! ### Fields of bytes laid out one after another (11 R181) -/

section Fields

variable {as bs : List Byte} {i n w v : Nat}

@[simp] theorem length_beNat (w v : Nat) : (beNat w v).length = w := by
  induction w with
  | zero => rfl
  | succ w ih => exact congrArg (· + 1) ih

@[simp] theorem length_beInt (w : Nat) (v : Int) : (beInt w v).length = w := length_beNat ..

@[simp] theorem length_byte (v : Nat) : (byte v).length = 1 := List.length_singleton

@[simp] theorem length_secBytes (x : RowSec) : (secBytes x).length = 6 := length_beNat ..

theorem foldl_readBe (bs : List Byte) (a : Nat) :
    bs.foldl (fun a b => a * 256 + b.toNat) a = a * 256 ^ bs.length + readBe bs := by
  induction bs generalizing a with
  | nil => simp [readBe]
  | cons c cs ih =>
    have hc : readBe (c :: cs) = (0 * 256 + c.toNat) * 256 ^ cs.length + readBe cs := ih _
    rw [List.foldl_cons, ih, hc, List.length_cons, pow_succ]
    ring

theorem readBe_cons (b : Byte) (bs : List Byte) : readBe (b :: bs) = b.toNat * 256 ^ bs.length + readBe bs :=
  (foldl_readBe bs (0 * 256 + b.toNat)).trans (by rw [Nat.zero_mul, Nat.zero_add])

@[simp] theorem readBe_beNat (w v : Nat) : readBe (beNat w v) = v % 256 ^ w := by
  induction w with
  | zero => simp [beNat, readBe, Nat.mod_one]
  | succ w ih =>
    rw [beNat, readBe_cons, ih, length_beNat, BitVec.toNat_ofNat, Nat.mod_pow_succ (x := v) (b := 256),
      Nat.mul_comm, Nat.add_comm]

theorem readBe_beNat_of_lt (h : v < 256 ^ w) : readBe (beNat w v) = v := by rw [readBe_beNat, Nat.mod_eq_of_lt h]

@[simp] theorem readBe_byte (v : Nat) : readBe (byte v) = v % 256 := by simp [readBe, byte]

@[simp] theorem readBe_secBytes (x : RowSec) : readBe (secBytes x) = x.toNat := readBe_beNat_of_lt (w := 6) x.isLt

@[simp] theorem readBe_beInt (w : Nat) (v : Int) : readBe (beInt w v) = (v % (256 ^ w : Nat)).toNat := by
  refine readBe_beNat_of_lt ?_
  have hpos : (0 : Int) < (256 ^ w : Nat) := by positivity
  have := Int.emod_lt_of_pos v hpos
  omega

/-- A field behind other bytes. -/
@[simp] theorem field_append_right (h : as.length ≤ i) : field (as ++ bs) i n = field bs (i - as.length) n := by
  rw [field, field, List.drop_append, List.drop_of_length_le h, List.nil_append]

/-- A field at the front. -/
@[simp] theorem field_append_left (h : as.length = n) : field (as ++ bs) 0 n = readBe as := by
  rw [field, List.drop_zero, List.take_left' h]

@[simp] theorem field_self (h : as.length = n) : field as 0 n = readBe as := by
  rw [field, List.drop_zero, List.take_of_length_le h.le]

@[simp] theorem field_cons_zero (b : Byte) (bs : List Byte) : field (b :: bs) 0 1 = b.toNat := by simp [field, readBe]

@[simp] theorem field_cons (b : Byte) (bs : List Byte) (h : 0 < i) : field (b :: bs) i n = field bs (i - 1) n :=
  field_append_right (as := [b]) h

/-- A signed field that its bytes can hold is read back. -/
theorem fieldS_of_field {x : Int} (h : field bs i n = (x % (256 ^ n : Nat)).toNat) (hlo : -((256 ^ n / 2 : Nat) : Int) ≤ x)
    (hhi : x < (256 ^ n / 2 : Nat)) : fieldS bs i n = x := by
  unfold fieldS
  rw [h]
  generalize 256 ^ n = N at *
  rcases lt_or_ge x 0 with hx | hx
  · have hmod : x % (N : Int) = x + N := by
      rw [← Int.add_emod_right, Int.emod_eq_of_lt] <;> omega
    rw [hmod, if_neg (by omega)]
    omega
  · rw [Int.emod_eq_of_lt hx (by omega), if_pos (by omega)]
    omega

end Fields

/-! ### The CRC at a frame's end (11 R183) -/

@[simp] theorem length_crcBytes (bs : List Byte) : (crcBytes bs).length = 2 := length_beNat ..

theorem length_withCrc (bs : List Byte) : (withCrc bs).length = bs.length + 2 := by
  rw [withCrc, List.length_append, length_crcBytes]

theorem crcGood_withCrc (bs : List Byte) : crcGood (withCrc bs) = true := by
  have h : (withCrc bs).length - 2 = bs.length := by rw [length_withCrc, Nat.add_sub_cancel]
  rw [crcGood, h, withCrc, List.drop_left, List.take_left, beq_self_eq_true]

/-! ### The TIME frame (04 R63) -/

section Time

variable (f : TimeFrame)

/-- A TIME frame's bytes, one piece for each field. -/
theorem TimeFrame.bytes_eq : ∃ crc : List Byte, f.bytes = byte 0x31
    ++ (byte (f.tag.sec.toNat + 16 * f.grade.code + 64 * f.next.code)
    ++ (byte (f.tag.cycle.toNat + 64 * f.offset.isSome.toNat + 128 * f.ack.isSome.toNat)
    ++ (secBytes f.sec ++ (beInt 1 f.utc ++ (byte f.leap.code ++ (secBytes f.leap.second ++ ([f.gen]
    ++ (beInt 4 (f.offset.getD 0) ++ (beNat 2 f.comp ++ ([f.ack.getD 0] ++ crc)))))))))) :=
  ⟨_, by simp only [TimeFrame.bytes, withCrc, List.append_assoc]; rfl⟩

/-- The fields of a TIME frame, by their places. -/
structure TimeFrame.Fields (bs : List Byte) : Prop where
  first : field bs 1 1 = f.tag.sec.toNat + 16 * f.grade.code + 64 * f.next.code
  second : field bs 2 1 = f.tag.cycle.toNat + 64 * f.offset.isSome.toNat + 128 * f.ack.isSome.toNat
  sec : field bs 3 6 = f.sec.toNat
  utc : field bs 9 1 = (f.utc % (256 ^ 1 : Nat)).toNat
  leap : field bs 10 1 = f.leap.code
  leapSec : field bs 11 6 = f.leap.second.toNat
  gen : field bs 17 1 = f.gen.toNat
  offset : field bs 18 4 = (f.offset.getD 0 % (256 ^ 4 : Nat)).toNat
  comp : field bs 22 2 = f.comp % 65536
  ack : field bs 24 1 = (f.ack.getD 0).toNat

theorem Grade.code_lt (g : Grade) : g.code < 4 := by cases g <;> decide

theorem Mode.code_lt (m : Mode) : m.code < 2 := by cases m <;> decide

theorem Mode.code_eq_one_iff (m : Mode) : m.code = 1 ↔ m = .quiet := by cases m <;> simp [Mode.code]

theorem decide_eq_of_toNat {c : Prop} [Decidable c] {b : Bool} (h : c ↔ b.toNat = 1) : decide c = b := by
  cases b <;> simpa using h

theorem Leap.code_lt (l : Leap) : l.code < 3 := by cases l <;> simp [Leap.code]

theorem TimeFrame.bytes_fields : f.Fields f.bytes := by
  have hs : f.tag.sec.toNat < 16 := f.tag.sec.isLt
  have hc : f.tag.cycle.toNat < 64 := f.tag.cycle.isLt
  have hg := f.grade.code_lt
  have hm := f.next.code_lt
  have hl := f.leap.code_lt
  have ho := f.offset.isSome.toNat_le
  have ha := f.ack.isSome.toNat_le
  obtain ⟨crc, h⟩ := f.bytes_eq
  constructor <;> rw [h] <;> simp
  all_goals omega

theorem TimeFrame.length_bytes : f.bytes.length = 27 := by simp [TimeFrame.bytes, length_withCrc]

theorem fieldBit_eq (bs : List Byte) (i k : Nat) : fieldBit bs i k = decide (field bs i 1 / 2 ^ k % 2 = 1) :=
  Nat.testBit_eq_decide_div_mod_eq

end Time

/-! ### ECHO and CALL (04 R59; 11 section 11.4) -/

section Echo

/-- A word is told by any number that has its value in its width. -/
theorem ofNat_eq_of_mod {w n : Nat} {x : BitVec w} (h : n % 2 ^ w = x.toNat) : BitVec.ofNat w n = x :=
  BitVec.eq_of_toNat_eq (by rw [BitVec.toNat_ofNat, h])

theorem length_markBytes (k : MarkIn) : (markBytes k).length = 8 := by simp [markBytes]

/-- A mark's fields, each in its bytes. -/
structure MarkIn.Fields (k : MarkIn) (bs : List Byte) : Prop where
  shelf : field bs 0 1 = k.shelf.toNat
  kind : field bs 1 1 = k.kind.toNat * 16 + k.ref.sec.toNat
  seq : field bs 2 1 = k.seq.toNat
  cycle : field bs 3 1 = k.ref.cycle.toNat
  offset : field bs 4 4 = k.m

theorem MarkIn.bytes_fields {k : MarkIn} (hm : k.m < 1073741824) : k.Fields (markBytes k) := by
  have hs : k.shelf.toNat < 32 := k.shelf.isLt
  have hk : k.kind.toNat < 16 := k.kind.isLt
  have ht : k.ref.sec.toNat < 16 := k.ref.sec.isLt
  have hc : k.ref.cycle.toNat < 64 := k.ref.cycle.isLt
  have h : markBytes k = byte k.shelf.toNat ++ (byte (k.kind.toNat * 16 + k.ref.sec.toNat) ++ ([k.seq]
      ++ (byte k.ref.cycle.toNat ++ beNat 4 k.m))) := by simp [markBytes]
  constructor <;> rw [h] <;> simp
  all_goals omega

theorem readMark_markBytes {k : MarkIn} (hm : k.m < 1073741824) : readMark (markBytes k) = k := by
  obtain ⟨hshelf, hkind, hseq, hcycle, hoffset⟩ := MarkIn.bytes_fields hm
  have ht : k.ref.sec.toNat < 16 := k.ref.sec.isLt
  have hk : k.kind.toNat < 16 := k.kind.isLt
  have eshelf : BitVec.ofNat 5 (field (markBytes k) 0 1) = k.shelf :=
    ofNat_eq_of_mod (by rw [hshelf]; exact k.shelf.toNat_mod_cancel)
  have ekind : BitVec.ofNat 4 (field (markBytes k) 1 1 / 16) = k.kind := ofNat_eq_of_mod (by rw [hkind]; omega)
  have esec : BitVec.ofNat 4 (field (markBytes k) 1 1) = k.ref.sec := ofNat_eq_of_mod (by rw [hkind]; omega)
  have eseq : BitVec.ofNat 8 (field (markBytes k) 2 1) = k.seq :=
    ofNat_eq_of_mod (by rw [hseq]; exact k.seq.toNat_mod_cancel)
  have ecycle : BitVec.ofNat 6 (field (markBytes k) 3 1) = k.ref.cycle :=
    ofNat_eq_of_mod (by rw [hcycle]; exact k.ref.cycle.toNat_mod_cancel)
  rw [readMark, eshelf, ekind, esec, eseq, ecycle, hoffset, Nat.mod_eq_of_lt hm]

theorem readMarks_markBytes {ks : List MarkIn} (h : ∀ k ∈ ks, k.m < 1073741824) (bs : List Byte) :
    readMarks ks.length (ks.flatMap markBytes ++ bs) = ks := by
  induction ks with
  | nil => rfl
  | cons k ks ih =>
    rw [List.flatMap_cons, List.append_assoc, List.length_cons, readMarks, List.take_left' (length_markBytes k),
      List.drop_left' (length_markBytes k), readMark_markBytes (h k List.mem_cons_self),
      ih fun x hx => h x (List.mem_cons_of_mem k hx)]

theorem length_flatMap_markBytes (ks : List MarkIn) : (ks.flatMap markBytes).length = 8 * ks.length := by
  induction ks with
  | nil => rfl
  | cons k ks ih => rw [List.flatMap_cons, List.length_append, length_markBytes, ih, List.length_cons]; ring

/-- The head of an ECHO's bytes, up to its marks. -/
def echoHead (e : Echo) : List Byte :=
  byte 0x32 ++ (byte e.tag.sec.toNat ++ (byte e.tag.cycle.toNat ++ (beNat 2 e.rxSec.toNat ++ (beNat 4 e.rxNs
    ++ (beNat 3 e.turn ++ (byte (e.stepped.toNat + 2 * e.holdover.toNat) ++ byte e.marks.length))))))

theorem length_echoHead (e : Echo) : (echoHead e).length = 14 := by simp [echoHead]

theorem echoBytes_eq (e : Echo) : echoBytes e = withCrc (echoHead e ++ e.marks.flatMap markBytes) := by
  simp only [echoBytes, echoHead, List.append_assoc]

theorem length_echoBytes (e : Echo) : (echoBytes e).length = 16 + 8 * e.marks.length := by
  rw [echoBytes_eq, length_withCrc, List.length_append, length_echoHead, length_flatMap_markBytes]
  omega

/-- An ECHO's fields before its marks, each in its bytes. -/
structure Echo.Fields (e : Echo) (bs : List Byte) : Prop where
  sec : field bs 1 1 = e.tag.sec.toNat
  cycle : field bs 2 1 = e.tag.cycle.toNat
  rxSec : field bs 3 2 = e.rxSec.toNat
  rxNs : field bs 5 4 = e.rxNs
  turn : field bs 9 3 = e.turn
  flags : field bs 12 1 = e.stepped.toNat + 2 * e.holdover.toNat
  count : field bs 13 1 = e.marks.length

theorem Echo.bytes_fields {e : Echo} (hns : e.rxNs < 4294967296) (hturn : e.turn ≤ 1000000) (hc : e.marks.length ≤ 12) :
    e.Fields (echoBytes e) := by
  have hs : e.tag.sec.toNat < 16 := e.tag.sec.isLt
  have hk : e.tag.cycle.toNat < 64 := e.tag.cycle.isLt
  have hr : e.rxSec.toNat < 65536 := e.rxSec.isLt
  have hst := e.stepped.toNat_le
  have hho := e.holdover.toNat_le
  have h : ∃ bs, echoBytes e = byte 0x32 ++ (byte e.tag.sec.toNat ++ (byte e.tag.cycle.toNat ++ (beNat 2 e.rxSec.toNat
      ++ (beNat 4 e.rxNs ++ (beNat 3 e.turn ++ (byte (e.stepped.toNat + 2 * e.holdover.toNat)
      ++ (byte e.marks.length ++ bs))))))) :=
    ⟨_, by simp only [echoBytes, withCrc, List.append_assoc]; rfl⟩
  obtain ⟨bs, h⟩ := h
  constructor <;> rw [h] <;> simp
  all_goals omega

theorem readEcho_echoBytes {e : Echo} (hns : e.rxNs < 4294967296) (hturn : e.turn ≤ 1000000) (hc : e.marks.length ≤ 12)
    (hm : ∀ k ∈ e.marks, k.m < 1073741824) : readEcho (echoBytes e) = e := by
  obtain ⟨hsec, hcycle, hrxSec, hrxNs, hturns, hflags, hcount⟩ := Echo.bytes_fields hns hturn hc
  have hmarks : readMarks e.marks.length ((echoBytes e).drop 14) = e.marks := by
    rw [echoBytes_eq, withCrc, List.append_assoc, List.drop_left' (length_echoHead e), readMarks_markBytes hm]
  have esec : BitVec.ofNat 4 e.tag.sec.toNat = e.tag.sec := ofNat_eq_of_mod e.tag.sec.toNat_mod_cancel
  have ecycle : BitVec.ofNat 6 e.tag.cycle.toNat = e.tag.cycle := ofNat_eq_of_mod e.tag.cycle.toNat_mod_cancel
  have erx : BitVec.ofNat 16 e.rxSec.toNat = e.rxSec := ofNat_eq_of_mod e.rxSec.toNat_mod_cancel
  have hst := e.stepped.toNat_le
  have hho := e.holdover.toNat_le
  have estep : fieldBit (echoBytes e) 12 0 = e.stepped := by
    rw [fieldBit_eq, hflags]
    exact decide_eq_of_toNat (by omega)
  have ehold : fieldBit (echoBytes e) 12 1 = e.holdover := by
    rw [fieldBit_eq, hflags]
    exact decide_eq_of_toNat (by omega)
  rw [readEcho, hsec, hcycle, hrxSec, hrxNs, hturns, hcount, hmarks, esec, ecycle, erx, estep, ehold, min_eq_left hturn]

theorem judgeRack_echo {bs : List Byte} (hk : bs.head? = some 0x32) (hc : field bs 13 1 ≤ 12)
    (hl : bs.length = 16 + 8 * field bs 13 1) (hcrc : crcGood bs = true) : judgeRack bs = .echo (readEcho bs) := by
  cases bs with
  | nil => simp at hk
  | cons k xs =>
    obtain rfl : _ = (0x32 : Byte) := Option.some.inj hk
    rw [judgeRack, if_neg (by decide), if_pos (by decide), if_neg (by omega), if_neg (by omega), if_neg (by omega),
      List.take_of_length_le hl.le, if_pos hcrc]

theorem judgeRack_echoBytes {e : Echo} (hns : e.rxNs < 4294967296) (hturn : e.turn ≤ 1000000) (hc : e.marks.length ≤ 12)
    (hm : ∀ k ∈ e.marks, k.m < 1073741824) : judgeRack (echoBytes e) = .echo e := by
  have hcount := (Echo.bytes_fields hns hturn hc).count
  have hcrc : crcGood (echoBytes e) = true := by rw [echoBytes_eq, crcGood_withCrc]
  rw [judgeRack_echo rfl (hcount ▸ hc) (by rw [hcount, length_echoBytes]) hcrc, readEcho_echoBytes hns hturn hc hm]

end Echo

/-- Settles O34: each field of a frame lies behind the fields before it, whose lengths say where. -/
theorem rackFramesAreWrittenAndReadBack : Obligations.RackFramesAreWrittenAndReadBack := by
  refine ⟨fun f hlo hhi => ?_, fun e hns hturn hc hm => ⟨judgeRack_echoBytes hns hturn hc hm, length_echoBytes e⟩, by decide⟩
  have hs : f.tag.sec.toNat < 16 := f.tag.sec.isLt
  have hc : f.tag.cycle.toNat < 64 := f.tag.cycle.isLt
  have hg := f.grade.code_lt
  have hm := f.next.code_lt
  have ho := f.offset.isSome.toNat_le
  have ha := f.ack.isSome.toNat_le
  have h := f.bytes_fields
  refine ⟨f.length_bytes, crcGood_withCrc _, rfl, ?_, ?_, ?_, ?_, ?_, ?_, ?_, h.sec,
    fieldS_of_field h.utc (by simpa using hlo) (by simpa using Int.lt_add_one_of_le hhi), ?_, ?_,
    ?_, h.gen, ?_, ?_, h.comp, ?_, ?_⟩
  · rw [h.first]; omega
  · rw [h.first]; omega
  · rw [fieldBit_eq, h.first, decide_eq_true_iff, ← Mode.code_eq_one_iff]
    omega
  · rw [fieldBit_eq, h.first, decide_eq_false_iff_not]; omega
  · rw [h.second]; omega
  · rw [fieldBit_eq, h.second]
    exact decide_eq_of_toNat (by omega)
  · rw [fieldBit_eq, h.second]
    exact decide_eq_of_toNat (by omega)
  · intro e; rw [h.leap, h.leapSec, e]; exact ⟨rfl, rfl⟩
  · intro x e; rw [h.leap, h.leapSec, e]; exact ⟨rfl, rfl⟩
  · intro x e; rw [h.leap, h.leapSec, e]; exact ⟨rfl, rfl⟩
  · intro e; rw [h.offset, e]; rfl
  · intro o e lo hi
    exact fieldS_of_field (by rw [h.offset, e]; rfl) (by simpa using lo) (by simpa using Int.lt_add_one_of_le hi)
  · intro e; rw [h.ack, e]; rfl
  · intro a e; rw [h.ack, e]; rfl

end Sys2Proof.Machine
end

section
/-! PROOFS. A valid ECHO of an open exchange, or of one that a departure of its tick closed (04 R58, R67, R70, R73; 05 R82,
R83, R88, R91; 06 R114, R117; 07 R127; 10 R169). -/
namespace Sys2Proof.Machine

/-! ### The places of the pending set -/

theorem allPlaces_index (p : Place) : allPlaces[p.index.val]? = some p := by
  cases p with
  | rack p => revert p; decide
  | path p => revert p; decide
  | port p => revert p; decide
  | ref i => cases i <;> rfl
  | _ => rfl

/-- Each place has its own index (10 section 10.1). -/
theorem Place.index_injective : Function.Injective Place.index := by
  intro p q h
  have hp := allPlaces_index p
  rw [h, allPlaces_index] at hp
  exact (Option.some.inj hp).symm

/-! ### A record's change -/

section Changes

variable {s : State} {p : Port}

theorem State.setRack_setRack (x y : RackRec) : (s.setRack p x).setRack p y = s.setRack p y := by
  have h : (s.drm.recs.set p x).set p y = s.drm.recs.set p y := Vector.set_set ..
  exact congrArg (fun v => s.setDrm { s.drm with recs := v }) h

/-- What a change of a record's state raises (05 R83). -/
def recordRaises (p : Port) (x : RackRec) (c : RackCause) : List Raise :=
  [.marker (.rack p x.state 1), .notice (.rack p) (.rack x.state c x.offset x.rate)]

theorem recordChanged_eq_raises (x : RackRec) (c : RackCause) :
    recordChanged s p x c = (recordRaises p x c).foldl State.raiseOne (s.setRack p x) := rfl

end Changes

/-! ### A valid ECHO handed on (04 R67, R70) -/

/-- What a port's coming UP raises, `b` being its record then (log entries 32 and 57). -/
def upRaises (p : Port) (st : PortState) (b : RackRec) : List Raise :=
  (if st = .faulted then recordRaises p b .recover else [])
    ++ if st = .up then [] else [Raise.notice (.port p) (.port .up .echo)]

/-- What a sample raises (log entry 43). -/
def sampleRaises (p : Port) (y : SampleOut) : List Raise :=
  (match y.path with
    | none => []
    | some (new, old) => [Raise.notice (.path p) (.path new old)])
    ++ if y.gross then recordRaises p y.record .gross else []

/-- A port with a valid ECHO taken, its exchange left as it is. -/
def PortRec.echoTaken (r : PortRec) (e : Echo) (a : Time) : PortRec :=
  { r with
    missRun := 0
    lastEcho := some ⟨a, e.turn, e.rxSec, e.rxNs, e.stepped, e.holdover⟩
    ctr := { r.ctr with echoes := bump r.ctr.echoes } }

/-- A port after a valid ECHO (04 R67, R73). -/
def PortRec.echoUp (r : PortRec) (e : Echo) (a : Time) : PortRec :=
  { r.echoTaken e a with state := .up, secs := if r.state = .up then r.secs else 0 }

/-- A port's record at a valid ECHO, before the sample (05 R82). -/
def RackRec.recovered (b : RackRec) (st : PortState) : RackRec := if st = .faulted then b.toSettling else b

/-- A port that was in state `st` comes UP, its record `b`. -/
def State.entersUp (s : State) (p : Port) (st : PortState) (up : PortRec) (b : RackRec) : State :=
  if st = .up then s.setPort p up
  else (if st = .faulted then recordChanged (s.setPort p up) p b .recover else s.setPort p up).raiseNotice (.port p)
    (.port .up .echo)

/-- What occurrences leave alone. -/
structure State.RaisesLeave (s t : State) : Prop where
  tsu : t.tsu = s.tsu
  ref : t.ref = s.ref
  eds : t.eds = s.eds
  rle : t.rle = s.rle
  drm : t.drm = s.drm
  ecu : t.ecu = s.ecu
  stl : t.stl = s.stl
  clk : t.clk = s.clk
  queue : t.sq.queue = s.sq.queue
  nextSeq : t.sq.nextSeq = s.sq.nextSeq

theorem State.raises_leave (s : State) (xs : List Raise) : s.RaisesLeave (xs.foldl State.raiseOne s) := by
  obtain ⟨b, n, m, h⟩ := s.raises_eq xs
  rw [h]
  exact ⟨rfl, rfl, rfl, rfl, rfl, rfl, rfl, rfl, rfl, rfl⟩

theorem State.RaisesLeave.port {s t : State} (h : s.RaisesLeave t) (q : Port) : t.port q = s.port q := by
  rw [State.port, h.rle, State.port]

theorem State.RaisesLeave.rack {s t : State} (h : s.RaisesLeave t) (q : Port) : t.rack q = s.rack q := by
  rw [State.rack, h.drm, State.rack]

theorem State.RaisesLeave.marks {s t : State} (h : s.RaisesLeave t) (q : Port) : t.marks q = s.marks q := by
  rw [State.marks, h.ecu, State.marks]

/-- A sample's outcome written and what it raises. -/
def State.tellSample (s : State) (p : Port) (y : SampleOut) : State :=
  let t := match y.path with
    | none => s.setRack p y.record
    | some (new, old) => (s.setRack p y.record).raiseNotice (.path p) (.path new old)
  if y.gross then recordChanged t p y.record .gross else t

/-- What a valid ECHO writes of its port. -/
def State.echoWritten (s : State) (p : Port) (up : PortRec) (marks : PortMarks) (record : RackRec) : State :=
  ((s.setPort p up).setMarks p marks).setRack p record

section HandOn

variable {s : State} {p : Port}

theorem State.entersUp_eq (st : PortState) (up : PortRec) (b : RackRec) : s.entersUp p st up b =
    (upRaises p st b).foldl State.raiseOne (if st = .faulted then (s.setPort p up).setRack p b else s.setPort p up) := by
  unfold State.entersUp upRaises
  cases st <;> rfl

theorem State.tellSample_eq (y : SampleOut) :
    s.tellSample p y = (sampleRaises p y).foldl State.raiseOne (s.setRack p y.record) := by
  obtain ⟨record, path, gross⟩ := y
  have key : ∀ xs : List Raise, (if gross then recordChanged (xs.foldl State.raiseOne (s.setRack p record)) p record .gross
      else xs.foldl State.raiseOne (s.setRack p record)) =
      (xs ++ if gross then recordRaises p record .gross else []).foldl State.raiseOne (s.setRack p record) := by
    intro xs
    rw [List.foldl_append]
    cases gross with
    | false => rfl
    | true => rw [if_pos rfl, recordChanged_eq_raises, (RaiseBlind.setRack p record).raises, State.setRack_setRack]; rfl
  cases path with
  | none => exact key []
  | some d => exact key [.notice (.path p) (.path d.1 d.2)]

/-- What a port's coming UP leaves: its port record and its rack record as given, its marks, timescale and drift
configuration as before. -/
theorem State.entersUp_fields {st : PortState} {up : PortRec} {b : RackRec} (hb : b = (s.rack p).recovered st) :
    (s.entersUp p st up b).port p = up ∧ (s.entersUp p st up b).rack p = b ∧ (s.entersUp p st up b).marks p = s.marks p
    ∧ (s.entersUp p st up b).tsu = s.tsu ∧ (s.entersUp p st up b).drm.cfg = s.drm.cfg := by
  rw [State.entersUp_eq]
  have h := State.raises_leave (if st = .faulted then (s.setPort p up).setRack p b else s.setPort p up) (upRaises p st b)
  rw [h.port, h.rack, h.marks, h.tsu, h.drm]
  split
  · exact ⟨State.port_setPort_same .., State.rack_setRack_same .., rfl, rfl, rfl⟩
  · next hst =>
    rw [RackRec.recovered, if_neg hst] at hb
    exact ⟨State.port_setPort_same .., hb.symm, rfl, rfl, rfl⟩

theorem State.portUp_eq (r : PortRec) (e : Echo) (a : Time) (hd : r.state ≠ .down) :
    (s.setPort p (r.echoTaken e a)).portUp p =
      s.entersUp p r.state (r.echoUp e a) ((s.rack p).recovered r.state) := by
  have hst : (r.echoTaken e a).state = r.state := rfl
  unfold State.portUp State.entersUp
  rw [State.port_setPort_same, hst]
  cases hs : r.state with
  | up =>
    have hup : r.echoUp e a = r.echoTaken e a := by
      simp only [PortRec.echoUp, hs, if_true]
      rw [← hs]
      rfl
    rw [hup]
    rfl
  | down => exact absurd hs hd
  | seeking =>
    rw [State.setPort_setPort]
    simp only [PortRec.echoUp, hs]
    rfl
  | faulted =>
    rw [State.setPort_setPort]
    simp only [PortRec.echoUp, hs]
    rfl

theorem State.takeSample_tells (x : Sample) :
    s.takeSample x = s.tellSample x.port ((s.rack x.port).sample s.drm.cfg s.tsu.gen x) := by
  have hrack : ∀ q v y, ((s.setRack x.port y).raiseNotice q v).rack x.port = y := fun q v y => by
    rw [State.rack, (State.raiseNotice_fields ..).2.1]
    exact State.rack_setRack_same ..
  unfold State.takeSample State.tellSample
  generalize (s.rack x.port).sample s.drm.cfg s.tsu.gen x = y
  obtain ⟨record, path, gross⟩ := y
  cases path with
  | none => simp only [State.rack_setRack_same]; rfl
  | some d => simp only [hrack]; rfl

/-- A valid ECHO handed on, `r` its port before it: the port comes UP, the marks are dated by the record before the sample,
then the sample is taken. -/
theorem State.handOn_eq (r : PortRec) (hd : r.state ≠ .down) (x : Exchange) (e : Echo) (a : Time) :
    s.handOn p (r.echoTaken e a) x e a =
      let b := (s.rack p).recovered r.state
      let marks := PortMarks.takeMarks ⟨r.log, s.tsu.gen, s.tsu.hist, b.delay, b.rate, b.state, s.tsu.grade, a⟩ e.marks
        (s.marks p)
      let y := b.sample s.drm.cfg s.tsu.gen ⟨p, x.entry, x.window, a, e.turn, e.rxSec, e.rxNs, e.stepped, e.holdover⟩
      ((s.entersUp p r.state (r.echoUp e a) b).setMarks p marks).tellSample p y := by
  obtain ⟨hport, hrack, hmarks, htsu, hcfg⟩ :=
    State.entersUp_fields (s := s) (p := p) (st := r.state) (up := r.echoUp e a) rfl
  unfold State.handOn
  rw [State.portUp_eq r e a hd]
  dsimp only
  generalize s.entersUp p r.state (r.echoUp e a) ((s.rack p).recovered r.state) = t at *
  have hdating : t.dating p a = ⟨r.log, s.tsu.gen, s.tsu.hist, ((s.rack p).recovered r.state).delay,
      ((s.rack p).recovered r.state).rate, ((s.rack p).recovered r.state).state, s.tsu.grade, a⟩ := by
    rw [State.dating, hport, hrack, htsu]
    rfl
  simp only [hdating, hmarks, State.takeSample_tells, State.rack_setMarks, hrack]
  rw [← hcfg, ← htsu]
  rfl

/-- All that a valid ECHO raises, over all that it writes. -/
theorem State.handOn_raises (st : PortState) (up : PortRec) (b : RackRec) (marks : PortMarks) (y : SampleOut) :
    ((s.entersUp p st up b).setMarks p marks).tellSample p y =
      (upRaises p st b ++ sampleRaises p y).foldl State.raiseOne (s.echoWritten p up marks y.record) := by
  rw [State.tellSample_eq, State.entersUp_eq, (RaiseBlind.setMarks p marks).raises, (RaiseBlind.setRack p y.record).raises,
    List.foldl_append, State.echoWritten]
  congr 2
  split
  · exact State.setRack_setRack (s := (s.setPort p up).setMarks p marks) b y.record
  · rfl

end HandOn

/-! ### What that leaves of the backlog and the pending set -/

theorem RackRec.offsetStage_gross (r : RackRec) (cfg : DriftCfg) (x : Sample) (trt d : Int) (c : Outcome6)
    (path : Option (Int × Int)) (h : (r.offsetStage cfg x trt d c path).gross = true) :
    (r.offsetStage cfg x trt d c path).record.state = .drifting := by
  unfold RackRec.offsetStage at h ⊢
  simp only at h ⊢
  split at h <;> rename_i hgross
  · rw [if_pos hgross]
    split at h
    · next hchange => rw [if_pos hchange]
    · exact absurd h Bool.false_ne_true
  · split at h <;> exact absurd h Bool.false_ne_true

theorem RackRec.delayStage_gross (r : RackRec) (cfg : DriftCfg) (x : Sample) (trt : Int)
    (h : (r.delayStage cfg x trt).gross = true) : (r.delayStage cfg x trt).record.state = .drifting := by
  unfold RackRec.delayStage at h ⊢
  simp only at h ⊢
  split at h
  · next hseed =>
    rw [if_pos hseed]
    exact RackRec.offsetStage_gross _ _ _ _ _ _ _ h
  · next hseed =>
    rw [if_neg hseed]
    split at h
    · next hout =>
      rw [if_pos hout]
      split at h
      · exact absurd h Bool.false_ne_true
      · next hrun =>
        rw [if_neg hrun]
        exact RackRec.offsetStage_gross _ _ _ _ _ _ _ h
    · next hout =>
      rw [if_neg hout]
      exact RackRec.offsetStage_gross _ _ _ _ _ _ _ h

/-- A gross offset that is told takes the record to DRIFTING (05 R91). -/
theorem RackRec.sample_gross (r : RackRec) (cfg : DriftCfg) (gen : Gen) (x : Sample)
    (h : (r.sample cfg gen x).gross = true) : (r.sample cfg gen x).record.state = .drifting := by
  unfold RackRec.sample at h ⊢
  simp only at h ⊢
  split at h
  · exact absurd h Bool.false_ne_true
  · next hgen =>
    rw [if_neg hgen]
    split at h
    · exact absurd h Bool.false_ne_true
    · next hplausible =>
      rw [if_neg hplausible]
      exact RackRec.delayStage_gross _ _ _ _ h

theorem rackWaiting_zero (h : Hdr) (st : RackState) (o : Option RackWait) : rackWaiting 0 h st o = o := if_pos rfl

theorem rackWaiting_two (h : Hdr) (st st' : RackState) (o : Option RackWait) :
    rackWaiting 1 h st (rackWaiting 1 h st' o) = rackWaiting 2 h st o := by
  cases o with
  | none => rfl
  | some e =>
    have hc : (if (if e.count + 1 ≤ 255 then e.count + 1 else 255) + 1 ≤ 255
        then (if e.count + 1 ≤ 255 then e.count + 1 else 255) + 1 else 255)
        = if e.count + 2 ≤ 255 then e.count + 2 else 255 := by split_ifs <;> omega
    exact congrArg (fun k => some (RackWait.mk h st k)) hc

section Echoed

variable {s : State} {p : Port} {st : PortState} {b : RackRec} {y : SampleOut}

/-- The RACK markers among what a valid ECHO raises. -/
theorem markersIn_echo : markersIn (upRaises p st b ++ sampleRaises p y) =
    (if st = .faulted then [Marker.rack p b.state 1] else [])
      ++ if y.gross then [Marker.rack p y.record.state 1] else [] := by
  have hup : markersIn (upRaises p st b) = if st = .faulted then [Marker.rack p b.state 1] else [] := by cases st <;> rfl
  have hsample : markersIn (sampleRaises p y) = if y.gross then [Marker.rack p y.record.state 1] else [] := by
    obtain ⟨record, path, gross⟩ := y
    cases path <;> cases gross <;> rfl
  rw [markersIn_append, hup, hsample]

theorem Backlog.raise_echo (bl : Backlog) (h : Hdr) (hb : st = .faulted → b.state = .settling)
    (hy : y.gross = true → y.record.state = .drifting) :
    (markersIn (upRaises p st b ++ sampleRaises p y)).foldl (fun bl m => bl.raise h m) bl =
      { bl with rack := bl.rack.set p (rackWaiting ((if st = .faulted then 1 else 0) + if y.gross then 1 else 0) h
        (if y.gross then .drifting else .settling) bl.rack[p]) } := by
  rw [markersIn_echo]
  by_cases hf : st = .faulted <;> cases hg : y.gross
  · simp [hf, hb hf, Backlog.raise_rack]
  · simp [hf, hb hf, hy hg, Backlog.raise_rack, rackWaiting_two]
  · simp [hf, rackWaiting_zero]
  · simp [hf, hy hg, Backlog.raise_rack]

theorem noticesAt_recordRaises (q : Place) (x : RackRec) (c : RackCause) :
    noticesAt q (recordRaises p x c) = if .rack p = q then [.rack x.state c x.offset x.rate] else [] := by
  by_cases h : Place.rack p = q <;> simp [noticesAt, recordRaises, Place.index_injective.eq_iff, h]

theorem noticesAt_notice (q r : Place) (v : NoticeValue) :
    noticesAt q [.notice r v] = if r = q then [v] else [] := by
  by_cases h : r = q <;> simp [noticesAt, Place.index_injective.eq_iff, h]

/-- The notices for a place among what a valid ECHO raises. -/
theorem noticesAt_echo (q : Place) : noticesAt q (upRaises p st b ++ sampleRaises p y) =
    (if st = .faulted ∧ Place.rack p = q then [NoticeValue.rack b.state .recover b.offset b.rate] else [])
      ++ (if st ≠ .up ∧ Place.port p = q then [NoticeValue.port .up .echo] else [])
      ++ (if Place.path p = q then (y.path.map fun d => NoticeValue.path d.1 d.2).toList else [])
      ++ if y.gross = true ∧ Place.rack p = q then
        [NoticeValue.rack y.record.state .gross y.record.offset y.record.rate] else [] := by
  have hup : noticesAt q (upRaises p st b) =
      (if st = .faulted ∧ Place.rack p = q then [NoticeValue.rack b.state .recover b.offset b.rate] else [])
        ++ if st ≠ .up ∧ Place.port p = q then [NoticeValue.port .up .echo] else [] := by
    rw [upRaises, noticesAt_append]
    cases st <;> simp [noticesAt_recordRaises, noticesAt_notice] <;> rfl
  have hsample : noticesAt q (sampleRaises p y) =
      (if Place.path p = q then (y.path.map fun d => NoticeValue.path d.1 d.2).toList else [])
        ++ if y.gross = true ∧ Place.rack p = q then
        [NoticeValue.rack y.record.state .gross y.record.offset y.record.rate] else [] := by
    obtain ⟨record, path, gross⟩ := y
    rw [sampleRaises, noticesAt_append]
    cases path <;> cases gross <;> simp [noticesAt_recordRaises, noticesAt_notice] <;> rfl
  rw [noticesAt_append, hup, hsample, List.append_assoc, List.append_assoc, List.append_assoc]

/-- Those notices merged, place by place (10 R169). -/
theorem merged_echo_port (sec : RowSec) (o : Option Notice) :
    (noticesAt (.port p) (upRaises p st b ++ sampleRaises p y)).foldl (fun o v => some (Notice.merge v sec o)) o =
      noticed (if st = .up then 0 else 1) (.port .up .echo) sec o := by
  by_cases h : st = .up
  · simp [noticesAt_echo, h, noticed_zero]
  · simp [noticesAt_echo, h, noticed_one]

theorem merged_echo_path (sec : RowSec) (o : Option Notice) :
    (noticesAt (.path p) (upRaises p st b ++ sampleRaises p y)).foldl (fun o v => some (Notice.merge v sec o)) o =
      match y.path with
      | none => o
      | some (new, old) => noticed 1 (.path new old) sec o := by
  cases h : y.path with
  | none => simp [noticesAt_echo, h]
  | some d => simp [noticesAt_echo, h, noticed_one]

theorem merged_echo_rack (hb : st = .faulted → b.state = .settling) (hy : y.gross = true → y.record.state = .drifting)
    (sec : RowSec) (o : Option Notice) :
    (noticesAt (.rack p) (upRaises p st b ++ sampleRaises p y)).foldl (fun o v => some (Notice.merge v sec o)) o =
      noticed ((if st = .faulted then 1 else 0) + if y.gross then 1 else 0)
        (if y.gross then .rack .drifting .gross y.record.offset y.record.rate
          else .rack .settling .recover b.offset b.rate) sec o := by
  by_cases hf : st = .faulted <;> cases hg : y.gross
  · simp [noticesAt_echo, hf, hg, hb hf, noticed_one]
  · simp [noticesAt_echo, hf, hg, hy hg, noticed_two _ (.rack b.state .recover b.offset b.rate)]
  · simp [noticesAt_echo, hf, hg, noticed_zero]
  · simp [noticesAt_echo, hf, hg, hy hg, noticed_one]

theorem noticesAt_echo_other {q : Place} (hport : q ≠ .port p) (hpath : q ≠ .path p) (hrack : q ≠ .rack p) :
    noticesAt q (upRaises p st b ++ sampleRaises p y) = [] := by
  simp [noticesAt_echo, hport.symm, hpath.symm, hrack.symm]

end Echoed

/-! ### O35 -/

/-- What a valid ECHO finds: the state `h`, its exchange closed and its receiver looking again, or the departure's note
settled. -/
def State.EchoFinds (s h : State) (p : Port) (x : Exchange) : Prop :=
  ((s.port p).canReceive = true ∧ (s.port p).exch = some x ∧ h = s.setPort p { s.port p with rx := .looking, exch := none })
    ∨ ((s.port p).canReceive = false ∧ s.Tells p (some x) ∧ h = s.settleOvertaken p)

section Outcome

variable {s h : State} {p : Port} {x : Exchange}

theorem PortRec.state_ne_down_of_canReceive {r : PortRec} (h : r.canReceive = true) : r.state ≠ .down :=
  (r.canReceive_iff.mp h).1

/-- The state found differs from the one before in the rack link's part and the clock alone. -/
theorem State.EchoFinds.elsewhere (hf : s.EchoFinds h p x) : ∃ (l : Rle) (c : Clock), h = (s.setRle l).setClk c
    ∧ (∀ q : Port, q ≠ p → h.port q = s.port q) ∧ (h.port p).state ≠ .down
    ∧ ∀ z : Option Exchange, (s.port p).canReceive = false → TickEvent.overtaken p z ∉ h.clk.taken := by
  rcases hf with ⟨hc, -, rfl⟩ | ⟨-, ⟨hd, -⟩, rfl⟩
  · refine ⟨(s.setPort p { s.port p with rx := .looking, exch := none }).rle, s.clk, rfl,
      fun q hq => (State.port_setPort ..).trans (if_neg (Ne.symm hq)), ?_, fun z k => ?_⟩
    · rw [State.port_setPort_same]
      exact PortRec.state_ne_down_of_canReceive (r := s.port p) hc
    · exact absurd (hc.symm.trans k) (by decide)
  · refine ⟨s.rle, _, rfl, fun _ _ => rfl, hd, fun z _ hz => ?_⟩
    simpa [TickEvent.overtakenOn] using (List.mem_filter.mp hz).2

theorem State.EchoFinds.exec_eq (hf : s.EchoFinds h p x) (hh : s.mlc.held = false) {frame : List Byte} {ago : Nat} {e : Echo}
    (hj : judgeRack frame = .echo e) (htag : e.tag = x.entry.tag) (hle : (x.stamp : Int) ≤ s.clk.elapsed - ago * 4294967296)
    (hin : s.clk.elapsed - ago * 4294967296 ≤ (x.stamp : Int) + x.window * 4294967296) :
    exec (.echoReceived p frame ago) s =
      .next (h.handOn p ((h.port p).echoTaken e (s.edgeTime ago)) x e (s.edgeTime ago)) := by
  rcases hf with ⟨hc, hx, rfl⟩ | ⟨hc, hz, rfl⟩
  · rw [(exec_frame_of_open hh hc).1 e hj, State.receiveEcho_valid hle hin hx htag, State.validEcho]
    unfold State.handOn State.frameOver
    simp only [State.port_setPort_same, State.setPort_setPort]
    rfl
  · rw [(exec_frame_of_tells hh hc hz).1 e hj, State.overtakenEcho_valid (s := s.settleOvertaken p) hle hin htag]
    rfl

end Outcome

theorem State.edgeTime_eq (s : State) (ago : Nat) : s.edgeTime ago = s.now.plus (-(ago : Int) - (match s.tsu.hist with
    | [] => 0
    | y :: _ => if (s.clk.elapsed : Int) - ago * 4294967296 < s.clk.stepStamp then y.amount else 0)) := by
  unfold State.edgeTime
  cases s.tsu.hist with
  | nil => rfl
  | cons y ys => simp only [State.edgeElapsed_eq]

theorem RackRec.recovered_settling (b : RackRec) {st : PortState} (h : st = .faulted) :
    (b.recovered st).state = .settling := by
  rw [RackRec.recovered, if_pos h]
  rfl

/-- Settles O35: both forms hand the ECHO on; what that raises, in order, lies over what it writes. -/
theorem validEchoHandsOnMarksAndSample : Obligations.ValidEchoHandsOnMarksAndSample := by
  intro s h p frame ago e x hh hcase hj htag hle hin r a b y up marks recovers grosses waiting
  have hf : s.EchoFinds h p x := by
    rcases hcase with hopen | ⟨hd, hr, hmem, huniq, hs⟩
    · exact .inl hopen
    · refine .inr ⟨Bool.eq_false_iff.mpr fun k => ?_, ⟨hd, hr, hmem, huniq⟩, hs⟩
      rcases ((s.port p).canReceive_iff.mp k).2 with k | k <;> exact absurd (hr.symm.trans k) (by decide)
  have hexec := hf.exec_eq hh hj htag hle hin
  rw [show s.edgeTime ago = a from s.edgeTime_eq ago] at hexec
  obtain ⟨l, c, hs, hother, hd, hover⟩ := hf.elsewhere
  clear hf hcase
  subst hs
  have hchain : ((s.setRle l).setClk c).handOn p (r.echoTaken e a) x e a =
      ((((s.setRle l).setClk c).entersUp p r.state up b).setMarks p marks).tellSample p y := State.handOn_eq r hd x e a
  have hraises := hchain.trans (State.handOn_raises (s := (s.setRle l).setClk c) (p := p) r.state up b marks y)
  have hleft := State.raises_leave (((s.setRle l).setClk c).echoWritten p up marks y.record)
    (upRaises p r.state b ++ sampleRaises p y)
  rw [← hraises] at hleft
  have hb : r.state = .faulted → b.state = .settling := (s.rack p).recovered_settling
  have hy : y.gross = true → y.record.state = .drifting := RackRec.sample_gross _ _ _ _
  have hbacklog := (congrArg (fun t : State => t.sq.backlog) hraises).trans
    ((State.raises_backlog _ _).trans (Backlog.raise_echo _ _ hb hy))
  refine ⟨_, hexec, ?_⟩
  generalize State.handOn _ _ _ _ _ _ = t at *
  clear_value y marks up b
  refine ⟨(hleft.port p).trans (State.port_setPort_same ..), (hleft.rack p).trans (State.rack_setRack_same ..),
    (hleft.marks p).trans (State.marks_setMarks_same ..), fun q hq => ⟨?_, ?_, ?_⟩, hleft.tsu, hleft.ref, hleft.eds,
    hleft.stl, hleft.clk, hleft.clk ▸ hover, (congrArg Ecu.lines hleft.ecu).trans rfl, hleft.queue, hleft.nextSeq, hbacklog,
    ?_, ?_, hchain⟩
  · exact (hleft.port q).trans (((State.port_setPort ..).trans (if_neg (Ne.symm hq))).trans (hother q hq))
  · exact (hleft.rack q).trans ((State.rack_setRack ..).trans (if_neg (Ne.symm hq)))
  · exact (hleft.marks q).trans ((State.marks_setMarks ..).trans (if_neg (Ne.symm hq)))
  · intro hup hpath hgross
    rw [hraises]
    simp only [upRaises, sampleRaises, hup, hpath, hgross]
    exact ⟨rfl, rfl⟩
  · intro w
    have hw : (((s.setRle l).setClk c).echoWritten p up marks y.record).mlc.Waits := w
    have hat := fun q => (congrArg (fun t : State => t.ntu.at q) hraises).trans (State.raises_at hw q _)
    refine ⟨(congrArg State.mlc hraises).trans (State.raises_mlc hw _), (hat _).trans (merged_echo_port ..),
      (hat _).trans (merged_echo_path ..), (hat _).trans (merged_echo_rack hb hy ..), fun q hport hpath hrack => ?_⟩
    exact (hat q).trans (by rw [noticesAt_echo_other hport hpath hrack]; rfl)

end Sys2Proof.Machine
end

section
/-! PROOFS. One port with its rack record: the facts that the two invariants speak of, and what the shared operations and
the rack link do to them (05 R82; 03 R50; 04 R58, R72; 06 R116). -/
namespace Sys2Proof.Machine

/-- What the two invariants read of one port: its record, its rack record's state, its line's level, its marks. -/
structure PortFacts where
  port : PortRec
  rack : RackState
  level : Bool
  marks : List MarkRec

/-- The facts of a port of the hub. -/
def State.facts (s : State) (p : Port) : PortFacts :=
  ⟨s.port p, (s.rack p).state, s.eds.level[p], (s.marks p).buf⟩

theorem RackState.evaluated_iff (st : RackState) : st.evaluated = true ↔ st ≠ .unseen ∧ st ≠ .lost := by
  cases st <;> decide

namespace PortFacts

/-- The rack record is UNSEEN and LOST exactly with its port (05 R82). -/
structure Together (x : PortFacts) : Prop where
  unseen : x.rack = .unseen ↔ x.port.state = .down
  lost : x.rack = .lost ↔ x.port.state = .faulted

/-- A DOWN port is at rest (03 R50; 04 R58, R72; 06 R116). -/
def Rests (x : PortFacts) : Prop :=
  x.port.state = .down → x.level = false ∧ x.port.exch = none ∧ x.port.tx = none ∧ x.port.rx = .closed
    ∧ x.port.log = [] ∧ x.marks = []

/-- A change of a port's facts that keeps each of the two. -/
structure Keeps (x y : PortFacts) : Prop where
  together : x.Together → y.Together
  rests : x.Rests → y.Rests

variable {x y z : PortFacts}

theorem Keeps.refl (x : PortFacts) : x.Keeps x := ⟨id, id⟩

theorem Keeps.trans (h : x.Keeps y) (k : y.Keeps z) : x.Keeps z := ⟨k.together ∘ h.together, k.rests ∘ h.rests⟩

theorem Keeps.of_good (ht : y.Together) (hr : y.Rests) : x.Keeps y := ⟨fun _ => ht, fun _ => hr⟩

theorem rests_of_awake (h : x.port.state ≠ .down) : x.Rests := fun hd => absurd hd h

/-- On a port that is not DOWN anything but the two states may change. -/
theorem Keeps.awake (hx : x.port.state ≠ .down) (hs : y.port.state = x.port.state) (hr : y.rack = x.rack) : x.Keeps y where
  together h := ⟨by rw [hr, hs]; exact h.unseen, by rw [hr, hs]; exact h.lost⟩
  rests _ := rests_of_awake (hs ▸ hx)

/-- A write of the port's record that keeps its state, its frame, its receiver and its log, and opens no exchange. -/
theorem Keeps.booked (x : PortFacts) {r : PortRec} (hs : r.state = x.port.state)
    (he : r.exch = x.port.exch ∨ r.exch = none) (htx : r.tx = x.port.tx) (hrx : r.rx = x.port.rx)
    (hlog : r.log = x.port.log) : x.Keeps { x with port := r } where
  together h := ⟨by rw [hs]; exact h.unseen, by rw [hs]; exact h.lost⟩
  rests h hd := by
    obtain ⟨hlevel, hexch, kt, kr, kl, hmarks⟩ := h (hs ▸ hd)
    exact ⟨hlevel, he.elim (·.trans hexch) id, htx.trans kt, hrx.trans kr, hlog.trans kl, hmarks⟩

/-- A record among the states that warnings know stays among them. -/
theorem Keeps.warned (hx : x.rack.evaluated = true) {st : RackState} (hst : st.evaluated = true) :
    x.Keeps { x with rack := st } where
  together h := by
    obtain ⟨hu, hl⟩ := (RackState.evaluated_iff _).mp hx
    obtain ⟨ku, kl⟩ := (RackState.evaluated_iff _).mp hst
    exact ⟨iff_of_false ku (h.unseen.not.mp hu), iff_of_false kl (h.lost.not.mp hl)⟩
  rests h := h

end PortFacts

/-- Every port's facts change in ways that keep the two. -/
def State.PortsKept (s t : State) : Prop := ∀ p, (s.facts p).Keeps (t.facts p)

namespace State.PortsKept

variable {s t u : State}

theorem of_same (h : ∀ p, t.facts p = s.facts p) : s.PortsKept t := fun p => by
  rw [h p]
  exact .refl _

@[refl] theorem refl (s : State) : s.PortsKept s := of_same fun _ => rfl

@[trans] theorem trans (h : s.PortsKept t) (k : t.PortsKept u) : s.PortsKept u := fun p => (h p).trans (k p)

/-- Work on the facts of one port. -/
theorem on {p : Port} {y : PortFacts} (hf : ∀ q, t.facts q = if p = q then y else s.facts q)
    (hk : (s.facts p).Keeps y) : s.PortsKept t := fun q => by
  rw [hf q]
  split
  · rename_i e
    exact e ▸ hk
  · exact .refl _

theorem overPorts {f : Port → State → State} (h : ∀ (p : Port) (s : State), s.PortsKept (f p s)) (s : State) :
    s.PortsKept (overPorts f s) :=
  overPorts_keeps (P := s.PortsKept) f (fun p _ ht => ht.trans (h p _)) s (refl s)

end State.PortsKept

/-! ### The writes -/

section Writes

variable (s : State) (p q : Port)

theorem State.Elsewhere.facts {s t : State} (h : s.Elsewhere t) (p : Port) : t.facts p = s.facts p := by
  unfold State.facts
  rw [h.port, h.rack, h.eds, h.marks_eq]

theorem State.Elsewhere.portsKept {s t : State} (h : s.Elsewhere t) : s.PortsKept t := .of_same h.facts

@[simp] theorem State.facts_setTsu (x : Tsu) : (s.setTsu x).facts p = s.facts p := rfl
@[simp] theorem State.facts_setSq (x : Sq) : (s.setSq x).facts p = s.facts p := rfl
@[simp] theorem State.facts_setNtu (x : Ntu) : (s.setNtu x).facts p = s.facts p := rfl
@[simp] theorem State.facts_setMlc (x : Mlc) : (s.setMlc x).facts p = s.facts p := rfl
@[simp] theorem State.facts_raiseMarker (h : Hdr) (m : Marker) : (s.raiseMarker h m).facts p = s.facts p := rfl
@[simp] theorem State.facts_settleOvertaken : (s.settleOvertaken p).facts q = s.facts q := rfl

@[simp] theorem State.facts_raiseNotice (k : Place) (v : NoticeValue) : (s.raiseNotice k v).facts p = s.facts p :=
  (s.raiseNotice_elsewhere k v).facts p

theorem State.facts_setPort (r : PortRec) :
    (s.setPort p r).facts q = if p = q then { s.facts p with port := r } else s.facts q := by
  unfold State.facts
  rw [State.port_setPort]
  split
  · rename_i e
    subst e
    rfl
  · rfl

theorem State.facts_setRack (r : RackRec) :
    (s.setRack p r).facts q = if p = q then { s.facts p with rack := r.state } else s.facts q := by
  unfold State.facts
  rw [State.rack_setRack]
  split
  · rename_i e
    subst e
    rfl
  · rfl

theorem State.facts_setMarks (m : PortMarks) :
    (s.setMarks p m).facts q = if p = q then { s.facts p with marks := m.buf } else s.facts q := by
  unfold State.facts
  rw [State.marks_setMarks]
  split
  · rename_i e
    subst e
    rfl
  · rfl

/-- A write of EDS that leaves the other lines as they are. -/
theorem State.facts_setEds {e : Eds} (h : ∀ q : Port, p ≠ q → e.level[q] = s.eds.level[q]) :
    (s.setEds e).facts q = if p = q then { s.facts p with level := e.level[p] } else s.facts q := by
  unfold State.facts
  split
  · rename_i k
    subst k
    rfl
  · rename_i k
    rw [State.setEds_eds, h q k]
    rfl

theorem State.facts_changeRecord (r : RackRec) (c : RackCause) :
    (s.changeRecord p r c).facts q = if p = q then { s.facts p with rack := r.state } else s.facts q := by
  obtain ⟨b, n, m, e⟩ := s.changeRecord_eq p r c
  rw [e, State.facts_setMlc, State.facts_setNtu, State.facts_setSq, State.facts_setRack]

variable {s p}

theorem State.setPort_portsKept {r : PortRec} (h : (s.facts p).Keeps { s.facts p with port := r }) :
    s.PortsKept (s.setPort p r) :=
  .on (s.facts_setPort p · r) h

/-- A port that is not DOWN may have anything but its state written. -/
theorem State.setPort_portsKept_awake {r : PortRec} (hd : (s.port p).state ≠ .down) (h : r.state = (s.port p).state) :
    s.PortsKept (s.setPort p r) :=
  State.setPort_portsKept (.awake hd h rfl)

theorem State.setPort_portsKept_booked {r : PortRec} (hs : r.state = (s.port p).state)
    (he : r.exch = (s.port p).exch ∨ r.exch = none) (htx : r.tx = (s.port p).tx) (hrx : r.rx = (s.port p).rx)
    (hlog : r.log = (s.port p).log) : s.PortsKept (s.setPort p r) :=
  State.setPort_portsKept (.booked _ hs he htx hrx hlog)

theorem State.setCounters_portsKept (s : State) (p : Port) (c : PortCounters) :
    s.PortsKept (s.setPort p { s.port p with ctr := c }) :=
  State.setPort_portsKept_booked rfl (.inl rfl) rfl rfl rfl

/-- A record whose state is written as it is, or moves among the states that warnings know. -/
theorem State.setRack_portsKept {r : RackRec}
    (h : r.state = (s.rack p).state ∨ ((s.rack p).state.evaluated = true ∧ r.state.evaluated = true)) :
    s.PortsKept (s.setRack p r) := by
  refine .on (s.facts_setRack p · r) ?_
  rcases h with h | ⟨hs, hr⟩
  · rw [h]
    exact .refl _
  · exact .warned hs hr

theorem State.note_portsKept (s : State) (e : TickEvent) : s.PortsKept (s.note e) := .of_same fun _ => rfl

theorem State.setMarks_portsKept {m : PortMarks} (h : (s.facts p).Keeps { s.facts p with marks := m.buf }) :
    s.PortsKept (s.setMarks p m) :=
  .on (s.facts_setMarks p · m) h

theorem State.setMarks_portsKept_awake (hd : (s.port p).state ≠ .down) (m : PortMarks) : s.PortsKept (s.setMarks p m) :=
  State.setMarks_portsKept (.awake hd rfl rfl)

theorem State.changeRecord_portsKept {r : RackRec} (c : RackCause) (hs : (s.rack p).state.evaluated = true)
    (hr : r.state.evaluated = true) : s.PortsKept (s.changeRecord p r c) :=
  .on (s.facts_changeRecord p · r c) (.warned hs hr)

end Writes

/-! ### The rack link -/

section Link

variable (s : State) (p : Port)

/-- A port that enters FAULTED takes its record to LOST. -/
theorem State.portFaulted_portsKept : s.PortsKept (s.portFaulted p) := by
  refine .on (p := p) (y := { s.facts p with port := (s.port p).enter .faulted, rack := .lost }) (fun q => ?_)
    (.of_good ⟨by simp [PortRec.enter], by simp [PortRec.enter]⟩ (PortFacts.rests_of_awake (by simp [PortRec.enter])))
  rw [State.portFaulted, State.facts_raiseNotice, State.facts_changeRecord, State.facts_setPort, State.facts_setPort]
  split <;> simp

theorem State.missEcho_portsKept : s.PortsKept (s.missEcho p) := by
  have h : s.PortsKept (s.setPort p (s.port p).miss) := State.setPort_portsKept_booked rfl (.inr rfl) rfl rfl rfl
  unfold State.missEcho
  split
  · exact h.trans (State.portFaulted_portsKept _ p)
  · exact h

theorem State.closeForDeparture_portsKept (b : Bool) : s.PortsKept (s.closeForDeparture p b) := by
  rcases s.closeForDeparture_cases p b with ⟨-, e⟩ | ⟨-, -, e⟩ | ⟨-, -, e⟩ <;> rw [e]
  · exact s.missEcho_portsKept p
  · exact (s.missEcho_portsKept p).trans (State.setCounters_portsKept _ p _)

variable {s p}

theorem State.depart_portsKept (hd : (s.port p).state ≠ .down) (sec : RowSec) (k : Nat) (left : Time) (b : Bool) :
    s.PortsKept (s.depart p sec k left b) := by
  have hc : ((s.closeForDeparture p b).port p).state ≠ .down := (s.closeForDeparture_outside p b).up p hd
  have h := (s.closeForDeparture_portsKept p b).trans
    (State.setPort_portsKept_awake (r := (s.closeForDeparture p b).departPort p sec k left) hc rfl)
  unfold State.depart State.noteOvertaken
  simp only
  split
  · exact h.trans (.of_same fun _ => rfl)
  · exact h

theorem State.cycleWork_portsKept (hd : (s.port p).state ≠ .down) (sec : RowSec) (k : Nat) (left : Time)
    (early b : Bool) : s.PortsKept (s.cycleWork p sec k left early b) := by
  have hst : (modeWork (s.port p) k s.rle.cycle.divisor s.rle.staged.isSome).state = (s.port p).state := by
    rw [modeWork_eq, PortRec.modesMoved_state]
  have h := State.setPort_portsKept_awake (s := s) hd hst
  unfold State.cycleWork
  simp only
  split
  · refine h.trans (State.PortsKept.trans (State.note_portsKept _ _) (State.depart_portsKept ?_ sec k left b))
    change ((s.setPort p _).port p).state ≠ .down
    rw [State.port_setPort_same, hst]
    exact hd
  · exact h.trans (.of_same fun _ => rfl)

/-! ### Received frames -/

variable (s p)

theorem State.closeFrame_portsKept : s.PortsKept (s.closeFrame p) := by
  unfold State.closeFrame
  split
  · rfl
  · split
    · exact s.missEcho_portsKept p
    · rfl

theorem State.takeCall_portsKept : s.PortsKept (s.setPort p (s.port p).takeCall) := by
  unfold PortRec.takeCall
  split
  · exact State.setPort_portsKept_booked rfl (.inl rfl) rfl rfl rfl
  · exact s.setCounters_portsKept p _

theorem State.lateEcho_portsKept : s.PortsKept (s.lateEcho p) := s.setCounters_portsKept p _

variable {s p}

theorem State.frameOver_portsKept (hd : (s.port p).state ≠ .down) (rx : RackRx) : s.PortsKept (s.frameOver p rx) :=
  State.setPort_portsKept_awake hd rfl

theorem State.frameOver_awake (hd : (s.port p).state ≠ .down) (rx : RackRx) : ((s.frameOver p rx).port p).state ≠ .down := by
  rw [State.frameOver, State.port_setPort_same]
  exact hd

theorem State.rejectFrame_portsKept (hd : (s.port p).state ≠ .down) (c : RackCheck) : s.PortsKept (s.rejectFrame p c) :=
  ((State.frameOver_portsKept hd .waitIdle).trans (State.setCounters_portsKept _ p _)).trans
    (State.closeFrame_portsKept _ p)

theorem State.receiveCall_portsKept (hd : (s.port p).state ≠ .down) : s.PortsKept (s.receiveCall p) := by
  have h := State.frameOver_portsKept hd .looking
  unfold State.receiveCall
  simp only
  split
  · exact h.trans (State.takeCall_portsKept _ p)
  · split
    · exact (h.trans (State.takeCall_portsKept _ p)).trans (State.missEcho_portsKept _ p)
    · split
      · exact (h.trans (State.missEcho_portsKept _ p)).trans (State.takeCall_portsKept _ p)
      · exact h.trans (State.takeCall_portsKept _ p)

/-- A port that comes UP was SEEKING, and its record keeps its state, or was FAULTED, and its record settles. -/
theorem State.portUp_portsKept (s : State) (p : Port) : s.PortsKept (s.portUp p) := by
  unfold State.portUp
  split
  · rfl
  · rfl
  · rename_i hs
    refine State.PortsKept.trans (State.setPort_portsKept ⟨fun h => ?_, fun _ => ?_⟩)
      (State.raiseNotice_elsewhere _ _ _).portsKept
    · have hs' : (s.facts p).port.state = .seeking := hs
      exact ⟨by simp [h.unseen, hs', PortRec.enter], by simp [h.lost, hs', PortRec.enter]⟩
    · exact PortFacts.rests_of_awake (by simp [PortRec.enter])
  · refine .on (p := p) (y := { s.facts p with port := (s.port p).enter .up, rack := .settling }) (fun q => ?_)
      (.of_good ⟨by simp [PortRec.enter], by simp [PortRec.enter]⟩ (PortFacts.rests_of_awake (by simp [PortRec.enter])))
    rw [State.facts_raiseNotice, State.facts_changeRecord, State.facts_setPort, State.facts_setPort]
    split <;> simp [RackRec.toSettling]

theorem State.portUp_awake (hd : (s.port p).state ≠ .down) : ((s.portUp p).port p).state ≠ .down := by
  have hup : ((s.port p).enter .up).state ≠ .down := by simp [PortRec.enter]
  unfold State.portUp
  split
  · exact hd
  · exact hd
  · rw [State.raiseNotice_port, State.port_setPort_same]
    exact hup
  · rw [State.raiseNotice_port, State.port_of_rle (State.changeRecord_fields ..).1, State.port_setPort_same]
    exact hup

/-- A sample keeps a record's state, or takes one that warnings know to DRIFTING (05 R91). -/
theorem RackRec.offsetStage_state (r : RackRec) (cfg : DriftCfg) (x : Sample) (trt d : Int) (c : Outcome6)
    (path : Option (Int × Int)) : (r.offsetStage cfg x trt d c path).record.state = r.state
      ∨ (r.state.evaluated = true ∧ (r.offsetStage cfg x trt d c path).record.state.evaluated = true) := by
  unfold RackRec.offsetStage
  simp only
  split
  · split
    · rename_i h
      obtain ⟨-, h | h | h⟩ := h <;> exact .inr ⟨by rw [h]; rfl, rfl⟩
    · exact .inl rfl
  · split <;> exact .inl rfl

theorem RackRec.sample_state (r : RackRec) (cfg : DriftCfg) (gen : Gen) (x : Sample) :
    (r.sample cfg gen x).record.state = r.state
      ∨ (r.state.evaluated = true ∧ (r.sample cfg gen x).record.state.evaluated = true) := by
  unfold RackRec.sample RackRec.delayStage
  simp only
  split
  · exact .inl rfl
  · split
    · exact .inl rfl
    · split
      · exact RackRec.offsetStage_state ..
      · split
        · split
          · exact .inl rfl
          · exact RackRec.offsetStage_state ..
        · exact RackRec.offsetStage_state ..

theorem State.takeSample_portsKept (s : State) (x : Sample) : s.PortsKept (s.takeSample x) := by
  obtain ⟨b, n, m, e⟩ := s.takeSample_eq x
  rw [e]
  exact (State.setRack_portsKept (RackRec.sample_state _ _ _ x)).trans (.of_same fun _ => rfl)

/-- A valid ECHO handed on, `r` being the port with the ECHO taken. -/
theorem State.handOn_portsKept (hd : (s.port p).state ≠ .down) {r : PortRec} (hr : r.state = (s.port p).state) (x : Exchange)
    (e : Echo) (a : Time) : s.PortsKept (s.handOn p r x e a) := by
  have hup : (((s.setPort p r).portUp p).port p).state ≠ .down := by
    refine State.portUp_awake ?_
    rw [State.port_setPort_same, hr]
    exact hd
  have h := (State.setPort_portsKept_awake hd hr).trans (State.portUp_portsKept _ p)
  unfold State.handOn
  simp only
  exact (h.trans (State.setMarks_portsKept_awake hup _)).trans (State.takeSample_portsKept _ _)

theorem State.receiveEcho_portsKept (hd : (s.port p).state ≠ .down) (e : Echo) (ago : Nat) :
    s.PortsKept (s.receiveEcho p e ago) := by
  have h := State.frameOver_portsKept hd .looking
  unfold State.receiveEcho
  simp only
  split
  · exact h.trans (State.lateEcho_portsKept _ p)
  · split
    · rfl
    · split
      · exact (h.trans (State.missEcho_portsKept _ p)).trans (State.lateEcho_portsKept _ p)
      · split
        · exact h.trans (State.handOn_portsKept (State.frameOver_awake hd _) (by rfl) _ _ _)
        · exact (h.trans (State.setCounters_portsKept _ p _)).trans (State.closeFrame_portsKept _ p)

theorem State.overtakenEcho_portsKept (hd : (s.port p).state ≠ .down) (x : Option Exchange) (e : Echo) (ago : Nat) :
    s.PortsKept (s.overtakenEcho p x e ago) := by
  unfold State.overtakenEcho
  split
  · exact s.lateEcho_portsKept p
  · split
    · rfl
    · split
      · exact s.lateEcho_portsKept p
      · split
        · exact State.handOn_portsKept hd (by rfl) _ _ _
        · exact s.setCounters_portsKept p _

/-- Only a port that is not DOWN has a frame's end, at an open receiver or after a departure of the tick. -/
theorem State.frameEnd_portsKept (s : State) (p : Port) (v : RackVerdict) (ago : Nat) : s.PortsKept (s.frameEnd p v ago) := by
  rcases s.frameEnd_cases p v ago with ⟨hc, hv⟩ | ⟨-, -, hv⟩ | ⟨x, -, ho, hv⟩ <;> rw [hv]
  · have hd : (s.port p).state ≠ .down := by
      rintro h
      simp [PortRec.canReceive, h] at hc
    cases v with
    | echo e => exact State.receiveEcho_portsKept hd e ago
    | call => exact State.receiveCall_portsKept hd
    | bad c => exact State.rejectFrame_portsKept hd c
  · have hd : ((s.settleOvertaken p).port p).state ≠ .down := by
      rintro h
      have h' : (s.port p).state = .down := h
      simp [State.overtaken, h'] at ho
    refine State.PortsKept.trans (.of_same (s.facts_settleOvertaken p)) ?_
    cases v with
    | echo e => exact State.overtakenEcho_portsKept hd x e ago
    | call => exact State.takeCall_portsKept _ p
    | bad c => exact State.setCounters_portsKept _ p _

end Link
end Sys2Proof.Machine
end

section
/-! PROOFS. One port with its rack record: what the work of a roll does to them (01 R4, R10; 03 R48, R53; 04 R74; 05 R92). -/
namespace Sys2Proof.Machine

/-- An evaluation stays among the states that warnings know (05 R97 to R99). -/
theorem RackRec.evaluate_evaluated (r : RackRec) (cfg : DriftCfg) (h : r.state.evaluated = true) :
    (r.evaluate cfg).state.evaluated = true := by
  have hv : ((r.countRuns cfg).verdict cfg).evaluated = true := by
    have hs : (r.countRuns cfg).state = r.state := rfl
    unfold RackRec.verdict
    rw [hs]
    cases hr : r.state <;> simp only
    case unseen | lost => simp [hr, RackState.evaluated] at h
    case settling | settled | watch =>
      split
      · rfl
      · split <;> rfl
    case drifting => split <;> rfl
  unfold RackRec.evaluate
  simp only
  split
  · exact h
  · exact hv

/-- A second's work keeps a record's state or moves it among those that warnings know. -/
theorem RackRec.eachSecond_state (r : RackRec) (cfg : DriftCfg) (st : PortState) :
    (r.eachSecond cfg st).state = r.state
      ∨ (r.state.evaluated = true ∧ (r.eachSecond cfg st).state.evaluated = true) := by
  unfold RackRec.eachSecond
  simp only
  split
  · split
    · rename_i h
      have hr : r.state.evaluated = true := h.2
      exact .inr ⟨hr, (r.push cfg).evaluate_evaluated cfg hr⟩
    · exact .inl rfl
  · exact .inl rfl

theorem RackRec.lowerHold_state (r : RackRec) : r.lowerHold.state = r.state := by
  unfold RackRec.lowerHold
  split <;> rfl

theorem RackRec.hold_state (r : RackRec) (b : Bool) : (r.hold b).state = r.state := by
  unfold RackRec.hold
  split <;> rfl

section Roll

variable (s : State) (p : Port)

/-! ### RLE's share -/

/-- Mode work on a port that is not DOWN. -/
theorem rleEarly_portsKept (sec : RowSec) (n : Nat) (st : Bool) (rec : BitVec 16) :
    s.PortsKept (rleEarly sec n st rec p s) := by
  unfold rleEarly
  simp only
  split
  · rfl
  · rename_i h
    have hd : (s.port p).state ≠ .down := fun e => h (.inl e)
    split
    · exact (State.setPort_portsKept_awake hd (PortRec.modeFirst_state _)).trans (State.note_portsKept _ _)
    · exact State.cycleWork_portsKept hd sec 0 _ _ _

theorem rleRoll_portsKept (sec : RowSec) (c : Port → Nat) (b : Bool) (rec : BitVec 16) :
    s.PortsKept (rleRoll sec c b rec p s) := by
  unfold rleRoll
  split
  · split
    · exact s.note_portsKept _
    · rfl
  · rename_i hd
    split
    · refine (State.setPort_portsKept_awake hd ?_).trans (State.note_portsKept _ _)
      split <;> split <;> simp
    · split
      · exact s.note_portsKept _
      · split
        · exact State.cycleWork_portsKept hd sec 0 _ _ _
        · rfl

theorem rleSeconds_portsKept : s.PortsKept (rleSeconds p s) :=
  State.setPort_portsKept_booked rfl (.inl rfl) rfl rfl rfl

theorem passModes_portsKept (b v : Time) : s.PortsKept (passModes b v p s) := by
  unfold passModes
  split
  · rfl
  · rename_i hd
    exact State.setPort_portsKept_awake hd (by simp only [List.foldl_cons, List.foldl_nil, passSecond_state])

theorem landAgain_portsKept (sec : RowSec) : s.PortsKept (landAgain sec p s) := by
  obtain ⟨xs, e⟩ := landAgain_eq s sec p
  rw [e]
  exact .of_same fun _ => rfl

theorem State.movedOver_portsKept (sec : RowSec) (b : Time) (st : Bool) : s.PortsKept (s.movedOver sec b st) := by
  unfold State.movedOver
  split
  · exact .overPorts (fun p t => passModes_portsKept t p _ _) s
  · split
    · exact .overPorts (fun p t => landAgain_portsKept t p _) s
    · rfl

theorem State.earlyWork_portsKept (sec : RowSec) (n : Nat) (rec : BitVec 16) : s.PortsKept (s.earlyWork sec n rec) := by
  have ha : s.PortsKept (s.setRle s.rle.applyCycle) := .of_same fun p => by
    unfold State.facts State.port
    rw [State.setRle_rle, s.rle.applyCycle_eq.2.2]
    rfl
  exact ha.trans (.overPorts (fun p t => rleEarly_portsKept t p _ _ _ _) _)

/-! ### EDS's share -/

/-- A write of EDS that leaves every line as it is. -/
theorem State.setEds_portsKept_level {e : Eds} (h : e.level = s.eds.level) : s.PortsKept (s.setEds e) := .of_same fun q => by
  unfold State.facts
  rw [State.setEds_eds, h]
  rfl

/-- A write of EDS that drives at most the line of one port that is not DOWN. -/
theorem State.setEds_portsKept_awake {s : State} {p : Port} (hd : (s.port p).state ≠ .down) {e : Eds}
    (h : ∀ q : Port, p ≠ q → e.level[q] = s.eds.level[q]) : s.PortsKept (s.setEds e) :=
  .on (s.facts_setEds p · h) (.awake hd rfl rfl)

theorem Eds.setLevel_level_of_ne (e : Eds) (b : Bool) {p q : Port} (h : p ≠ q) : (e.setLevel p b).level[q] = e.level[q] :=
  Vector.getElem_set_ne p.isLt q.isLt fun k => h (Fin.ext k)

theorem edsPortBoundary_portsKept (old : Eds) (k : EdgeTick) : s.PortsKept (edsPortBoundary old k p s) := by
  unfold edsPortBoundary
  split
  · exact s.setEds_portsKept_level rfl
  · rename_i hd
    simp only
    split
    · exact s.setEds_portsKept_level rfl
    · exact State.setEds_portsKept_awake hd fun _ hq => Eds.setLevel_level_of_ne _ _ hq

theorem edsTicks_portsKept (old : Eds) (k : EdgeTick) : s.PortsKept (edsTicks old k s) := by
  unfold edsTicks
  generalize allEntries = xs
  induction xs generalizing s with
  | nil => rfl
  | cons x xs ih =>
    rw [List.foldl_cons]
    refine State.PortsKept.trans ?_ (ih _)
    simp only
    split
    · exact .of_same (s.facts_raiseMarker · _ _)
    · rfl

theorem State.edsBoundary_portsKept (sec : RowSec) (n : Nat) (q st : Bool) : s.PortsKept (s.edsBoundary sec n q st) :=
  ((s.setEds_portsKept_level (s.eds.activate_level sec)).trans
    (.overPorts (fun p t => edsPortBoundary_portsKept t p _ _) _)).trans (edsTicks_portsKept _ _ _)

theorem State.portsWork_portsKept (sec : RowSec) (b : Time) (n : Nat) (q st : Bool) (rec : BitVec 16) :
    s.PortsKept (s.portsWork sec b n q st rec) := by
  rw [State.portsWork_eq]
  have he := (s.earlyWork_portsKept sec n rec).trans (State.edsBoundary_portsKept _ sec n q st)
  have hc : s.PortsKept (s.cycleZeroWork sec n q st rec) :=
    he.trans (.overPorts (fun p t => rleRoll_portsKept t p _ _ _ _) _)
  exact (hc.trans (State.movedOver_portsKept _ sec b st)).trans (.overPorts (fun p t => rleSeconds_portsKept t p) _)

/-! ### DRM's share -/

theorem drmPort_portsKept : s.PortsKept (drmPort p s) := by
  have h := (s.rack p).eachSecond_state s.drm.cfg (s.port p).state
  unfold drmPort
  simp only
  split
  · exact State.setRack_portsKept h
  · rename_i hne
    obtain ⟨hs, hr⟩ := h.resolve_left hne
    exact State.changeRecord_portsKept _ hs hr

theorem State.takeSpread_portsKept (sec : RowSec) : s.PortsKept (s.takeSpread sec) := by
  have h : s.PortsKept (s.setDrm { s.drm with
      spread := s.rowSpread sec
      counted := s.countedPorts.length
      high := spreadHigh (s.rowSpread sec) s.drm.cfg.spreadLimit }) := .of_same fun _ => rfl
  unfold State.takeSpread
  simp only
  split
  · exact h
  · exact h.trans (State.raiseNotice_elsewhere _ _ _).portsKept

theorem State.drmBoundary_portsKept (sec : RowSec) : s.PortsKept (s.drmBoundary sec) :=
  ((State.PortsKept.overPorts (fun p t => State.setRack_portsKept (.inl (t.rack p).lowerHold_state)) s).trans
    (.overPorts (fun p t => drmPort_portsKept t p) _)).trans (State.takeSpread_portsKept _ sec)

theorem State.stepHolds_portsKept (a b : Bool) : s.PortsKept (s.stepHolds a b) := by
  unfold State.stepHolds
  split
  · exact .overPorts (fun p t => State.setRack_portsKept (.inl ((t.rack p).hold_state b))) s
  · rfl

/-! ### The roll -/

theorem State.raisedWork_portsKept (sec : RowSec) (d : Bool) : s.PortsKept (s.raisedWork sec d) := by
  have hw : s.Elsewhere (s.timeWork sec).1 := by
    obtain ⟨i, n, e⟩ := s.timeWork_fst sec
    rw [e]
    exact ⟨rfl, rfl, rfl, rfl⟩
  have hr := (hw.trans (State.raises_elsewhere _ (s.timeWork sec).2)).portsKept
  unfold State.raisedWork
  simp only
  split
  · exact (hr.trans (State.drmBoundary_portsKept _ sec)).trans (State.stepHolds_portsKept _ _ _)
  · exact hr.trans (State.stepHolds_portsKept _ _ _)

theorem State.boundaryWork_portsKept (sec : RowSec) (d : Bool) (rec : BitVec 16) : s.PortsKept (s.boundaryWork sec d rec) := by
  have hp := (s.raisedWork_portsKept sec d).trans (State.portsWork_portsKept _ sec s.now s.clk.tickFrom.ns s.tsu.quiet
    ((s.timeWork sec).1.tsu.gen != s.tsu.gen) rec)
  rw [State.boundaryWork_eq]
  simp only
  split
  · exact hp
  · exact hp.trans (State.drmBoundary_portsKept _ sec)

theorem State.rollWork_portsKept (d : Bool) (rec : BitVec 16) : s.PortsKept (s.rollWork d rec) := by
  have ha : s.PortsKept s.atRoll := .of_same fun _ => rfl
  by_cases hm : s.tsu.mark = some s.tsu.ts.sec
  · rw [s.rollWork_of_marked d rec hm]
    exact (ha.trans (.overPorts (fun p t => rleEarly_portsKept t p _ _ _ _) _)).trans (.of_same (State.facts_setTsu _ · _))
  · rw [s.rollWork_of_unmarked d rec hm]
    exact ha.trans (State.boundaryWork_portsKept _ _ d rec)

end Roll
end Sys2Proof.Machine
end

section
/-! PROOFS. One port with its rack record: requests, admissions and resets; every step keeps rack records in step with their
ports, and DOWN ports at rest (05 R82; 03 R50; 04 R58, R72; 06 R116). -/
namespace Sys2Proof.Machine

section Requests

variable (s : State) (p : Port) (r : Req)

/-! ### The requests that write ports, records or lines -/

/-- A port's record, its lines, its marks and its rack record written together, as enabling and disabling do. -/
theorem State.facts_rewritten (r : PortRec) {e : Eds} (m : PortMarks) (y : RackRec) (c : RackCause) (k : Place)
    (v : NoticeValue) (h : ∀ q : Port, p ≠ q → e.level[q] = s.eds.level[q]) (q : Port) :
    ((((((s.setPort p r).setEds e).setMarks p m).changeRecord p y c).raiseNotice k v).facts q)
      = if p = q then ⟨r, y.state, e.level[p], m.buf⟩ else s.facts q := by
  have he : ∀ q, ((s.setPort p r).setEds e).facts q
      = if p = q then { s.facts p with port := r, level := e.level[p] } else s.facts q := fun q => by
    rw [(s.setPort p r).facts_setEds p q h, State.facts_setPort, State.facts_setPort]
    split <;> simp
  rw [State.facts_raiseNotice, State.facts_changeRecord, State.facts_setMarks, State.facts_setMarks, he, he]
  split <;> simp

/-- A port enabled is SEEKING with a record in SETTLING (04 R71). -/
theorem State.enablePort_portsKept (m : Mode) : s.PortsKept (s.enablePort p m) :=
  .on (s.facts_rewritten p _ _ _ _ _ _ fun _ _ => rfl)
    (.of_good ⟨by simp [PortRec.enter, RackRec.toSettling], by simp [PortRec.enter, RackRec.toSettling]⟩
      (PortFacts.rests_of_awake (by simp [PortRec.enter])))

/-- A port disabled is DOWN and at rest, with a record UNSEEN (04 R72). -/
theorem State.disablePort_portsKept : s.PortsKept (s.disablePort p) :=
  .on (s.facts_rewritten p _ _ _ _ _ _ fun _ hq => Eds.setLevel_level_of_ne _ _ hq)
    (.of_good
      ⟨by simp [PortRec.enter, RackRec.toUnseen, RackRec.initial],
        by simp [PortRec.enter, RackRec.toUnseen, RackRec.initial]⟩
      fun _ => ⟨by simp [Eds.setLevel], rfl, rfl, rfl, rfl, rfl⟩)

theorem State.applyPort_portsKept (enable : Bool) (m : Mode) : s.PortsKept (s.applyPort p enable m) := by
  have hb : ∀ (t : State) (x : PortRec), x.state = (t.port p).state → x.exch = (t.port p).exch → x.tx = (t.port p).tx →
      x.rx = (t.port p).rx → x.log = (t.port p).log → t.PortsKept (t.setPort p x) :=
    fun t x hs he htx hrx hlog => State.setPort_portsKept_booked hs (.inl he) htx hrx hlog
  unfold State.applyPort
  split
  · split
    · exact s.enablePort_portsKept p m
    · exact hb _ _ rfl rfl rfl rfl rfl
  · split
    · exact hb _ _ rfl rfl rfl rfl rfl
    · exact (s.disablePort_portsKept p).trans (hb _ _ rfl rfl rfl rfl rfl)

theorem actSetPort_portsKept : s.PortsKept (actSetPort r s).state := by
  unfold actSetPort
  simp only
  split
  · split
    · rfl
    · have hc : ∀ q a b, s.PortsKept (s.setPort q ((s.port q).configure a b)) := fun _ _ _ =>
        State.setPort_portsKept_booked rfl (.inl rfl) rfl rfl rfl
      exact (hc _ _ _).trans (State.applyPort_portsKept _ _ _ _)
  · rfl

theorem actReadPort_portsKept : s.PortsKept (actReadPort r s).state := by
  unfold actReadPort
  simp only
  split
  · simp only
    split
    · exact s.setCounters_portsKept _ _
    · rfl
  · rfl

theorem actReadRack_portsKept : s.PortsKept (actReadRack r s).state := by
  unfold actReadRack
  simp only
  split
  · simp only
    split
    · exact State.setRack_portsKept (.inl rfl)
    · rfl
  · rfl

theorem actReadLines_portsKept : s.PortsKept (actReadLines r s).state := by
  unfold actReadLines
  simp only
  split
  · simp only
    split
    · exact State.StoresSound.clearLines_elsewhere.portsKept
    · rfl
  · split
    · simp only
      split
      · exact State.setMarks_portsKept (.refl _)
      · rfl
    · rfl
  · rfl

theorem actSetCycle_portsKept : s.PortsKept (actSetCycle r s).state := by
  unfold actSetCycle
  simp only
  split
  · rfl
  · exact .of_same fun _ => rfl

theorem actScheduleEdit_portsKept : s.PortsKept (actScheduleEdit r s).state := by
  unfold actScheduleEdit
  simp only
  split
  · split
    · rfl
    · exact s.setEds_portsKept_level rfl
  · rfl

theorem actScheduleCommit_portsKept : s.PortsKept (actScheduleCommit r s).state := by
  unfold actScheduleCommit
  split
  · rfl
  · exact s.setEds_portsKept_level rfl

/-! ### The requests that leave the ports alone -/

theorem actStatus_portsKept : s.PortsKept (actStatus r s).state := by
  unfold actStatus
  simp only
  split
  · exact .of_same fun _ => rfl
  · rfl

theorem actLatch_portsKept : s.PortsKept (actLatch r s).state := by
  have hs := (s.strobe_elsewhere .latch).portsKept
  unfold actLatch
  simp only
  split <;> exact hs

theorem actSetTime_portsKept : s.PortsKept (actSetTime r s).state := by
  unfold actSetTime
  split
  · rfl
  · exact .of_same fun _ => rfl

theorem actAdjust_portsKept : s.PortsKept (actAdjust r s).state := by
  unfold actAdjust
  simp only
  split
  · rfl
  · split
    · rfl
    · exact .of_same fun _ => rfl

theorem actSetLeap_portsKept : s.PortsKept (actSetLeap r s).state := by
  unfold actSetLeap
  simp only
  split
  · rfl
  · split
    · rfl
    · exact .of_same fun _ => rfl

theorem actSetLoop_portsKept : s.PortsKept (actSetLoop r s).state := by
  unfold actSetLoop
  simp only
  split
  · rfl
  · exact .of_same fun _ => rfl

theorem State.setRef_portsKept (x : Ref) : s.PortsKept (s.setRef x) := .of_same fun _ => rfl

theorem actSetReference_portsKept : s.PortsKept (actSetReference r s).state := by
  unfold actSetReference
  simp only
  split
  · exact (s.setInput_elsewhere _ _).portsKept.trans (State.setRef_portsKept _ _)
  · rfl
  · rfl

theorem actReadReference_portsKept : s.PortsKept (actReadReference r s).state := by
  unfold actReadReference
  simp only
  split
  · exact .of_same fun _ => rfl
  · rfl

theorem actReadSchedule_portsKept : s.PortsKept (actReadSchedule r s).state := by
  unfold actReadSchedule
  simp only
  split
  · rfl
  · split <;> rfl
  · split <;> rfl
  · rfl

theorem actSetLine_portsKept : s.PortsKept (actSetLine r s).state := by
  unfold actSetLine
  simp only
  split
  · split
    · rfl
    · split
      · rfl
      · exact .of_same fun _ => rfl
  · rfl

theorem actSetQueue_portsKept : s.PortsKept (actSetQueue r s).state := by
  unfold actSetQueue
  simp only
  split
  · rfl
  · exact .of_same fun _ => rfl

theorem actSetNotices_portsKept : s.PortsKept (actSetNotices r s).state := by
  have hn : s.Elsewhere (s.setNtu (Ntu.settle { s.ntu with masks := readMasks r.payload })) := ⟨rfl, rfl, rfl, rfl⟩
  exact (hn.trans (State.handOut_elsewhere _)).portsKept

/-! ### Resets -/

/-- Every reset leaves all ports DOWN and at rest, and all records UNSEEN. -/
theorem State.initial_facts (c : ResetCause) (st : Straps) (q : List Instr) (p : Port) :
    (State.initial c st q).facts p = ⟨PortRec.initial, .unseen, false, []⟩ := by
  simp [State.initial, State.facts, State.port, State.rack, State.marks, Rle.initial, Drm.initial, Ecu.initial, Eds.initial,
    RackRec.initial, PortMarks.initial]

theorem State.initial_portsKept (c : ResetCause) (st : Straps) (q : List Instr) : s.PortsKept (State.initial c st q) := by
  intro p
  rw [State.initial_facts]
  exact .of_good ⟨by decide, by decide⟩ fun _ => ⟨rfl, rfl, rfl, rfl, rfl, rfl⟩

theorem State.restart_portsKept : s.PortsKept s.restart := by
  have hr : s.PortsKept s.restarted := s.initial_portsKept .request strapsLow []
  exact hr.trans (State.raises_elsewhere _ _).portsKept

theorem actRestart_portsKept : s.PortsKept (actRestart r s).state := by
  unfold actRestart
  split
  · exact s.restart_portsKept
  · exact .of_same fun _ => rfl

/-- Every act of the catalogue. -/
theorem catalogue_portsKept {n : Nat} {k : ReqKind} {act : Req → State → Served} (hc : catalogue n = some (k, act)) :
    s.PortsKept (act r s).state := by
  unfold catalogue at hc
  split at hc <;> cases hc
  case h_1 => rfl
  case h_2 => exact actStatus_portsKept s r
  case h_3 => exact actRestart_portsKept s r
  case h_4 => rfl
  case h_5 => exact actLatch_portsKept s r
  case h_6 => exact .of_same fun _ => rfl
  case h_7 => exact actSetTime_portsKept s r
  case h_8 => exact actAdjust_portsKept s r
  case h_9 => exact actSetLeap_portsKept s r
  case h_10 => rfl
  case h_11 => exact actSetReference_portsKept s r
  case h_12 => exact actReadReference_portsKept s r
  case h_13 => exact actSetLoop_portsKept s r
  case h_14 => exact actScheduleEdit_portsKept s r
  case h_15 => exact actScheduleCommit_portsKept s r
  case h_16 => exact s.setEds_portsKept_level rfl
  case h_17 => exact actReadSchedule_portsKept s r
  case h_18 => exact actSetCycle_portsKept s r
  case h_19 => exact actSetPort_portsKept s r
  case h_20 => exact actReadPort_portsKept s r
  case h_21 => exact .of_same fun _ => rfl
  case h_22 => exact actReadRack_portsKept s r
  case h_23 => rfl
  case h_24 => exact actSetLine_portsKept s r
  case h_25 => exact actReadLines_portsKept s r
  case h_26 => exact actSetQueue_portsKept s r
  case h_27 => exact .of_same fun _ => rfl
  case h_28 => exact actSetNotices_portsKept s r
  case h_29 => exact .of_same fun _ => rfl

end Requests

/-! ### The stamp queue -/

section Queue

variable (s : State)

theorem State.setSq_portsKept (q : Sq) : s.PortsKept (s.setSq q) := .of_same fun _ => rfl

theorem State.countLoss_portsKept : s.PortsKept s.countLoss := by
  have hm : s.PortsKept (s.raiseMarker s.hdr (.gap 1)) := .of_same fun _ => rfl
  unfold State.countLoss
  simp only
  split
  · exact hm.trans (State.raiseNotice_elsewhere _ _ _).portsKept
  · exact hm

theorem State.discardHead_portsKept : s.PortsKept s.discardHead := (s.setSq_portsKept _).trans (State.countLoss_portsKept _)

theorem State.discardHeads_portsKept (n : Nat) : s.PortsKept (s.discardHeads n) := by
  induction n generalizing s with
  | zero => rfl
  | succ n ih => exact s.discardHead_portsKept.trans (ih _)

theorem State.checkLevel_portsKept (n : Nat) : s.PortsKept (s.checkLevel n) := by
  unfold State.checkLevel
  split
  · exact (s.raiseNotice_elsewhere _ _).portsKept
  · rfl

theorem State.joinMarker_portsKept : s.PortsKept s.joinMarker := by
  unfold State.joinMarker
  split
  · rfl
  · exact s.setSq_portsKept _

theorem State.joinGap_portsKept : s.PortsKept s.joinGap := by
  unfold State.joinGap
  split
  · rfl
  · exact s.setSq_portsKept _

/-- A mark admitted leaves its buffer; an empty one stays so. -/
theorem State.releaseSource_portsKept (x : Source) : s.PortsKept (s.releaseSource x) := by
  cases x with
  | line l => exact .of_same fun _ => rfl
  | port p =>
    refine State.setMarks_portsKept ⟨fun h => ⟨h.unseen, h.lost⟩, fun h hd => ?_⟩
    obtain ⟨hlevel, hexch, htx, hrx, hlog, hmarks⟩ := h hd
    have hm : (s.marks p).buf = [] := hmarks
    exact ⟨hlevel, hexch, htx, hrx, hlog, by simp [hm]⟩

theorem State.refuseLine_portsKept (l : Line) : s.PortsKept (s.refuseLine l) := by
  have hl : ∀ x, s.PortsKept (s.setLine l x) := fun _ => .of_same fun _ => rfl
  exact (hl _).trans (State.countLoss_portsKept _)

theorem State.serveSource_portsKept (i : Fin 24) (x : Hdr) (b : Body) : s.PortsKept (s.serveSource i x b) := by
  have hq : ∀ (t : State) (a b : Sq) (n : Nat), s.PortsKept t → s.PortsKept (((t.setSq a).setSq b).checkLevel n) :=
    fun t a b n h => ((h.trans (t.setSq_portsKept a)).trans (State.setSq_portsKept _ b)).trans (State.checkLevel_portsKept _ n)
  unfold State.serveSource
  simp only
  split
  · exact hq _ _ _ _ (s.joinGap_portsKept.trans (State.releaseSource_portsKept _ _))
  · split
    · exact hq _ _ _ _ ((s.releaseSource_portsKept _).trans (State.discardHeads_portsKept _ _))
    · split
      · exact (s.refuseLine_portsKept _).trans (State.setSq_portsKept _ _)
      · rfl

theorem State.arbiter_portsKept {t : State} (ha : s.arbiter = some t) : s.PortsKept t := by
  unfold State.arbiter at ha
  split at ha
  · cases ha
    exact s.joinMarker_portsKept.trans (State.checkLevel_portsKept _ _)
  · split at ha
    · cases ha
      exact (s.discardHead_portsKept.trans (State.joinMarker_portsKept _)).trans (State.checkLevel_portsKept _ _)
    · split at ha
      · cases ha
      · split at ha
        · cases ha
        · cases ha
          exact s.serveSource_portsKept _ _ _

end Queue

/-! ### Every step -/

/-- An emission drives the line of a port that is not DOWN. -/
theorem State.emit_portsKept {s : State} {p : Port} (hd : (s.port p).state ≠ .down) (a : Action) (i : Time) (sec : RowSec) :
    s.PortsKept (s.emit p a i sec) := by
  unfold State.emit
  split
  · exact s.note_portsKept _
  · exact (State.setEds_portsKept_awake hd fun _ hq => Eds.setLevel_level_of_ne _ _ hq).trans (State.note_portsKept _ _)

theorem State.Work.portsKept {s t : State} (hw : State.Work s t) : s.PortsKept t := by
  cases hw with
  | elsewhere e => exact e.portsKept
  | roll d rec => exact s.rollWork_portsKept d rec
  | emission hd a i sec => exact State.emit_portsKept hd a i sec
  | cycle hd sec k left early receiving => exact State.cycleWork_portsKept hd sec k left early receiving
  | frame p v ago => exact s.frameEnd_portsKept p v ago
  | missed p => exact s.missEcho_portsKept p
  | deferred hc x => exact State.setPort_portsKept_awake (fun h => by simp [PortRec.canReceive, h] at hc) rfl
  | reopened hd => exact State.setPort_portsKept_awake hd rfl
  | admission ha => exact s.arbiter_portsKept ha
  | request r hc => exact catalogue_portsKept s r hc
  | restart => exact s.restart_portsKept
  | reset c st q => exact s.initial_portsKept c st q

theorem step_portsKept {s t : State} (hst : step s = .next t) : s.PortsKept t :=
  (step_works hst).keeps (fun _ _ hw h => h.trans hw.portsKept) (.refl s)

theorem State.recordsFollowPorts_iff (s : State) : s.RecordsFollowPorts ↔ ∀ p, (s.facts p).Together :=
  forall_congr' fun _ => ⟨fun ⟨hu, hl⟩ => ⟨hu, hl⟩, fun h => ⟨h.unseen, h.lost⟩⟩

theorem State.downPortsRest_iff (s : State) : s.DownPortsRest ↔ ∀ p, (s.facts p).Rests := .rfl

/-- Settles O55: each piece of a command's work keeps the two for every port with its rack record. -/
theorem stepKeepsPortsAndRecordsTogether : Obligations.StepKeepsPortsAndRecordsTogether := by
  refine ⟨fun s t h hst => ?_, fun s t h hst => ?_⟩
  · exact t.recordsFollowPorts_iff.mpr fun p => (step_portsKept hst p).together (s.recordsFollowPorts_iff.mp h p)
  · exact t.downPortsRest_iff.mpr fun p => (step_portsKept hst p).rests (s.downPortsRest_iff.mp h p)

end Sys2Proof.Machine
end

section
/-! PROOFS. The warning state that an evaluation gives, and its runs (05 R97 to R99). -/
namespace Sys2Proof.Machine

section Evaluation

variable (r : RackRec) (cfg : DriftCfg)

theorem RackRec.alarmHolds_iff :
    r.alarmHolds cfg = true ↔ cfg.offAlarm < r.offset.natAbs ∨ cfg.rateAlarm < r.rate.natAbs := by
  simp only [RackRec.alarmHolds, Bool.or_eq_true, decide_eq_true_eq]

theorem RackRec.watchHolds_iff :
    r.watchHolds cfg = true ↔ cfg.offWatch < r.offset.natAbs ∨ cfg.rateWatch < r.rate.natAbs := by
  simp only [RackRec.watchHolds, Bool.or_eq_true, decide_eq_true_eq]

/-- A run raised passes a threshold that it just missed; the cap of 255 is above them all. -/
theorem succ_le_raiseBy_iff {k : Nat} (n : Nat) (hk : k < 255) : k + 1 ≤ raiseBy 255 1 n ↔ k ≤ n := by
  unfold raiseBy
  split <;> omega

theorem RackRec.third_alarm_iff : 3 ≤ (r.countRuns cfg).alarmRun ↔ r.alarmHolds cfg = true ∧ 2 ≤ r.alarmRun := by
  unfold RackRec.countRuns
  by_cases h : r.alarmHolds cfg = true
  · simp [h, succ_le_raiseBy_iff r.alarmRun (k := 2) (by decide)]
  · simp [h]

theorem RackRec.third_watch_iff : 3 ≤ (r.countRuns cfg).watchRun ↔ r.watchHolds cfg = true ∧ 2 ≤ r.watchRun := by
  unfold RackRec.countRuns
  by_cases h : r.watchHolds cfg = true
  · simp [h, succ_le_raiseBy_iff r.watchRun (k := 2) (by decide)]
  · simp [h]

theorem RackRec.tenth_quiet_iff : 10 ≤ (r.countRuns cfg).quietRun ↔ ¬r.watchHolds cfg = true ∧ 9 ≤ r.quietRun := by
  unfold RackRec.countRuns
  by_cases h : r.watchHolds cfg = true
  · simp [h]
  · simp [h, succ_le_raiseBy_iff r.quietRun (k := 9) (by decide)]

theorem RackRec.evaluate_state : (r.evaluate cfg).state = (r.countRuns cfg).verdict cfg := by
  unfold RackRec.evaluate
  simp only
  split
  · rename_i h
    exact h.symm
  · rfl

/-- A change of state sets the runs to 0; without one they are those just counted. -/
theorem RackRec.evaluate_of_changed (h : (r.evaluate cfg).state ≠ r.state) :
    r.evaluate cfg = { r with state := (r.evaluate cfg).state, alarmRun := 0, watchRun := 0, quietRun := 0 } := by
  rw [RackRec.evaluate_state] at h ⊢
  exact if_neg h

theorem RackRec.evaluate_of_same (h : (r.evaluate cfg).state = r.state) : r.evaluate cfg = r.countRuns cfg := by
  rw [RackRec.evaluate_state] at h
  exact if_pos h

/-! ### The state after, by the state before -/

variable {r}

theorem RackRec.evaluate_settling (h : r.state = .settling) : (r.evaluate cfg).state
    = if r.alarmHolds cfg then .drifting else if r.watchHolds cfg then .watch else .settled := by
  have hs : (r.countRuns cfg).state = .settling := h
  rw [RackRec.evaluate_state, RackRec.verdict, hs]
  rfl

theorem RackRec.evaluate_settled (h : r.state = .settled) : (r.evaluate cfg).state
    = if r.alarmHolds cfg = true ∧ 2 ≤ r.alarmRun then .drifting
      else if r.watchHolds cfg = true ∧ 2 ≤ r.watchRun then .watch else .settled := by
  have hs : (r.countRuns cfg).state = .settled := h
  rw [RackRec.evaluate_state, RackRec.verdict, hs]
  simp only [RackRec.third_alarm_iff, RackRec.third_watch_iff]

theorem RackRec.evaluate_watch (h : r.state = .watch) : (r.evaluate cfg).state
    = if r.alarmHolds cfg = true ∧ 2 ≤ r.alarmRun then .drifting
      else if ¬r.watchHolds cfg = true ∧ 9 ≤ r.quietRun then .settled else .watch := by
  have hs : (r.countRuns cfg).state = .watch := h
  rw [RackRec.evaluate_state, RackRec.verdict, hs]
  simp only [RackRec.third_alarm_iff, RackRec.tenth_quiet_iff]

theorem RackRec.evaluate_drifting (h : r.state = .drifting) : (r.evaluate cfg).state
    = if ¬r.watchHolds cfg = true ∧ 9 ≤ r.quietRun then .settled else .drifting := by
  have hs : (r.countRuns cfg).state = .drifting := h
  rw [RackRec.evaluate_state, RackRec.verdict, hs]
  simp only [RackRec.tenth_quiet_iff]

end Evaluation

/-- A run is not complete where this second breaks it or it was too short before. -/
theorem run_incomplete {P : Prop} {n k : Nat} (h : ¬P ∨ n < k) : ¬(P ∧ k ≤ n) := fun ⟨hp, hn⟩ =>
  h.elim (· hp) (Nat.not_lt.mpr hn)

/-- Settles O42, by the state before the evaluation. -/
theorem warningsNeedTheirRuns : Obligations.WarningsNeedTheirRuns := by
  intro r cfg
  simp only [← RackRec.alarmHolds_iff r cfg, ← RackRec.watchHolds_iff r cfg]
  refine ⟨fun ha h => ?_, fun ha hw h => ?_, fun ha hw h => ?_, fun h ha hw => ?_, fun h ha hq => ?_, fun h hq => ?_,
    fun ha hr h => ?_, fun hw hr ha h => ?_, fun hw ha hr h => ?_, fun hw hr h => ?_, r.evaluate_of_changed cfg,
    r.evaluate_of_same cfg⟩
  · rw [RackRec.evaluate_settling cfg h, if_pos ha]
  · rw [RackRec.evaluate_settling cfg h, if_neg ha, if_pos hw]
  · rw [RackRec.evaluate_settling cfg h, if_neg ha, if_neg hw]
  · rw [RackRec.evaluate_settled cfg h, if_neg (run_incomplete ha), if_neg (run_incomplete hw)]
  · rw [RackRec.evaluate_watch cfg h, if_neg (run_incomplete ha), if_neg (run_incomplete (hq.imp_left not_not.mpr))]
  · rw [RackRec.evaluate_drifting cfg h, if_neg (run_incomplete (hq.imp_left not_not.mpr))]
  · rcases h with h | h
    · rw [RackRec.evaluate_settled cfg h, if_pos ⟨ha, hr⟩]
    · rw [RackRec.evaluate_watch cfg h, if_pos ⟨ha, hr⟩]
  · rw [RackRec.evaluate_settled cfg h, if_neg (run_incomplete ha), if_pos ⟨hw, hr⟩]
  · rw [RackRec.evaluate_watch cfg h, if_neg (run_incomplete ha), if_pos ⟨hw, hr⟩]
  · rw [RackRec.evaluate_drifting cfg h, if_pos ⟨hw, hr⟩]

end Sys2Proof.Machine
end

section
/-! PROOFS. What one sample does to a record: the stage of D, then that of O (05 R84 to R91). -/
namespace Sys2Proof.Machine

section Sample

variable (r : RackRec) (cfg : DriftCfg) (x : Sample) (trt d : Int) (c : Outcome6) (path : Option (Int × Int))

/-! ### The stage of O -/

/-- A record that has taken the offset `o`, with what becomes of O and of its seed. -/
def RackRec.tookOffset (r : RackRec) (x : Sample) (trt d o : Int) (c : Outcome6) (offset : Int) (seed : Bool) : RackRec :=
  { r with accepted := true, offset := offset, offsetSeed := seed, last := some ⟨x.entry.tag, some trt, some d, some o, c⟩ }

/-- A record that has taken a gross offset: O stands at its limit (05 R91). -/
def RackRec.tookGross (r : RackRec) (x : Sample) (trt d o : Int) (c : Outcome6) : RackRec :=
  RackRec.tookOffset { r with ctr := { r.ctr with gross := bump r.ctr.gross } } x trt d o c
    (if 0 ≤ o then 500000000 else -500000000) (decide (0 < r.stepHold))

/-- The outcome of a sample whose delay stage ended with `c`, by the seed of O (05 R90). -/
def Outcome6.seeding (c : Outcome6) (seed : Bool) : Outcome6 :=
  if seed then (if c = .reseeded then .reseeded else .seeded) else c

theorem Outcome6.seeding_taken (a b : Bool) : Outcome6.seeding (if a then .seeded else .accepted) b
    = if a ∨ b then .seeded else .accepted := by
  cases a <;> cases b <;> rfl

/-- An offset within the limit seeds O or moves it (05 R90). -/
theorem RackRec.offsetStage_within (h : (x.rawOffset r.delay).natAbs < 500000000) :
    r.offsetStage cfg x trt d c path
      = ⟨r.tookOffset x trt d (x.rawOffset r.delay) (c.seeding r.offsetSeed)
          (if r.offsetSeed then x.rawOffset r.delay
            else r.offset + roundDiv (x.rawOffset r.delay - r.offset) (2 ^ cfg.ko)) false, path, false⟩ := by
  have hg : ¬grossLimit ≤ ((x.rawOffset r.delay).natAbs : Int) := by
    simp only [grossLimit]
    omega
  unfold RackRec.offsetStage RackRec.tookOffset
  simp only [if_neg hg]
  cases r.offsetSeed <;> rfl

/-- A gross offset takes a record in SETTLING, SETTLED or WATCH to DRIFTING, but not under a step hold (05 R91). -/
theorem RackRec.offsetStage_drifting (h : 500000000 ≤ (x.rawOffset r.delay).natAbs) (hh : r.stepHold = 0)
    (hs : r.state = .settling ∨ r.state = .settled ∨ r.state = .watch) :
    r.offsetStage cfg x trt d c path
      = ⟨{ r.tookGross x trt d (x.rawOffset r.delay) c with
            state := .drifting, watchRun := 0, alarmRun := 0, quietRun := 0 }, path, true⟩ := by
  have hg : grossLimit ≤ ((x.rawOffset r.delay).natAbs : Int) := by
    simp only [grossLimit]
    omega
  unfold RackRec.offsetStage
  simp only [if_pos hg, if_pos (show r.stepHold = 0 ∧ _ from ⟨hh, hs⟩)]
  rfl

theorem RackRec.offsetStage_at_limit (h : 500000000 ≤ (x.rawOffset r.delay).natAbs)
    (hs : 0 < r.stepHold ∨ (r.state ≠ .settling ∧ r.state ≠ .settled ∧ r.state ≠ .watch)) :
    r.offsetStage cfg x trt d c path = ⟨r.tookGross x trt d (x.rawOffset r.delay) c, path, false⟩ := by
  have hg : grossLimit ≤ ((x.rawOffset r.delay).natAbs : Int) := by
    simp only [grossLimit]
    omega
  have hn : ¬(r.stepHold = 0 ∧ (r.state = .settling ∨ r.state = .settled ∨ r.state = .watch)) := by
    rintro ⟨h0, hst⟩
    obtain hp | ⟨h1, h2, h3⟩ := hs
    · omega
    · exact hst.elim h1 (·.elim h2 h3)
  unfold RackRec.offsetStage
  simp only [if_pos hg, if_neg hn]
  rfl

/-! ### The stage of D -/

/-- A record with D seeded or moved by a plausible sample (05 R86, R87). -/
def RackRec.tookDelay (r : RackRec) (cfg : DriftCfg) (d : Int) : RackRec :=
  { r with
    delay := if r.delaySeed then d else r.delay + roundDiv (d - r.delay) (2 ^ cfg.kd)
    delayCount := if r.delaySeed then 1 else min 8 (r.delayCount + 1)
    delaySeed := false
    outlierRun := 0 }

theorem RackRec.delayValid_iff : r.delayValid = true ↔ r.delayCount = 8 := by
  simp [RackRec.delayValid]

theorem RackRec.delayStage_takes (h : r.delaySeed = true ∨ r.delayCount ≠ 8 ∨ (roundDiv trt 2 - r.delay).natAbs ≤ cfg.gate) :
    r.delayStage cfg x trt = (r.tookDelay cfg (roundDiv trt 2)).offsetStage cfg x trt (roundDiv trt 2)
      (if r.delaySeed then .seeded else .accepted) none := by
  unfold RackRec.delayStage RackRec.tookDelay
  cases hs : r.delaySeed
  · have hn : ¬(r.delayValid = true ∧ cfg.gate < (roundDiv trt 2 - r.delay).natAbs) := by
      rintro ⟨hv, hg⟩
      rw [r.delayValid_iff] at hv
      simp [hs, hv] at h
      omega
    simp [if_neg hn]
  · simp

variable {r cfg trt}

/-- A sample outside the gate is set aside, but for the fourth in a row (05 R88). -/
theorem RackRec.delayStage_outlier (hs : r.delaySeed = false) (hv : r.delayCount = 8)
    (hg : cfg.gate < (roundDiv trt 2 - r.delay).natAbs) (hr : r.outlierRun < 3) :
    r.delayStage cfg x trt
      = ⟨{ r with
          outlierRun := r.outlierRun + 1
          last := some ⟨x.entry.tag, some trt, some (roundDiv trt 2), none, .outlier⟩
          ctr := { r.ctr with outliers := bump r.ctr.outliers } }, none, false⟩ := by
  unfold RackRec.delayStage
  simp only [hs, Bool.false_eq_true, if_false, if_pos (And.intro (r.delayValid_iff.mpr hv) hg),
    if_pos (show r.outlierRun + 1 < 4 by omega)]
  rfl

/-- A record re-seeded by the fourth sample in a row outside the gate (05 R88). -/
def RackRec.reseeded (r : RackRec) (d : Int) : RackRec :=
  { r with
    delay := d
    delayCount := 1
    outlierRun := 0
    offsetSeed := true
    ctr := { r.ctr with outliers := bump r.ctr.outliers, reseeds := bump r.ctr.reseeds } }

theorem RackRec.delayStage_reseeds (hs : r.delaySeed = false) (hv : r.delayCount = 8)
    (hg : cfg.gate < (roundDiv trt 2 - r.delay).natAbs) (hr : 3 ≤ r.outlierRun) :
    r.delayStage cfg x trt = (r.reseeded (roundDiv trt 2)).offsetStage cfg x trt (roundDiv trt 2) .reseeded
      (some (roundDiv trt 2, r.delay)) := by
  unfold RackRec.delayStage
  simp only [hs, Bool.false_eq_true, if_false, if_pos (And.intro (r.delayValid_iff.mpr hv) hg),
    if_neg (show ¬r.outlierRun + 1 < 4 by omega), RackRec.reseeded]

/-! ### The sample -/

variable {x} {gen : Gen}

theorem RackRec.sample_stale (h : x.entry.gen ≠ gen) : r.sample cfg gen x
    = ⟨{ r with
        last := some ⟨x.entry.tag, none, none, none, .stale⟩
        ctr := { r.ctr with stale := bump r.ctr.stale } }, none, false⟩ := by
  unfold RackRec.sample
  rw [if_pos h]
  rfl

/-- A sample that 05 R85 takes for plausible. -/
def Sample.Plausible (x : Sample) (cfg : DriftCfg) : Prop :=
  0 ≤ x.arrival.diff x.entry.left - x.turn ∧ x.arrival.diff x.entry.left - x.turn ≤ cfg.rtMax ∧ x.turn ≤ x.window

theorem RackRec.sample_implausible (h : x.entry.gen = gen) (hp : ¬x.Plausible cfg) : r.sample cfg gen x
    = ⟨{ r with
        last := some ⟨x.entry.tag, some (x.arrival.diff x.entry.left - x.turn), none, none, .implausible⟩
        ctr := { r.ctr with implausible := bump r.ctr.implausible } }, none, false⟩ := by
  unfold RackRec.sample
  rw [if_neg (not_not.mpr h), if_pos]
  · rfl
  · simp only [Sample.Plausible] at hp
    omega

theorem RackRec.sample_plausible (h : x.entry.gen = gen) (hp : x.Plausible cfg) :
    r.sample cfg gen x = r.delayStage cfg x (x.arrival.diff x.entry.left - x.turn) := by
  unfold RackRec.sample
  rw [if_neg (not_not.mpr h), if_neg]
  obtain ⟨h0, hrt, hw⟩ := hp
  omega

end Sample

/-- Settles O41: a sample goes through the stage of D and, unless set aside, that of O. -/
theorem samplesSeedAndAverageDelayAndOffset : Obligations.SamplesSeedAndAverageDelayAndOffset := by
  refine ⟨fun r cfg gen x => ?_, fun r cfg gen x => ?_, fun r cfg gen x stepped holdover => rfl⟩
  · intro trt plausible half d o y g
    refine ⟨RackRec.sample_stale, RackRec.sample_implausible, fun hg hp ht => ⟨fun ho => ?_, fun ho hh hs => ?_, fun ho hs => ?_⟩⟩
    all_goals
      rw [RackRec.sample_plausible hg hp, RackRec.delayStage_takes r cfg x trt ht]
    · refine (RackRec.offsetStage_within (r.tookDelay cfg half) cfg x trt half _ none ho).trans ?_
      rw [show (r.tookDelay cfg half).offsetSeed = r.offsetSeed from rfl, Outcome6.seeding_taken]
      rfl
    · exact RackRec.offsetStage_drifting _ _ _ _ _ _ _ ho hh hs
    · exact RackRec.offsetStage_at_limit _ _ _ _ _ _ _ ho hs
  · intro trt d hg h0 hrt hw hs hv hgate o y g
    have hp : x.Plausible cfg := ⟨h0, hrt, hw⟩
    refine ⟨fun hr => ?_, fun hr ho => ?_, fun hr ho hh hst => ?_, fun hr ho hst => ?_⟩
    all_goals rw [RackRec.sample_plausible hg hp]
    · exact RackRec.delayStage_outlier x hs hv hgate hr
    all_goals rw [RackRec.delayStage_reseeds x hs hv hgate hr]
    · exact RackRec.offsetStage_within _ _ _ _ _ _ _ ho
    · exact RackRec.offsetStage_drifting _ _ _ _ _ _ _ ho hh hst
    · exact RackRec.offsetStage_at_limit _ _ _ _ _ _ _ ho hst

end Sys2Proof.Machine
end

section
/-! PROOFS. What a second makes of one record, and the row spread over the records (05 R93 to R96, R102, R103). -/
namespace Sys2Proof.Machine

/-! ### The push into the history -/

section Push

variable (r : RackRec) (cfg : DriftCfg)

/-- The ring of 16 takes O at its end and gives up its oldest place when full. -/
theorem RackRec.push_history (h : r.history.length ≤ 16) : (r.push cfg).history
    = if r.history.length < 16 then r.history ++ [r.offset] else r.history.drop 1 ++ [r.offset] := by
  simp only [RackRec.push, Config.historyPlaces]
  split
  · rw [show r.history.length + 1 - 16 = 0 by omega, List.drop_zero]
  · rw [show r.history.length + 1 - 16 = 1 by omega, List.drop_append_of_le_length (by omega)]

theorem RackRec.push_history_length (h : r.history.length ≤ 16) :
    (r.push cfg).history.length = min 16 (r.history.length + 1) := by
  rw [RackRec.push_history r cfg h]
  split <;> simp <;> omega

theorem driftRate_push (h : List Int) (o : Int) : driftRate (h ++ [o])
    = if (h ++ [o]).length < 2 then 0
      else clamp (-100000000) 100000000 (roundDiv ((o - (h ++ [o]).head?.getD 0) * 1000) ((h ++ [o]).length - 1)) := by
  unfold driftRate
  rw [List.getLast?_concat]
  rfl

theorem timeToAlarm_eq (o rate : Int) (alarm : Nat) : timeToAlarm o rate alarm
    = if alarm ≤ o.natAbs then 0
      else if rate = 0 ∨ (0 < o ∧ rate < 0) ∨ (o < 0 ∧ 0 < rate) then 65535
      else min 65535 ((alarm - o.natAbs) * 1000 / rate.natAbs) := by
  have hc : ∀ v, clampNat 0 65535 v = min 65535 v := fun v => by
    unfold clampNat
    split_ifs <;> omega
  unfold timeToAlarm
  rw [hc]

theorem RackRec.push_eq {h : List Int} (hh : (r.push cfg).history = h ++ [r.offset]) :
    r.push cfg = { r with
      history := h ++ [r.offset]
      rate := driftRate (h ++ [r.offset])
      alarmIn := timeToAlarm r.offset (driftRate (h ++ [r.offset])) cfg.offAlarm } := by
  rw [← hh]
  rfl

variable {r cfg} {st : PortState}

/-- Part 2 of 05 R92 by its cases. -/
theorem RackRec.eachSecond_of_not (h : ¬(st = .up ∧ r.accepted = true ∧ r.stepHold = 0)) :
    r.eachSecond cfg st = { r with accepted := false } := if_neg h

theorem RackRec.eachSecond_pushed (h : st = .up ∧ r.accepted = true ∧ r.stepHold = 0)
    (hn : ¬((r.push cfg).history.length = 16 ∧ r.state.evaluated = true)) :
    r.eachSecond cfg st = { r.push cfg with accepted := false } :=
  (if_pos h).trans (congrArg (fun y : RackRec => { y with accepted := false }) (if_neg hn))

theorem RackRec.eachSecond_evaluated (h : st = .up ∧ r.accepted = true ∧ r.stepHold = 0)
    (hl : (r.push cfg).history.length = 16) (hr : r.state.evaluated = true) :
    r.eachSecond cfg st = { (r.push cfg).evaluate cfg with accepted := false } :=
  (if_pos h).trans (congrArg (fun y : RackRec => { y with accepted := false }) (if_pos ⟨hl, hr⟩))

end Push

/-! ### The choice of the greatest and of the least -/

/-- The port of the greater key, the earlier port among equals. -/
def pickBy (key : Port → Int) (x : Option Port) (p : Port) : Option Port :=
  match x with
  | none => some p
  | some q => if key q < key p then some p else some q

/-- `p` has the greatest key of a list, the earliest port among equals. -/
def Extremal (key : Port → Int) (ps : List Port) (p : Port) : Prop := ∀ q ∈ ps, key q < key p ∨ (key q = key p ∧ p ≤ q)

theorem Extremal.of_cons {key : Port → Int} {q p : Port} {ps : List Port} (h : Extremal key (q :: ps) p) : Extremal key ps p :=
  fun r hr => h r (List.mem_cons_of_mem _ hr)

theorem foldl_pickBy_some {key : Port → Int} {ps : List Port} {q p : Port} (hs : (q :: ps).Pairwise (· < ·))
    (hp : p ∈ q :: ps) (hl : Extremal key (q :: ps) p) : ps.foldl (pickBy key) (some q) = some p := by
  induction ps generalizing q with
  | nil => rw [List.foldl_nil, List.mem_singleton.mp hp]
  | cons r rs ih =>
    rw [List.pairwise_cons, List.pairwise_cons] at hs
    obtain ⟨hq, hr, hrs⟩ := hs
    have lq := hl q List.mem_cons_self
    have lr := hl r (List.mem_cons_of_mem _ List.mem_cons_self)
    have hqr := hq r List.mem_cons_self
    rw [List.foldl_cons, pickBy]
    split
    · rename_i hlt
      have hne : p ≠ q := by
        rintro rfl
        omega
      exact ih (List.pairwise_cons.mpr ⟨hr, hrs⟩) (List.mem_of_ne_of_mem hne hp) hl.of_cons
    · rename_i hle
      have hne : p ≠ r := by
        rintro rfl
        exact lq.elim hle fun ⟨_, h⟩ => absurd hqr (not_lt.mpr h)
      refine ih (List.pairwise_cons.mpr ⟨fun x hx => hq x (List.mem_cons_of_mem _ hx), hrs⟩) ?_ fun x hx => ?_
      · rcases List.mem_cons.mp hp with h | h
        · exact h ▸ List.mem_cons_self
        · exact List.mem_cons_of_mem _ (List.mem_of_ne_of_mem hne h)
      · rcases List.mem_cons.mp hx with rfl | h
        · exact lq
        · exact hl x (List.mem_cons_of_mem _ (List.mem_cons_of_mem _ h))

theorem foldl_pickBy {key : Port → Int} {ps : List Port} {p : Port} (hs : ps.Pairwise (· < ·)) (hp : p ∈ ps)
    (hl : Extremal key ps p) : ps.foldl (pickBy key) none = some p := by
  cases ps with
  | nil => exact absurd hp List.not_mem_nil
  | cons q qs => exact foldl_pickBy_some hs hp hl

section Spread

variable (s : State) (sec : RowSec)

theorem pickHigh_eq : pickHigh s = pickBy fun p => (s.rack p).offset := rfl

theorem pickLow_eq : pickLow s = pickBy fun p => -(s.rack p).offset := by
  funext x p
  unfold pickLow pickBy
  cases x with
  | none => rfl
  | some q => exact if_congr (neg_lt_neg_iff).symm rfl rfl

theorem State.countedPorts_sorted : s.countedPorts.Pairwise (· < ·) :=
  List.Pairwise.filter _ (by decide : allPorts.Pairwise (· < ·))

theorem State.mem_countedPorts (p : Port) : p ∈ s.countedPorts
    ↔ (s.rack p).state = .settled ∨ (s.rack p).state = .watch ∨ (s.rack p).state = .drifting := by
  rw [State.countedPorts, List.mem_filter, RackState.offsetValid_iff]
  exact and_iff_right (mem_allPorts p)

theorem State.countedPorts_length : s.countedPorts.length = allPorts.countP (fun p => decide
    ((s.rack p).state = .settled ∨ (s.rack p).state = .watch ∨ (s.rack p).state = .drifting)) := by
  rw [State.countedPorts, ← List.countP_eq_length_filter]
  refine List.countP_congr fun p _ => ?_
  rw [decide_eq_true_eq, RackState.offsetValid_iff]

variable {s}

theorem State.rowSpread_none (h : s.countedPorts.length < 2) : s.rowSpread sec = none := by
  unfold State.rowSpread
  simp only
  split
  · rw [if_neg (by omega)]
  · rfl
  · rfl

/-- The row spread between the record of the greatest O and that of the least (05 R102). -/
theorem State.rowSpread_some {hi lo : Port} (h : 2 ≤ s.countedPorts.length) (hhi : hi ∈ s.countedPorts)
    (hlo : lo ∈ s.countedPorts) (lhi : Extremal (fun p => (s.rack p).offset) s.countedPorts hi)
    (llo : Extremal (fun p => -(s.rack p).offset) s.countedPorts lo) :
    s.rowSpread sec = some ⟨(s.rack hi).offset - (s.rack lo).offset, hi, lo, sec⟩ := by
  unfold State.rowSpread
  simp only
  rw [pickHigh_eq, pickLow_eq, foldl_pickBy s.countedPorts_sorted hhi lhi, foldl_pickBy s.countedPorts_sorted hlo llo]
  exact if_pos h

end Spread
end Sys2Proof.Machine
end

section
/-! PROOFS. Work that tells nothing of a rack record: what the rest of a boundary leaves of it, of its port's state, of its
RACK marker and its RACK notice (05 R83, R92). -/
namespace Sys2Proof.Machine

/-- `t` is `s` after work that tells nothing of the rack records of `P`'s ports and keeps the ports' states. -/
structure State.Hushed (P : Port → Prop) (s t : State) : Prop where
  cfg : t.drm.cfg = s.drm.cfg
  mlc : s.mlc.Waits → t.mlc = s.mlc
  state : ∀ p, P p → (t.port p).state = (s.port p).state
  waiting : ∀ p : Port, P p → t.sq.backlog.rack[p] = s.sq.backlog.rack[p]
  notice : s.mlc.Waits → ∀ p, P p → t.ntu.at (.rack p) = s.ntu.at (.rack p)

/-- What DRM keeps of the row spread (05 R102, R103). -/
def Drm.board (d : Drm) : Option RowSpread × Nat × Bool := (d.spread, d.counted, d.high)

/-- It leaves these records and the row spread too. -/
structure State.Quiet (P : Port → Prop) (s t : State) : Prop extends s.Hushed P t where
  board : t.drm.board = s.drm.board
  rack : ∀ p, P p → t.rack p = s.rack p

namespace State.Hushed

variable {P : Port → Prop} {s t u : State}

@[refl] theorem refl (s : State) : s.Hushed P s := ⟨rfl, fun _ => rfl, fun _ _ => rfl, fun _ _ => rfl, fun _ _ _ => rfl⟩

@[trans] theorem trans (h : s.Hushed P t) (k : t.Hushed P u) : s.Hushed P u where
  cfg := k.cfg.trans h.cfg
  mlc w := (k.mlc ((h.mlc w).symm ▸ w)).trans (h.mlc w)
  state p hp := (k.state p hp).trans (h.state p hp)
  waiting p hp := (k.waiting p hp).trans (h.waiting p hp)
  notice w p hp := (k.notice ((h.mlc w).symm ▸ w) p hp).trans (h.notice w p hp)

theorem overPorts {f : Port → State → State} (h : ∀ (q : Port) (s : State), s.Hushed P (f q s)) (s : State) :
    s.Hushed P (overPorts f s) :=
  overPorts_keeps (P := s.Hushed P) f (fun q _ ht => ht.trans (h q _)) s (refl s)

end State.Hushed

namespace State.Quiet

variable {P : Port → Prop} {s t u : State}

@[refl] theorem refl (s : State) : s.Quiet P s := ⟨.refl s, rfl, fun _ _ => rfl⟩

@[trans] theorem trans (h : s.Quiet P t) (k : t.Quiet P u) : s.Quiet P u :=
  ⟨h.toHushed.trans k.toHushed, k.board.trans h.board, fun p hp => (k.rack p hp).trans (h.rack p hp)⟩

theorem overPorts {f : Port → State → State} (h : ∀ (q : Port) (s : State), s.Quiet P (f q s)) (s : State) :
    s.Quiet P (overPorts f s) :=
  overPorts_keeps (P := s.Quiet P) f (fun q _ ht => ht.trans (h q _)) s (refl s)

/-- Writes outside DRM, the link, the pending set and the markers of rack records. -/
theorem of_same (hdrm : t.drm = s.drm) (hmlc : t.mlc = s.mlc) (hntu : t.ntu = s.ntu)
    (hsq : t.sq.backlog.rack = s.sq.backlog.rack) (hport : ∀ p, P p → (t.port p).state = (s.port p).state) : s.Quiet P t where
  cfg := by rw [hdrm]
  mlc _ := hmlc
  state := hport
  waiting p _ := by rw [hsq]
  notice _ p _ := by rw [hntu]
  board := by rw [hdrm]
  rack p _ := State.rack_of_drm hdrm p

end State.Quiet

/-! ### The writes -/

section Writes

variable (s : State) {P : Port → Prop} (q : Port)

theorem State.setPort_quiet {r : PortRec} (h : P q → r.state = (s.port q).state) : s.Quiet P (s.setPort q r) := by
  refine .of_same rfl rfl rfl rfl fun p hp => ?_
  rw [State.port_setPort]
  split
  · rename_i e
    subst e
    exact h hp
  · rfl

theorem State.setRack_hushed (r : RackRec) : s.Hushed P (s.setRack q r) :=
  ⟨rfl, fun _ => rfl, fun _ _ => rfl, fun _ _ => rfl, fun _ _ _ => rfl⟩

theorem State.setRack_quiet (h : ¬P q) (r : RackRec) : s.Quiet P (s.setRack q r) := by
  refine ⟨s.setRack_hushed q r, rfl, fun p hp => (State.rack_setRack ..).trans (if_neg ?_)⟩
  rintro rfl
  exact h hp

theorem State.note_quiet (e : TickEvent) : s.Quiet P (s.note e) := .of_same rfl rfl rfl rfl fun _ _ => rfl

theorem State.setEds_quiet (e : Eds) : s.Quiet P (s.setEds e) := .of_same rfl rfl rfl rfl fun _ _ => rfl

theorem Backlog.raise_rack_other (b : Backlog) (h : Hdr) {m : Marker} {p : Port} (hm : ∀ st k, m ≠ .rack p st k) :
    (b.raise h m).rack[p] = b.rack[p] := by
  cases m with
  | rack q st k =>
    have hq : q ≠ p := fun e => hm st k (e ▸ rfl)
    have hqp : ∀ x : Option RackWait, (b.rack.set q x)[p] = b.rack[p] := fun x => vector_set_other _ hq.symm x
    unfold Backlog.raise
    simp only
    split <;> exact hqp _
  | restart c st => rfl
  | leap c u => rfl
  | step k a => unfold Backlog.raise; simp only; split <;> rfl
  | tstate st k => unfold Backlog.raise; simp only; split <;> rfl
  | gap k => unfold Backlog.raise; simp only; split <;> rfl
  | tick k => unfold Backlog.raise; simp only; split <;> rfl

theorem State.raiseMarker_quiet {m : Marker} (h : ∀ p st k, m = .rack p st k → ¬P p) (x : Hdr) :
    s.Quiet P (s.raiseMarker x m) where
  cfg := rfl
  mlc _ := rfl
  state _ _ := rfl
  waiting p hp := Backlog.raise_rack_other _ _ fun st k e => h p st k e hp
  notice _ _ _ := rfl
  board := rfl
  rack _ _ := rfl

theorem State.raiseNotice_quiet {k : Place} (h : ∀ p, k = .rack p → ¬P p) (v : NoticeValue) :
    s.Quiet P (s.raiseNotice k v) := by
  have hw : s.mlc.Waits → (s.raiseNotice k v).mlc = s.mlc
      ∧ ∀ p, P p → (s.raiseNotice k v).ntu.at (.rack p) = s.ntu.at (.rack p) := by
    intro w
    rw [State.raiseNotice_of_waits w]
    refine ⟨rfl, fun p hp => (Ntu.at_raise ..).trans (if_neg fun e => ?_)⟩
    exact h p (Place.index_injective e) hp
  obtain ⟨n, m, e⟩ := s.raiseNotice_eq k v
  rw [e] at hw ⊢
  exact ⟨⟨rfl, fun w => (hw w).1, fun _ _ => rfl, fun _ _ => rfl, fun w => (hw w).2⟩, rfl, fun _ _ => rfl⟩

theorem State.changeRecord_quiet (h : ¬P q) (r : RackRec) (c : RackCause) : s.Quiet P (s.changeRecord q r c) := by
  refine ((s.setRack_quiet q h r).trans (State.raiseMarker_quiet _ (fun p st k e => ?_) _)).trans
    (State.raiseNotice_quiet _ (fun p e => ?_) _) <;> cases e <;> exact h

end Writes

/-! ### The rack link's share -/

section Link

variable (s : State) {P : Port → Prop} (q : Port)

theorem State.portFaulted_quiet (h : ¬P q) : s.Quiet P (s.portFaulted q) :=
  ((s.setPort_quiet q fun k => absurd k h).trans (State.changeRecord_quiet _ q h _ _)).trans
    (State.raiseNotice_quiet _ (fun _ e => by cases e) _)

theorem State.missEcho_quiet (h : P q → ¬(s.port q).faults) : s.Quiet P (s.missEcho q) := by
  have hm : s.Quiet P (s.setPort q (s.port q).miss) := s.setPort_quiet q fun _ => rfl
  unfold State.missEcho
  split
  · rename_i hf
    exact hm.trans (State.portFaulted_quiet _ q fun hq => h hq hf)
  · exact hm

theorem State.closeForDeparture_quiet (h : P q → ¬(s.port q).Losing) (b : Bool) : s.Quiet P (s.closeForDeparture q b) := by
  rcases s.closeForDeparture_cases q b with ⟨-, e⟩ | ⟨he, -, e⟩ | ⟨he, -, e⟩ <;> rw [e]
  all_goals have hm : s.Quiet P (s.missEcho q) := s.missEcho_quiet q fun hq hf => h hq ⟨he, hf⟩
  · exact hm
  · exact hm.trans (State.setPort_quiet _ q fun _ => rfl)

theorem State.depart_quiet (h : P q → ¬(s.port q).Losing) (sec : RowSec) (k : Nat) (left : Time) (b : Bool) :
    s.Quiet P (s.depart q sec k left b) := by
  have hd := (s.closeForDeparture_quiet q h b).trans
    (State.setPort_quiet _ q (r := (s.closeForDeparture q b).departPort q sec k left) fun _ => rfl)
  unfold State.depart State.noteOvertaken
  simp only
  split
  · exact hd.trans (State.note_quiet _ _)
  · exact hd

theorem State.cycleWork_quiet (h : P q → ¬(s.port q).Losing) (sec : RowSec) (k : Nat) (left : Time) (early b : Bool) :
    s.Quiet P (s.cycleWork q sec k left early b) := by
  have hm : s.Quiet P ((s.setPort q (modeWork (s.port q) k s.rle.cycle.divisor s.rle.staged.isSome)).note
      (.departure q sec k)) :=
    (s.setPort_quiet q fun _ => by rw [modeWork_eq, PortRec.modesMoved_state]).trans (State.note_quiet _ _)
  unfold State.cycleWork
  simp only
  split
  · refine hm.trans (State.depart_quiet _ q (fun hq => ?_) sec k left b)
    change ¬((s.setPort q _).port q).Losing
    rw [State.port_setPort_same, modeWork_eq, PortRec.losing_modesMoved]
    exact h hq
  · exact hm

/-- An early cycle 0 loses no port that has none to lose, and there is none where the tick does not reach it. -/
theorem rleEarly_quiet {n : Nat} (h : P q → ¬(s.port q).Losing ∨ 1000000000 ≤ n + s.comp q) (sec : RowSec) (st : Bool)
    (rec : BitVec 16) : s.Quiet P (rleEarly sec n st rec q s) := by
  unfold rleEarly
  simp only
  split
  · rfl
  · rename_i hn
    split
    · exact (s.setPort_quiet q fun _ => PortRec.modeFirst_state _).trans (State.note_quiet _ _)
    · refine s.cycleWork_quiet q (fun hq => (h hq).resolve_right fun hr => hn (.inr (.inr ?_))) sec 0 _ _ _
      change 1000000000 - s.comp q ≤ n
      omega

theorem rleRoll_quiet {c : Port → Nat} (h : P q → ¬(s.port q).Losing ∨ 0 < c q) (sec : RowSec) (b : Bool)
    (rec : BitVec 16) : s.Quiet P (rleRoll sec c b rec q s) := by
  unfold rleRoll
  split
  · split
    · exact s.note_quiet _
    · rfl
  · split
    · refine (s.setPort_quiet q fun _ => ?_).trans (State.note_quiet _ _)
      split <;> split <;> simp
    · split
      · exact s.note_quiet _
      · rename_i hc
        split
        · exact s.cycleWork_quiet q (fun hq => (h hq).resolve_right hc) sec 0 _ _ _
        · rfl

theorem passModes_quiet (b v : Time) : s.Quiet P (passModes b v q s) := by
  unfold passModes
  split
  · rfl
  · exact s.setPort_quiet q fun _ => by simp only [List.foldl_cons, List.foldl_nil, passSecond_state]

theorem landAgain_quiet (sec : RowSec) : s.Quiet P (landAgain sec q s) := by
  obtain ⟨xs, e⟩ := landAgain_eq s sec q
  rw [e]
  exact .of_same rfl rfl rfl rfl fun _ _ => rfl

theorem State.movedOver_quiet (sec : RowSec) (b : Time) (st : Bool) : s.Quiet P (s.movedOver sec b st) := by
  unfold State.movedOver
  split
  · exact .overPorts (fun q t => passModes_quiet t q _ _) s
  · split
    · exact .overPorts (fun q t => landAgain_quiet t q _) s
    · rfl

theorem edsPortBoundary_quiet (old : Eds) (k : EdgeTick) : s.Quiet P (edsPortBoundary old k q s) := by
  unfold edsPortBoundary
  split
  · exact s.setEds_quiet _
  · simp only
    split <;> exact s.setEds_quiet _

theorem edsTicks_quiet (old : Eds) (k : EdgeTick) : s.Quiet P (edsTicks old k s) := by
  unfold edsTicks
  generalize allEntries = xs
  induction xs generalizing s with
  | nil => rfl
  | cons x xs ih =>
    rw [List.foldl_cons]
    refine State.Quiet.trans ?_ (ih _)
    simp only
    split
    · exact s.raiseMarker_quiet (fun _ _ _ e => by cases e) _
    · rfl

theorem State.edsBoundary_quiet (sec : RowSec) (n : Nat) (b st : Bool) : s.Quiet P (s.edsBoundary sec n b st) :=
  ((s.setEds_quiet _).trans (.overPorts (fun q t => edsPortBoundary_quiet t q _ _) _)).trans (edsTicks_quiet _ _ _)

theorem edsPortBoundary_rle (old : Eds) (k : EdgeTick) : (edsPortBoundary old k q s).rle = s.rle := by
  unfold edsPortBoundary
  split
  · rfl
  · simp only
    split <;> rfl

theorem edsTicks_rle (old : Eds) (k : EdgeTick) : (edsTicks old k s).rle = s.rle := by
  unfold edsTicks
  generalize allEntries = xs
  induction xs generalizing s with
  | nil => rfl
  | cons x xs ih =>
    rw [List.foldl_cons, ih]
    simp only
    split <;> rfl

/-- EDS's boundary work leaves the rack link. -/
theorem State.edsBoundary_rle (sec : RowSec) (n : Nat) (b st : Bool) : (s.edsBoundary sec n b st).rle = s.rle := by
  unfold State.edsBoundary
  simp only
  rw [edsTicks_rle]
  exact overPorts_keeps (P := fun t => t.rle = s.rle) _ (fun p t ht => (edsPortBoundary_rle t p _ _).trans ht) _ rfl

theorem rleSeconds_quiet : s.Quiet P (rleSeconds q s) := s.setPort_quiet q fun _ => rfl

end Link

/-! ### The ports' work as one port sees it -/

/-- The shares of every port but `p`, which tell nothing of `p`'s record. -/
structure State.Beside (p : Port) (s t : State) : Prop where
  others : s.Others p t
  quiet : s.Quiet (· = p) t

/-- A work over every port, as port `p` and its record see it. -/
theorem overPorts_beside {f : Port → State → State} (p : Port) (hs : ∀ (q : Port) (s : State), s.PortShare q (f q s))
    (hq : ∀ q, q ≠ p → ∀ s : State, s.Quiet (· = p) (f q s)) (s : State) :
    ∃ t, s.Beside p t ∧ (f p t).Beside p (overPorts f s) := by
  have hf : ∀ q, q ≠ p → ∀ t : State, t.Beside p (f q t) := fun q h t => ⟨(hs q t).others h, hq q h t⟩
  have htrans : ∀ {a b c : State}, a.Beside p b → b.Beside p c → a.Beside p c :=
    fun h k => ⟨h.others.trans k.others, h.quiet.trans k.quiet⟩
  exact overPorts_at (P := s.Beside p) (Q := fun z => ∃ t, s.Beside p t ∧ (f p t).Beside p z) p
    (fun q h t ht => htrans ht (hf q h t)) (fun t ht => ⟨t, ht, .refl _, .refl _⟩)
    (fun q h z ⟨t, ht, hz⟩ => ⟨t, ht, htrans hz (hf q h z)⟩) ⟨.refl s, .refl s⟩

section Ports

variable (s : State)

/-- A port whose departure at the boundary tick, if there is one, does not take it to FAULTED. -/
def State.Stays (s : State) (p : Port) (n : Nat) : Prop :=
  ¬(s.port p).Losing ∨ (0 < s.comp p ∧ 1000000000 ≤ n + s.comp p)

theorem State.applyCycle_port (p : Port) : (s.setRle s.rle.applyCycle).port p = s.port p := by
  rw [State.port, State.setRle_rle, s.rle.applyCycle_eq.2.2]
  rfl

/-- The divisor coming into force tells nothing of a record. -/
theorem State.applyCycle_quiet (P : Port → Prop) : s.Quiet P (s.setRle s.rle.applyCycle) :=
  .of_same rfl rfl rfl rfl fun p _ => congrArg PortRec.state (s.applyCycle_port p)

variable {s} {p : Port} {n : Nat}

/-- The early work on a port that stays, which leaves the port itself where its compensation is 0. -/
theorem State.earlyWork_quiet (h : s.Stays p n) (sec : RowSec) (rec : BitVec 16) :
    s.Quiet (· = p) (s.earlyWork sec n rec)
    ∧ (s.comp p = 0 → (s.earlyWork sec n rec).port p = s.port p) := by
  obtain ⟨a, ha, hE⟩ := overPorts_beside p (fun q t => rleEarly_share t sec n s.rle.staged.isSome rec q)
    (fun q hq t => rleEarly_quiet t q (fun e => absurd e hq) _ _ _) (s.setRle s.rle.applyCycle)
  change (rleEarly sec n s.rle.staged.isSome rec p a).Beside p (s.earlyWork sec n rec) at hE
  have hport : a.port p = s.port p := ha.others.samePort.port.trans (s.applyCycle_port p)
  have hcomp : a.comp p = s.comp p := ha.others.samePort.comp
  have hown : a.Quiet (· = p) (rleEarly sec n s.rle.staged.isSome rec p a) :=
    rleEarly_quiet a p (fun _ => by rw [hport, hcomp]; exact h.imp_right And.right) _ _ _
  refine ⟨(((s.applyCycle_quiet _).trans ha.quiet).trans hown).trans hE.quiet, fun h0 => ?_⟩
  have hid : rleEarly sec n s.rle.staged.isSome rec p a = a := if_pos (.inr (.inl (hcomp.trans h0)))
  rw [hE.others.samePort.port, hid, hport]

/-- Cycle 0 of the second that begins, on a port that stays. -/
theorem State.cycleZeroWork_quiet (h : s.Stays p n) (sec : RowSec) (q st : Bool) (rec : BitVec 16) :
    s.Quiet (· = p) (s.cycleZeroWork sec n q st rec) := by
  obtain ⟨hearly, hsame⟩ := State.earlyWork_quiet h sec rec
  have hcomp : (s.earlyWork sec n rec).comp p = s.comp p := State.comp_of_eds (s.earlyWork_outside sec n rec).eds p
  have hroll : ¬(((s.earlyWork sec n rec).edsBoundary sec n q st).port p).Losing ∨ 0 < (s.earlyWork sec n rec).comp p := by
    rw [hcomp]
    refine (Nat.eq_zero_or_pos (s.comp p)).imp_left fun h0 => ?_
    rw [State.port_of_rle (State.edsBoundary_rle _ sec n q st), hsame h0]
    exact h.resolve_right fun k => absurd k.1 (by omega)
  obtain ⟨c, hc, hC⟩ := overPorts_beside p
    (fun q t => rleRoll_share t sec (s.earlyWork sec n rec).comp s.rle.staged.isSome rec q)
    (fun q hq t => rleRoll_quiet t q (fun e => absurd e hq) _ _ _) ((s.earlyWork sec n rec).edsBoundary sec n q st)
  have hown := rleRoll_quiet (P := (· = p)) c p (c := (s.earlyWork sec n rec).comp)
    (fun _ => by rw [hc.others.samePort.port]; exact hroll) sec s.rle.staged.isSome rec
  exact (((hearly.trans (State.edsBoundary_quiet _ sec n q st)).trans hc.quiet).trans hown).trans hC.quiet

/-- The ports' work of a boundary tells nothing of a port that stays. -/
theorem State.portsWork_quiet (h : s.Stays p n) (sec : RowSec) (b : Time) (q st : Bool) (rec : BitVec 16) :
    s.Quiet (· = p) (s.portsWork sec b n q st rec) := by
  rw [State.portsWork_eq]
  exact ((State.cycleZeroWork_quiet h sec q st rec).trans (State.movedOver_quiet _ sec b st)).trans
    (.overPorts (fun q t => rleSeconds_quiet t q) _)

/-- Whatever its departures make of the ports, it leaves the drift configuration and the row spread. -/
theorem State.portsWork_drm (s : State) (sec : RowSec) (b : Time) (n : Nat) (q st : Bool) (rec : BitVec 16) :
    s.Quiet (fun _ => False) (s.portsWork sec b n q st rec) := by
  have hearly : s.Quiet (fun _ => False) (s.earlyWork sec n rec) :=
    (s.applyCycle_quiet _).trans (.overPorts (fun q t => rleEarly_quiet t q False.elim _ _ _) _)
  have hzero : s.Quiet (fun _ => False) (s.cycleZeroWork sec n q st rec) :=
    (hearly.trans (State.edsBoundary_quiet _ sec n q st)).trans
      (.overPorts (fun q t => rleRoll_quiet t q False.elim _ _ _) _)
  rw [State.portsWork_eq]
  exact (hzero.trans (State.movedOver_quiet _ sec b st)).trans (.overPorts (fun q t => rleSeconds_quiet t q) _)

end Ports

/-! ### REF's and TSU's share -/

/-- An occurrence that tells nothing of a rack record. -/
def Raise.OffRack (x : Raise) : Prop := (∀ p st k, x ≠ .marker (.rack p st k)) ∧ ∀ p v, x ≠ .notice (.rack p) v

theorem State.raises_quiet {P : Port → Prop} (s : State) {xs : List Raise} (h : ∀ x ∈ xs, x.OffRack) :
    s.Quiet P (xs.foldl State.raiseOne s) := by
  induction xs generalizing s with
  | nil => rfl
  | cons x xs ih =>
    obtain ⟨hm, hn⟩ := h x List.mem_cons_self
    refine State.Quiet.trans ?_ (ih _ fun y hy => h y (List.mem_cons_of_mem _ hy))
    cases x with
    | notice k v => exact s.raiseNotice_quiet (fun p e => absurd (e ▸ rfl) (hn p v)) v
    | marker m => exact s.raiseMarker_quiet (fun p st k e => absurd (e ▸ rfl) (hm p st k)) _

theorem State.timeWork_offRack (s : State) (sec : RowSec) : ∀ x ∈ (s.timeWork sec).2, x.OffRack := by
  obtain ⟨minor, last, hminor, hraises, hlast⟩ := (s.boundaryWork_leaves sec false 0).cases
  rw [State.timeWork_snd, hraises]
  intro x hx
  simp only [List.mem_append] at hx
  rcases hx with hx | (hx | hx) | hx
  · obtain ⟨i, v, rfl⟩ := Ref.boundary_raises _ _ _ _ _ hx
    exact ⟨by simp, by simp⟩
  · split at hx
    · exact absurd hx List.not_mem_nil
    · simp only [stateRaises, List.mem_cons, List.not_mem_nil, or_false] at hx
      rcases hx with rfl | rfl <;> exact ⟨by simp, by simp⟩
  · have hm := hminor x hx
    constructor
    · rintro p st k rfl
      exact hm
    · rintro p v rfl
      exact hm
  · rcases State.BoundaryLeaves.last_cases hlast with rfl | ⟨a, rfl⟩
    · exact absurd hx List.not_mem_nil
    · simp only [stepRaises, List.mem_cons, List.not_mem_nil, or_false] at hx
      rcases hx with rfl | rfl <;> exact ⟨by simp, by simp⟩

theorem State.timeRaised_quiet {P : Port → Prop} (s : State) (sec : RowSec) : s.Quiet P (s.timeRaised sec) := by
  have hw : s.Quiet P (s.timeWork sec).1 := by
    obtain ⟨i, n, e⟩ := s.timeWork_fst sec
    rw [e]
    exact .of_same rfl rfl rfl rfl fun _ _ => rfl
  exact hw.trans (State.raises_quiet _ (s.timeWork_offRack sec))

end Sys2Proof.Machine
end

section
/-! PROOFS. DRM's boundary work on one record, told by its RACK marker and notice, and the whole boundary around it (05 R83, R92,
R97, R100, R102, R103). -/
namespace Sys2Proof.Machine

/-- Work that makes `y` of the record of port `p`, and where this is another state raises one RACK marker and one RACK notice
of cause EVALUATION (05 R83, R97). -/
structure State.Told (p : Port) (y : RackRec) (s t : State) : Prop where
  rack : t.rack p = y
  waiting : t.sq.backlog.rack[p] =
    rackWaiting (if y.state = (s.rack p).state then 0 else 1) t.hdr y.state s.sq.backlog.rack[p]
  notice : s.mlc.Waits → t.ntu.at (.rack p) = noticed (if y.state = (s.rack p).state then 0 else 1)
    (.rack y.state .evaluation y.offset y.rate) t.now.sec (s.ntu.at (.rack p))

namespace State.Told

variable {p : Port} {s t u : State} {y z : RackRec}

/-- What is told depends on the record's state, its marker and its notice before. -/
theorem of_same (k : t.Told p y u) (hr : (t.rack p).state = (s.rack p).state)
    (hb : t.sq.backlog.rack[p] = s.sq.backlog.rack[p]) (hw : s.mlc.Waits → t.mlc.Waits)
    (hn : s.mlc.Waits → t.ntu.at (.rack p) = s.ntu.at (.rack p)) : s.Told p y u where
  rack := k.rack
  waiting := by rw [k.waiting, hb, hr]
  notice w := by rw [k.notice (hw w), hn w, hr]

/-- Told after work that tells nothing of the record. -/
theorem after (h : s.Hushed (· = p) t) (hr : (t.rack p).state = (s.rack p).state) (k : t.Told p y u) : s.Told p y u :=
  k.of_same hr (h.waiting p rfl) (fun w => (h.mlc w).symm ▸ w) fun w => h.notice w p rfl

/-- Told before work that tells nothing of the record and keeps what was told of it. -/
theorem before (h : s.Told p y t) (hw : s.mlc.Waits → t.mlc = s.mlc) (k : t.Hushed (· = p) u) (htsu : u.tsu = t.tsu)
    (hz : u.rack p = z) (hst : z.state = y.state) (ho : z.offset = y.offset) (hr : z.rate = y.rate) : s.Told p z u := by
  obtain ⟨hhdr, hnow⟩ := State.hdr_congr htsu
  refine ⟨hz, ?_, fun w => ?_⟩
  · rw [k.waiting p rfl, h.waiting, hst, hhdr]
  · rw [k.notice ((hw w).symm ▸ w) p rfl, h.notice w, hst, ho, hr, hnow]

end State.Told

/-! ### DRM's share -/

section Drm

variable (s : State) (p : Port)

/-- A change of state by an evaluation is told, with the present capture, grade and generation. -/
theorem State.changeRecord_told {y : RackRec} (h : y.state ≠ (s.rack p).state) :
    s.Told p y (s.changeRecord p y .evaluation) := by
  have hn : s.mlc.Waits → (s.changeRecord p y .evaluation).ntu.at (.rack p)
      = some (Notice.merge (.rack y.state .evaluation y.offset y.rate) s.now.sec (s.ntu.at (.rack p))) := by
    intro w
    change ((s.recordMoved p y).raiseNotice (.rack p) _).ntu.at (.rack p) = _
    rw [State.raiseNotice_of_waits (show (s.recordMoved p y).mlc.Waits from w)]
    exact (Ntu.at_raise ..).trans (if_pos rfl)
  have hb : (s.changeRecord p y .evaluation).sq.backlog.rack[p] = rackWaiting 1 s.hdr y.state s.sq.backlog.rack[p] := by
    obtain ⟨n, m, e⟩ := (s.recordMoved p y).raiseNotice_eq (.rack p) (.rack y.state .evaluation y.offset y.rate)
    change ((s.recordMoved p y).raiseNotice (.rack p) _).sq.backlog.rack[p] = _
    rw [e, State.recordMoved_eq]
    exact Vector.getElem_set_self ..
  have htsu : (s.changeRecord p y .evaluation).tsu = s.tsu := (s.changeRecord_share p y .evaluation).tsu
  obtain ⟨hhdr, hnow⟩ := State.hdr_congr htsu
  refine ⟨?_, ?_, fun w => ?_⟩
  · rw [State.rack_of_drm (s.changeRecord_fields p y .evaluation).2.1, State.rack_setRack_same]
  · rw [if_neg h, hhdr, hb]
  · rw [if_neg h, hnow, noticed_one, hn w]

/-- A second's work on a record is told. -/
theorem drmPort_told : s.Told p ((s.rack p).eachSecond s.drm.cfg (s.port p).state) (drmPort p s) := by
  unfold drmPort
  simp only
  split
  · rename_i h
    refine ⟨State.rack_setRack_same .., ?_, fun w => ?_⟩
    · rw [if_pos h, rackWaiting_zero]
      rfl
    · rw [if_pos h, noticed_zero]
      rfl
  · rename_i h
    exact s.changeRecord_told p h

theorem drmPort_quiet {P : Port → Prop} (h : ¬P p) : s.Quiet P (drmPort p s) := by
  unfold drmPort
  simp only
  split
  · exact s.setRack_quiet p h _
  · exact s.changeRecord_quiet p h _ _

/-- A rewrite of every record, as one port sees it. -/
theorem overPorts_setRack (g : RackRec → RackRec) :
    (overPorts (fun q t => t.setRack q (g (t.rack q))) s).rack p = g (s.rack p) := by
  obtain ⟨t, ht, hu⟩ := overPorts_split (fun q t => t.setRack_share q (g (t.rack q))) p s
  rw [hu.samePort.rack, State.rack_setRack_same, ht.samePort.rack]

theorem overPorts_setRack_hushed (P : Port → Prop) (g : RackRec → RackRec) :
    s.Hushed P (overPorts (fun q t => t.setRack q (g (t.rack q))) s) :=
  .overPorts (fun q t => t.setRack_hushed q _) s

/-! ### The row spread -/

theorem State.takeSpread_drm (sec : RowSec) : (s.takeSpread sec).drm = { s.drm with
    spread := s.rowSpread sec
    counted := s.countedPorts.length
    high := spreadHigh (s.rowSpread sec) s.drm.cfg.spreadLimit } := by
  unfold State.takeSpread
  simp only
  split
  · rfl
  · rw [(State.raiseNotice_fields _ _ _).2.1]
    rfl

theorem State.takeSpread_rack (sec : RowSec) : (s.takeSpread sec).rack p = s.rack p := by
  rw [State.rack, State.takeSpread_drm]
  rfl

theorem State.takeSpread_hushed (P : Port → Prop) (sec : RowSec) : s.Hushed P (s.takeSpread sec) := by
  have h : ∀ x : Drm, x.cfg = s.drm.cfg → s.Hushed P (s.setDrm x) := fun x hx =>
    ⟨hx, fun _ => rfl, fun _ _ => rfl, fun _ _ => rfl, fun _ _ _ => rfl⟩
  unfold State.takeSpread
  simp only
  split
  · exact h _ rfl
  · refine (h _ ?_).trans (State.raiseNotice_quiet _ (fun p e => ?_) _).toHushed
    · rfl
    · cases e

/-- The row spread depends on the records' states and their O. -/
theorem State.rowSpread_congr {s t : State} (h : ∀ p, (t.rack p).state = (s.rack p).state ∧ (t.rack p).offset = (s.rack p).offset)
    (sec : RowSec) : t.rowSpread sec = s.rowSpread sec ∧ t.countedPorts = s.countedPorts := by
  have hs : ∀ p, (t.rack p).state = (s.rack p).state := fun p => (h p).1
  have ho : ∀ p, (t.rack p).offset = (s.rack p).offset := fun p => (h p).2
  have hc : t.countedPorts = s.countedPorts := by simp only [State.countedPorts, hs]
  refine ⟨?_, hc⟩
  unfold State.rowSpread
  rw [hc, pickHigh_eq, pickHigh_eq, pickLow_eq, pickLow_eq]
  simp only [ho]

/-- DRM's row spread is the one of its records, and its flag is that spread's. -/
structure State.SpreadTaken (s : State) (sec : RowSec) (limit : Nat) : Prop where
  spread : s.drm.spread = s.rowSpread sec
  counted : s.drm.counted = s.countedPorts.length
  high : s.drm.high = spreadHigh s.drm.spread limit

theorem State.takeSpread_taken (sec : RowSec) : (s.takeSpread sec).SpreadTaken sec s.drm.cfg.spreadLimit := by
  obtain ⟨hrow, hcount⟩ := State.rowSpread_congr (s := s) (t := s.takeSpread sec)
    (fun p => by rw [s.takeSpread_rack p sec]; exact ⟨rfl, rfl⟩) sec
  refine ⟨?_, ?_, ?_⟩
  · rw [hrow, State.takeSpread_drm]
  · rw [hcount, State.takeSpread_drm]
  · rw [State.takeSpread_drm]

/-- DRM's boundary work on one record. -/
theorem State.drmBoundary_told (sec : RowSec) : s.Told p (((s.rack p).lowerHold).eachSecond s.drm.cfg (s.port p).state)
      (s.drmBoundary sec)
    ∧ (s.mlc.Waits → (s.drmBoundary sec).mlc = s.mlc) := by
  have hlow := overPorts_setRack_hushed s (· = p) RackRec.lowerHold
  have hrack := overPorts_setRack s p RackRec.lowerHold
  have hmlc := ((s.drmBoundary_aside sec).waits · |>.1)
  refine ⟨?_, hmlc⟩
  unfold State.drmBoundary
  simp only
  generalize overPorts (fun q t => t.setRack q (t.rack q).lowerHold) s = l at hlow hrack
  obtain ⟨a, ha, hz⟩ := overPorts_beside p (fun q t => drmPort_share t q) (fun q hq t => drmPort_quiet t q hq) l
  have hown := drmPort_told a p
  have harack : a.rack p = (s.rack p).lowerHold := (ha.quiet.rack p rfl).trans hrack
  rw [harack, ha.quiet.cfg, hlow.cfg, ha.quiet.state p rfl, hlow.state p rfl] at hown
  have hmine : (drmPort p a).rack p = ((s.rack p).lowerHold).eachSecond s.drm.cfg (s.port p).state := hown.rack
  have hmlc' : a.mlc.Waits → (drmPort p a).mlc = a.mlc := ((drmPort_share a p).waits · |>.1)
  refine .after (hlow.trans ha.quiet.toHushed) (by rw [harack, RackRec.lowerHold_state]) ?_
  refine hown.before hmlc' (hz.quiet.toHushed.trans (State.takeSpread_hushed _ _ sec)) ?_ ?_ rfl rfl rfl
  · exact (State.takeSpread_aside _ sec).tsu.trans hz.others.tsu
  · rw [State.takeSpread_rack, hz.quiet.rack p rfl, hmine]

theorem State.drmBoundary_taken (sec : RowSec) : (s.drmBoundary sec).SpreadTaken sec s.drm.cfg.spreadLimit := by
  have hlow := overPorts_setRack_hushed s (fun _ => False) RackRec.lowerHold
  unfold State.drmBoundary
  simp only
  generalize overPorts (fun q t => t.setRack q (t.rack q).lowerHold) s = l at hlow
  have hown : l.Hushed (fun _ => False) (overPorts drmPort l) :=
    .overPorts (fun q t => (drmPort_quiet t q id).toHushed) l
  rw [← hlow.cfg, ← hown.cfg]
  exact State.takeSpread_taken _ sec

/-! ### A step's share -/

theorem State.stepHolds_hushed (P : Port → Prop) (a b : Bool) : s.Hushed P (s.stepHolds a b) := by
  unfold State.stepHolds
  split
  · exact overPorts_setRack_hushed s P (·.hold b)
  · rfl

theorem State.stepHolds_rack_eq (a b : Bool) : (s.stepHolds a b).rack p = if a then (s.rack p).hold b else s.rack p := by
  unfold State.stepHolds
  split
  · exact overPorts_setRack s p (·.hold b)
  · rfl

theorem State.setRack_board (r : RackRec) : (s.setRack p r).drm.board = s.drm.board := rfl

theorem State.stepHolds_board (a b : Bool) : (s.stepHolds a b).drm.board = s.drm.board := by
  unfold State.stepHolds
  split
  · exact overPorts_keeps (P := fun t => t.drm.board = s.drm.board) _ (fun q t ht => (t.setRack_board q _).trans ht) s rfl
  · rfl

theorem RackRec.hold_told (r : RackRec) (b : Bool) : (r.hold b).offset = r.offset ∧ (r.hold b).rate = r.rate := by
  unfold RackRec.hold
  split <;> exact ⟨rfl, rfl⟩

end Drm

/-! ### The records' equations -/

section Records

variable {r : RackRec} (cfg : DriftCfg) (st : PortState)

theorem RackRec.hold_of_unseen (h : r.state = .unseen) (b : Bool) : r.hold b = r := if_pos h

theorem RackRec.hold_of_seen (h : r.state ≠ .unseen) (b : Bool) :
    r.hold b = { r with stepHold := 4, holdFresh := b, offsetSeed := true } := if_neg h

/-- A hold set before DRM's work of its boundary is whole after it. -/
theorem RackRec.eachSecond_held (h : r.state ≠ .unseen) : ((r.hold true).lowerHold).eachSecond cfg st
    = { r with stepHold := 4, holdFresh := false, offsetSeed := true, accepted := false } := by
  rw [RackRec.hold_of_seen h, RackRec.lowerHold]
  exact if_neg fun ⟨_, _, h4⟩ => by cases h4

theorem RackRec.eachSecond_unseen_iff (r : RackRec) : (r.eachSecond cfg st).state = .unseen ↔ r.state = .unseen := by
  rcases r.eachSecond_state cfg st with h | ⟨hr, hy⟩
  · rw [h]
  · exact iff_of_false ((RackState.evaluated_iff _).mp hy).1 ((RackState.evaluated_iff _).mp hr).1

end Records

/-! ### The boundary -/

section Boundary

variable (s : State) (sec : RowSec) (rec : BitVec 16)

/-- Whether the boundary takes a step. -/
def State.steps : Bool := (s.timeWork sec).1.tsu.gen != s.tsu.gen

theorem State.boundaryWork_tsu (d : Bool) : (s.boundaryWork sec d rec).tsu = (s.timeWork sec).1.tsu :=
  (s.boundaryWork_leaves sec d rec).tsu.trans (s.timeWork_tsu sec).symm

theorem State.steps_iff (d : Bool) : s.steps sec = true ↔ (s.boundaryWork sec d rec).tsu.gen ≠ s.tsu.gen := by
  rw [State.boundaryWork_tsu]
  exact bne_iff_ne

/-- REF's and TSU's work and DRM's leave the ports. -/
theorem State.raisedWork_units (d : Bool) : (s.raisedWork sec d).rle = s.rle ∧ (s.raisedWork sec d).eds = s.eds := by
  have h := s.raisedWork_racksOnly sec d
  obtain ⟨hrle, heds, -, -⟩ := s.timeWork_units sec
  exact ⟨h.rle.trans hrle, h.eds.trans heds⟩

variable {s} {p : Port}

theorem State.raisedWork_stays {n : Nat} (h : s.Stays p n) (d : Bool) : (s.raisedWork sec d).Stays p n := by
  obtain ⟨hrle, heds⟩ := s.raisedWork_units sec d
  rw [State.Stays, State.port_of_rle hrle, State.comp_of_eds heds]
  exact h

theorem State.raisedWork_false : s.raisedWork sec false = (s.timeRaised sec).stepHolds (s.steps sec) true := rfl

theorem State.raisedWork_true :
    s.raisedWork sec true = ((s.timeRaised sec).drmBoundary sec).stepHolds (s.steps sec) false := rfl

/-- The ports' work of a boundary of `s`, after DRM's work or before it. -/
def State.portsDone (s : State) (sec : RowSec) (d : Bool) (rec : BitVec 16) : State :=
  (s.raisedWork sec d).portsWork sec s.now s.clk.tickFrom.ns s.tsu.quiet (s.steps sec) rec

theorem State.boundaryWork_false : s.boundaryWork sec false rec = (s.portsDone sec false rec).drmBoundary sec :=
  (s.boundaryWork_eq sec false rec).trans (if_neg Bool.false_ne_true)

theorem State.boundaryWork_true : s.boundaryWork sec true rec = s.portsDone sec true rec :=
  (s.boundaryWork_eq sec true rec).trans (if_pos rfl)

theorem State.portsDone_quiet (h : s.Stays p s.clk.tickFrom.ns) (d : Bool) :
    (s.raisedWork sec d).Quiet (· = p) (s.portsDone sec d rec) :=
  State.portsWork_quiet (State.raisedWork_stays sec h d) sec s.now s.tsu.quiet (s.steps sec) rec

/-- With DRM's work after the step: a record is held, then has its second. -/
theorem State.boundaryWork_told_last (h : s.Stays p s.clk.tickFrom.ns) : s.Told p
    (((if s.steps sec then (s.rack p).hold true else s.rack p).lowerHold).eachSecond s.drm.cfg (s.port p).state)
    (s.boundaryWork sec false rec) := by
  have hq : s.Quiet (· = p) (s.timeRaised sec) := s.timeRaised_quiet sec
  have hh := (s.timeRaised sec).stepHolds_hushed (· = p) (s.steps sec) true
  have hp := State.portsDone_quiet sec rec h false
  have hrack := State.stepHolds_rack_eq (s.timeRaised sec) p (s.steps sec) true
  rw [hq.rack p rfl, ← State.raisedWork_false, ← hp.rack p rfl] at hrack
  rw [← State.raisedWork_false] at hh
  have hbefore := (hq.toHushed.trans hh).trans hp.toHushed
  have htold := (State.drmBoundary_told (s.portsDone sec false rec) p sec).1
  rw [hbefore.cfg, hbefore.state p rfl, hrack] at htold
  rw [State.boundaryWork_false]
  refine .after hbefore ?_ htold
  rw [hrack]
  split
  · exact RackRec.hold_state _ _
  · rfl

/-- With DRM's work before the step: a record has its second, then is held. -/
theorem State.boundaryWork_told_first {y : RackRec} (h : s.Stays p s.clk.tickFrom.ns)
    (hy : ((s.rack p).lowerHold).eachSecond s.drm.cfg (s.port p).state = y) :
    s.Told p (if s.steps sec then y.hold false else y) (s.boundaryWork sec true rec) := by
  have hq : s.Quiet (· = p) (s.timeRaised sec) := s.timeRaised_quiet sec
  obtain ⟨htold, hmlc⟩ := State.drmBoundary_told (s.timeRaised sec) p sec
  rw [hq.rack p rfl, hq.cfg, hq.state p rfl, hy] at htold
  have hh := ((s.timeRaised sec).drmBoundary sec).stepHolds_hushed (· = p) (s.steps sec) false
  have hp := State.portsDone_quiet sec rec h true
  have hrack := State.stepHolds_rack_eq ((s.timeRaised sec).drmBoundary sec) p (s.steps sec) false
  have htsu := (State.portsWork_aside (s.raisedWork sec true) sec s.now s.clk.tickFrom.ns s.tsu.quiet (s.steps sec) rec).tsu
  have hkept := (State.stepHolds_aside ((s.timeRaised sec).drmBoundary sec) (s.steps sec) false).tsu
  rw [htold.rack, ← State.raisedWork_true, ← hp.rack p rfl] at hrack
  rw [← State.raisedWork_true] at hh hkept
  rw [State.boundaryWork_true]
  refine .after hq.toHushed (by rw [hq.rack p rfl])
    (htold.before hmlc (hh.trans hp.toHushed) (htsu.trans hkept) hrack ?_ ?_ ?_)
  all_goals split
  · exact RackRec.hold_state _ _
  · rfl
  · exact (RackRec.hold_told _ _).1
  · rfl
  · exact (RackRec.hold_told _ _).2
  · rfl

/-! ### The row spread of a boundary -/

theorem State.portsDone_board (d : Bool) : (s.portsDone sec d rec).drm.board = (s.raisedWork sec d).drm.board :=
  (State.portsWork_drm _ sec s.now _ s.tsu.quiet (s.steps sec) rec).board

theorem State.drmBoundary_timeRaised_taken : ((s.timeRaised sec).drmBoundary sec).SpreadTaken sec s.drm.cfg.spreadLimit := by
  have hcfg : (s.timeRaised sec).drm.cfg = s.drm.cfg := (s.timeRaised_quiet (P := fun _ => False) sec).cfg
  rw [← hcfg]
  exact State.drmBoundary_taken _ sec

theorem State.board_eq {s t : State} (h : t.drm.board = s.drm.board) :
    t.drm.spread = s.drm.spread ∧ t.drm.counted = s.drm.counted ∧ t.drm.high = s.drm.high := by
  simpa only [Drm.board, Prod.mk.injEq] using h

theorem State.portsDone_true_board :
    (s.portsDone sec true rec).drm.board = ((s.timeRaised sec).drmBoundary sec).drm.board := by
  rw [State.portsDone_board, State.raisedWork_true, State.stepHolds_board]

theorem State.boundaryWork_false_taken : (s.boundaryWork sec false rec).SpreadTaken sec s.drm.cfg.spreadLimit := by
  have hq := (s.timeRaised_quiet (P := fun _ => False) sec).cfg
  have hh := ((s.timeRaised sec).stepHolds_hushed (fun _ => False) (s.steps sec) true).cfg
  have hp : (s.portsDone sec false rec).drm.cfg = (s.raisedWork sec false).drm.cfg :=
    (State.portsWork_drm _ sec s.now _ s.tsu.quiet (s.steps sec) rec).cfg
  rw [State.boundaryWork_false, ← hq, ← hh, ← State.raisedWork_false, ← hp]
  exact State.drmBoundary_taken _ sec

/-- The flag after a boundary is its row spread's, whatever becomes of the ports. -/
theorem State.boundaryWork_high (d : Bool) : (s.boundaryWork sec d rec).drm.high
    = spreadHigh (s.boundaryWork sec d rec).drm.spread s.drm.cfg.spreadLimit := by
  cases d with
  | false => exact (s.boundaryWork_false_taken sec rec).high
  | true =>
    obtain ⟨hspread, -, hhigh⟩ := State.board_eq (s.portsDone_true_board sec rec)
    rw [State.boundaryWork_true, hspread, hhigh]
    exact (s.drmBoundary_timeRaised_taken sec).high

/-- The row spread after a boundary, where no port is taken to FAULTED after DRM's work. -/
theorem State.boundaryWork_spread (d : Bool) (h : d = false ∨ ∀ p, s.Stays p s.clk.tickFrom.ns) :
    (s.boundaryWork sec d rec).drm.spread = (s.boundaryWork sec d rec).rowSpread sec
    ∧ (s.boundaryWork sec d rec).drm.counted = (s.boundaryWork sec d rec).countedPorts.length := by
  cases d with
  | false =>
    have ht := s.boundaryWork_false_taken sec rec
    exact ⟨ht.spread, ht.counted⟩
  | true =>
    have hstays := h.resolve_left (by decide)
    have ht := s.drmBoundary_timeRaised_taken sec
    obtain ⟨hspread, hcounted, -⟩ := State.board_eq (s.portsDone_true_board sec rec)
    obtain ⟨hrow, hcount⟩ := State.rowSpread_congr (s := (s.timeRaised sec).drmBoundary sec) (t := s.portsDone sec true rec)
      (fun p => by
        rw [(State.portsDone_quiet sec rec (hstays p) true).rack p rfl, State.raisedWork_true]
        exact State.stepHolds_rack _ _ _ p) sec
    rw [State.boundaryWork_true, hspread, hcounted, hrow, hcount]
    exact ⟨ht.spread, ht.counted⟩

/-! ### The record of a port that stays -/

variable {rec}

/-- The record of a port that stays, by whether a step is taken and whether DRM's work comes before it. -/
theorem State.boundaryWork_record (d : Bool) (h : s.Stays p s.clk.tickFrom.ns) :
    let r := s.rack p
    let y := (r.lowerHold).eachSecond s.drm.cfg (s.port p).state
    let t := s.boundaryWork sec d rec
    ∃ z, s.Told p z t
      ∧ (t.tsu.gen = s.tsu.gen ∨ r.state = .unseen → z = y)
      ∧ (t.tsu.gen ≠ s.tsu.gen → r.state ≠ .unseen → d = true →
        z = { y with stepHold := 4, holdFresh := false, offsetSeed := true })
      ∧ (t.tsu.gen ≠ s.tsu.gen → r.state ≠ .unseen → d = false →
        z = { r with stepHold := 4, holdFresh := false, offsetSeed := true, accepted := false }) := by
  intro r y t
  have hsteps : s.steps sec = true ↔ t.tsu.gen ≠ s.tsu.gen := s.steps_iff sec rec d
  cases d with
  | false =>
    refine ⟨_, s.boundaryWork_told_last sec rec h, fun hk => ?_, fun _ _ => nofun, fun hg hu _ => ?_⟩
    · rcases hk with hg | hu
      · rw [if_neg (hsteps.not.mpr (not_not.mpr hg))]
      · rw [RackRec.hold_of_unseen hu, ite_self]
    · rw [if_pos (hsteps.mpr hg)]
      exact RackRec.eachSecond_held _ _ hu
  | true =>
    have hseen : r.state ≠ .unseen → y.state ≠ .unseen := fun hu => by
      rw [Ne, RackRec.eachSecond_unseen_iff, RackRec.lowerHold_state]
      exact hu
    refine ⟨_, s.boundaryWork_told_first sec rec h (y := y) rfl, fun hk => ?_, fun hg hu _ => ?_, fun _ _ => nofun⟩
    · rcases hk with hg | hu
      · rw [if_neg (hsteps.not.mpr (not_not.mpr hg))]
      · have hy : y.state = .unseen := by
          rw [RackRec.eachSecond_unseen_iff, RackRec.lowerHold_state]
          exact hu
        rw [RackRec.hold_of_unseen hy, ite_self]
    · rw [if_pos (hsteps.mpr hg), RackRec.hold_of_seen (hseen hu)]

end Boundary

/-- A departure faults no port without an exchange, none that is not UP, and none whose losses are too few. -/
theorem PortRec.not_losing {r : PortRec} (h : r.exch = none ∨ r.state ≠ .up ∨ r.missRun + 1 < r.loss) : ¬r.Losing := by
  rintro ⟨he, hup, hl⟩
  have hrun : r.miss.missRun ≤ r.missRun + 1 := by
    simp only [PortRec.miss, raiseBy]
    split <;> omega
  rcases h with h | h | h
  · exact he h
  · exact h hup
  · omega

/-- What a second boundary from `s`, rolled at `u`, leaves in `t` of the record of a port: what is told of it, and the record
by whether a step is taken and when. -/
structure State.SecondTold (s t : State) (d : Bool) (p : Port) (y : RackRec) : Prop where
  told : s.Told p (t.rack p) t
  same : t.tsu.gen = s.tsu.gen ∨ (s.rack p).state = .unseen → t.rack p = y
  heldAfter : t.tsu.gen ≠ s.tsu.gen → (s.rack p).state ≠ .unseen → d = true →
    t.rack p = { y with stepHold := 4, holdFresh := false, offsetSeed := true }
  heldBefore : t.tsu.gen ≠ s.tsu.gen → (s.rack p).state ≠ .unseen → d = false →
    t.rack p = { s.rack p with stepHold := 4, holdFresh := false, offsetSeed := true, accepted := false }

/-- DRM's work at SECOND_BOUNDARY, `u` the state at the roll's tick. -/
theorem exec_secondBoundary_drm {s u : State} (hu : s.runTicks s.ticksToRoll = u) (hh : s.mlc.held = false)
    (hm : s.tsu.mark ≠ some u.tsu.ts.sec) (d : Bool) (rec : BitVec 16) :
    ∃ t, exec (.secondBoundary ⟨d, rec⟩) s = .next t
      ∧ (d = false ∨ (∀ p, s.Stays p u.clk.tickFrom.ns) → t.drm.spread = t.rowSpread u.tsu.ts.sec
        ∧ t.drm.counted = t.countedPorts.length)
      ∧ t.drm.high = spreadHigh t.drm.spread s.drm.cfg.spreadLimit
      ∧ ∀ p, s.Stays p u.clk.tickFrom.ns →
          s.SecondTold t d p (((s.rack p).lowerHold).eachSecond s.drm.cfg (s.port p).state) := by
  obtain ⟨hrle, heds, hdrm⟩ := hu ▸ s.runTicks_units s.ticksToRoll
  have hk : s.Ticked u := hu ▸ s.runTicks_ticked s.ticksToRoll
  have hexec := (exec_secondBoundary hh ⟨d, rec⟩).trans (congrArg _ (State.roll_of_unmarked hu hm d rec))
  have hspread := u.atRoll.boundaryWork_spread u.tsu.ts.sec rec d
  have hhigh := u.atRoll.boundaryWork_high u.tsu.ts.sec rec d
  have hrecord := fun p => State.boundaryWork_record (s := u.atRoll) (p := p) (rec := rec) u.tsu.ts.sec d
  have hport : ∀ p, u.atRoll.port p = s.port p := State.port_of_rle hrle
  have hcomp : ∀ p, u.atRoll.comp p = s.comp p := State.comp_of_eds heds
  have hrack : ∀ p, u.atRoll.rack p = s.rack p := State.rack_of_drm hdrm
  have hcfg : u.atRoll.drm.cfg = s.drm.cfg := congrArg Drm.cfg hdrm
  have hgen : u.atRoll.tsu.gen = s.tsu.gen := hk.gen
  have hfrom : u.atRoll.clk.tickFrom.ns = u.clk.tickFrom.ns := rfl
  have hstays : ∀ p, u.atRoll.Stays p u.clk.tickFrom.ns ↔ s.Stays p u.clk.tickFrom.ns := fun p => by
    rw [State.Stays, hport, hcomp, State.Stays]
  simp only [hfrom, hstays, hcfg, hrack, hport, hgen] at hspread hhigh hrecord
  generalize u.atRoll.boundaryWork u.tsu.ts.sec d rec = t at hexec hspread hhigh hrecord
  refine ⟨t, hexec, hspread, hhigh, fun p hp => ?_⟩
  obtain ⟨z, hz, hsame, hfirst, hlast⟩ := hrecord p hp
  have htold : s.Told p z t := hz.of_same (by rw [hrack]) (by rw [← hk.sq]; rfl) hk.waits.mpr
    fun _ => congrArg (fun n : Ntu => n.at (.rack p)) hk.ntu
  rw [← htold.rack] at hsame hfirst hlast htold
  exact ⟨htold, hsame, hfirst, hlast⟩

/-- The pushed record as the statement writes it. -/
theorem RackRec.push_account (r : RackRec) (cfg : DriftCfg) (hl : r.history.length ≤ 16) :
    let h := if r.history.length < 16 then r.history ++ [r.offset] else r.history.drop 1 ++ [r.offset]
    let rate : Int :=
      if h.length < 2 then 0
      else clamp (-100000000) 100000000 (roundDiv ((r.offset - h.head?.getD 0) * 1000) (h.length - 1))
    r.push cfg = { r with
      history := h
      rate := rate
      alarmIn := if cfg.offAlarm ≤ r.offset.natAbs then 0
        else if rate = 0 ∨ (0 < r.offset ∧ rate < 0) ∨ (r.offset < 0 ∧ 0 < rate) then 65535
        else min 65535 ((cfg.offAlarm - r.offset.natAbs) * 1000 / rate.natAbs) } := by
  intro h rate
  obtain ⟨k, hk⟩ : ∃ k, h = k ++ [r.offset] := by
    simp only [h]
    split <;> exact ⟨_, rfl⟩
  have hrate : rate = driftRate (k ++ [r.offset]) := by
    rw [driftRate_push, ← hk]
  rw [hrate, hk, r.push_eq cfg ((r.push_history cfg hl).trans hk), timeToAlarm_eq]

/-- Settles O43: the boundary around DRM's work on a port that stays, then the record's second and the row spread by their
cases. -/
theorem eachSecondPushesHistoryAndSpread : Obligations.EachSecondPushesHistoryAndSpread := by
  refine ⟨fun s d rec hh => ?_, fun r cfg st => ?_, fun s sec => ?_⟩
  · intro u hm stays
    obtain ⟨t, hexec, hspread, hhigh, htold⟩ := exec_secondBoundary_drm (u := u) rfl hh hm d rec
    have hstays : ∀ p, stays p → s.Stays p u.clk.tickFrom.ns := by
      rintro p (h | h | h)
      · exact .inl (PortRec.not_losing (.inl h))
      · exact .inr h
      · exact .inl (PortRec.not_losing (.inr h))
    refine ⟨t, hexec, fun h => ?_, hhigh, fun p hp => ?_⟩
    · rw [← State.countedPorts_length]
      exact hspread (h.imp_right fun h p => hstays p (h p))
    · have hp := htold p (hstays p hp)
      exact ⟨hp.same, hp.heldAfter, hp.heldBefore, hp.told.waiting, hp.told.notice⟩
  · intro h rate alarmIn x takes
    have hx : r.history.length ≤ 16 → r.push cfg = x := r.push_account cfg
    have hlen := r.push_history_length cfg
    refine ⟨RackRec.eachSecond_of_not, fun ht hl => ?_, fun ht hl => ⟨fun hr => ?_, fun hu hlost => ?_⟩⟩
    · rw [RackRec.eachSecond_pushed ht, hx (by omega)]
      rintro ⟨hf, -⟩
      rw [hlen (by omega)] at hf
      omega
    · rw [RackRec.eachSecond_pushed ht, hx (by omega)]
      rintro ⟨-, he⟩
      obtain ⟨ku, kl⟩ := (RackState.evaluated_iff _).mp he
      exact hr.elim ku kl
    · rw [RackRec.eachSecond_evaluated ht _ ((RackState.evaluated_iff _).mpr ⟨hu, hlost⟩), hx (by omega)]
      rw [hlen (by omega)]
      omega
  · intro valid n
    have hn : n = s.countedPorts.length := s.countedPorts_length.symm
    rw [hn]
    refine ⟨State.rowSpread_none sec, fun hi lo h2 vhi vlo hhi hlo => ?_, fun h => if_pos h, fun h => if_neg h⟩
    refine State.rowSpread_some sec h2 ((s.mem_countedPorts hi).mpr vhi) ((s.mem_countedPorts lo).mpr vlo)
      (fun p hp => hhi p ((s.mem_countedPorts p).mp hp)) (fun p hp => ?_)
    exact (hlo p ((s.mem_countedPorts p).mp hp)).imp neg_lt_neg (.imp_left (congrArg _))

end Sys2Proof.Machine
end
